-- ==== Sys2Proof/Word.lean ====
section
/-!
DEFINITION. Words, bytes and the plainest arithmetic of the model: bit fields, time units and the sparse maps
that hold sparse state. Rules R2 and R11 give the sizes.
-/
set_option autoImplicit false

namespace Sys2Proof

/-- A register word: 32 bits, little-endian on the bus (R2, "Byte order"). -/
abbrev Word := BitVec 32
/-- One byte. -/
abbrev Byte := BitVec 8

/-- Model time is counted in units of 1/8192 ps, the largest unit in which a picosecond, 2^-16 ns and one Axis
clock cycle (0.8 ns) are all whole numbers. -/
def auPerPs : Nat := 8192
/-- Units in one nanosecond. -/
def auPerNs : Nat := 8192000
/-- Units in one microsecond. -/
def auPerUs : Nat := 8192000000
/-- Units in one millisecond. -/
def auPerMs : Nat := 8192000000000
/-- Units in one second. -/
def auPerSec : Nat := 8192000000000000
/-- Units in one Axis clock cycle: 800 ps (Table 0.4). -/
def auPerCycle : Nat := 6553600
/-- Units in one trust tick: 1,024 Axis clock cycles, 819.2 ns (R13). -/
def auPerTick : Nat := 6710886400
/-- Units in one step of AXIS_FRAC, 2^-16 ns. -/
def auPerFrac : Nat := 125

/-- AXIS_UNC saturates here (R23): 0xFFFF_FFFF_FFFF_FFFF ps. -/
def uncMax : Nat := 18446744073709551615
/-- The largest value of a 32-bit saturating counter. -/
def max32 : Nat := 4294967295

/-- Quotient rounded up. -/
def ceilDiv (a b : Nat) : Nat := (a + b - 1) / b

/-- Add, saturating at `m`. -/
def satAdd (m a b : Nat) : Nat := min m (a + b)

/-- A 32-bit counter saturating at 0xFFFF_FFFF. -/
def incSat (w : Word) : Word := if w = BitVec.allOnes 32 then w else w + 1

/-- A field value `v` placed at bit `lo` of a word. -/
def fld (lo v : Nat) : Word := BitVec.ofNat 32 v <<< lo

/-- A one-bit field. -/
def flag (lo : Nat) (b : Bool) : Word := if b then fld lo 1 else 0

/-- Bits `lo` to `lo + n - 1` of a word as a number. -/
def bits (w : Word) (lo n : Nat) : Nat := (w.toNat >>> lo) % 2 ^ n

/-- The low and high words of a 64-bit number. -/
def lo32 (n : Nat) : Word := BitVec.ofNat 32 n
/-- Bits 63 to 32 of a number. -/
def hi32 (n : Nat) : Word := BitVec.ofNat 32 (n >>> 32)

/-- An integer as a 64-bit two's-complement number. -/
def twos64 (z : Int) : Nat := (z % 18446744073709551616).toNat

/-- A number of 64 bits read as two's complement. -/
def ofTwos64 (n : Nat) : Int := if n < 9223372036854775808 then n else (n : Int) - 18446744073709551616

/-- The natural number a `Bool` stands for. -/
def b2n (b : Bool) : Nat := if b then 1 else 0

/-- Look a key up in a list of pairs. -/
def assoc {κ α : Type} [DecidableEq κ] (k : κ) : List (κ × α) → Option α
  | [] => none
  | (a, v) :: r => if a = k then some v else assoc k r

/-- Remove a key from a list of pairs. -/
def unassoc {κ α : Type} [DecidableEq κ] (k : κ) : List (κ × α) → List (κ × α)
  | [] => []
  | (a, v) :: r => if a = k then unassoc k r else (a, v) :: unassoc k r

/-- Set a key in a list of pairs. -/
def reassoc {κ α : Type} [DecidableEq κ] (k : κ) (v : α) (l : List (κ × α)) : List (κ × α) :=
  (k, v) :: unassoc k l

/-- Set a cell of a sparse table held in ascending key order, with no entry equal to the default `d`. -/
def sparseSet {α : Type} [DecidableEq α] (d : α) (k : Nat) (v : α) : List (Nat × α) → List (Nat × α)
  | [] => if v = d then [] else [(k, v)]
  | (a, w) :: r =>
    if a < k then (a, w) :: sparseSet d k v r
    else if a = k then (if v = d then r else (k, v) :: r)
    else if v = d then (a, w) :: r else (k, v) :: (a, w) :: r

/-- Read a cell of such a table. -/
def sparseGet {α : Type} (d : α) (k : Nat) : List (Nat × α) → α
  | [] => d
  | (a, w) :: r => if a = k then w else sparseGet d k r

/-- The canonical form of such a table: keys strictly rising, no default entry. -/
def sparseWf {α : Type} [DecidableEq α] (d : α) : List (Nat × α) → Bool
  | [] => true
  | [(_, w)] => decide (w ≠ d)
  | (a, w) :: (b, x) :: r => decide (w ≠ d) && decide (a < b) && sparseWf d ((b, x) :: r)

end Sys2Proof
end

