-- ==== Sys2Proof/Syntax.lean ====
section
/-!
DEFINITION. The commands: one constructor for each row of the opcode table, with the row's operands. Where an event's row
gives no operand form, the operands are what comes from outside the engine in it: which input, port or channel, the data
received, and the time within the trust tick (notes/assumptions/2.md).
-/
set_option autoImplicit false

namespace Sys2Proof

/-- What an atomic reference shows: an APPS edge, `sub` model units after the latest trust tick; FREF over 1 s, in units
of 10^-9 from 10 MHz (none: missing for 100 cycles); or a level of ALOCK. -/
inductive AtomEvent where
  | apps (sub : Nat)
  | fref (d : Option Int)
  | alock (level : Bool)
deriving DecidableEq, Repr

/-- The data of an Announce from a PTP client's parent: its identity, quality, the TAI-UTC offset when
currentUtcOffsetValid is set, the leap flags, and the announce and sync intervals in ps. -/
structure AnnounceData where
  parent : Nat
  clockClass : Nat
  accuracy : Nat
  utc : Option Int
  leap61 : Bool
  leap59 : Bool
  annInt : Nat
  syncInt : Nat
deriving DecidableEq, Repr

/-- A message at a PTP client: an Announce of the best master, a Sync, or a completed delay exchange and its offset in
ps. -/
inductive PtpMsg where
  | announce (a : AnnounceData)
  | sync
  | exchange (ofs : Int)
deriving DecidableEq, Repr

/-- The address of a client: IPv4 (32 bits), IPv6 (128 bits), or a MAC address for PTP over Ethernet. -/
inductive Addr where
  | v4 (a : Nat)
  | v6 (a : Nat)
  | mac (a : Nat)
deriving DecidableEq, Repr

/-- A PTP event or signalling message at a master port: its source, its sequence number and the time in model units
after the latest trust tick at which its timestamp point crossed the MDI. -/
structure PtpReq where
  src : Addr
  udp : Nat := 319
  seq : Nat := 0
  len : Nat := 64
  sub : Nat := 0
deriving DecidableEq, Repr

/-- The NTS fields of a request (R276): the unique identifier, the cookie as sent, the number of placeholders and the
bytes the authenticator covers. -/
structure NtsPart where
  uid : List Byte
  cookie : List Byte
  placeholders : Nat
  packet : List Byte
deriving DecidableEq, Repr

/-- An NTP request as the parser leaves it: source, tag bytes, NTP version and mode, poll, the client's transmit
timestamp (64 bits), whether a legacy MAC trailer follows, and the time after the latest trust tick at which its
timestamp point crossed the MDI. -/
structure NtpReq where
  src : Addr
  udp : Nat := 123
  tags : Nat := 0
  version : Nat := 4
  mode : Nat := 3
  poll : Nat := 6
  txTs : Nat := 0
  mac : Bool := false
  sub : Nat := 0
deriving DecidableEq, Repr

/-- What happens to a Deckline frame that is sent: it went out whole and its echo came back after so many ns; it could not
be launched at its instant; or an echoed bit was wrong and it was abandoned (R351, R355). -/
inductive Echo where
  | sent (ns : Nat)
  | late
  | collided
deriving DecidableEq, Repr

/-- The commands of the block, one per row of the opcode table. -/
inductive Instr where
  /-- REGISTER_WRITE (R4). -/
  | registerWrite (off : Nat) (v : Word)
  /-- WIDE_VALUE_LOW_READ (R7). -/
  | wideValueLowRead (off : Nat)
  /-- WIDE_VALUE_HIGH_WRITE (R8). -/
  | wideValueHighWrite (off : Nat) (v : Word)
  /-- AXIS_NOW_READ (R13). -/
  | axisNowRead (sub : Nat)
  /-- BAR2_WRITE (R60). -/
  | bar2Write (addr : Nat) (data : List Byte) (errs : List (Nat × Bool))
  /-- BAR2_READ (R62). -/
  | bar2Read (addr : Nat) (n : Nat) (errs : List (Nat × Bool))
  /-- TRUST_TICK (R13). -/
  | trustTick
  /-- LEAP_TAKES_EFFECT (R513). -/
  | leapTakesEffect
  /-- SMEAR_WINDOW_START (R33). -/
  | smearWindowStart
  /-- SHOW (R472). -/
  | mywiShow (ses : Fin 11) (args : List String)
  /-- SHOW_PRONG_CLIENT (R472). -/
  | mywiShowProngClient (ses : Fin 11) (addr : String)
  /-- SET (R473). -/
  | mywiSet (ses : Fin 11) (args : List String)
  /-- CLEAR (R474). -/
  | mywiClear (ses : Fin 11) (path : String)
  /-- CLEAR_ITEM (R474). -/
  | mywiClearItem (ses : Fin 11) (path item : String)
  /-- LIST (R475). -/
  | mywiList (ses : Fin 11) (args : List String)
  /-- WHICH (R476). -/
  | mywiWhich (ses : Fin 11) (args : List String)
  /-- SET_SYSTEM_MODE (R39). -/
  | setSystemMode (ses : Fin 11) (value : String)
  /-- RESTART_WARM (R96). -/
  | restartWarm (ses : Fin 11)
  /-- RESTART_COLD (R96). -/
  | restartCold (ses : Fin 11)
  /-- RESTART_COLD_FORCE (R96). -/
  | restartColdForce (ses : Fin 11)
  /-- RESTART_WARDEN (R468). -/
  | restartWarden (ses : Fin 11)
  /-- WARDEN_RESTART (R469). -/
  | wardenRestart
  /-- SEAL_PENDING_DRAINED (R41). -/
  | sealPendingDrained
  /-- RESTART_BLOCKS_CONFIGURED (R41). -/
  | restartBlocksConfigured
  /-- SIGNING_RESUMES (R42). -/
  | signingResumes
  /-- WAVEFRONT_WRAP (R53). -/
  | wavefrontWrap (n : Fin 48) (diff : Int)
  /-- ECHO_CALIBRATION (R55). -/
  | echoCalibration (n : Fin 48) (meas : Int)
  /-- POWER_ON (R84). -/
  | powerOn (mv : Nat)
  /-- XO32_ABSENT (R76). -/
  | xo32Absent
  /-- AON_LOW (R85). -/
  | aonLow (mv : Nat)
  /-- RAIL_FAIL (R86). -/
  | railFail (r : Fin 8)
  /-- COLD_RESET (R93). -/
  | coldReset
  /-- BOOT_START (R99). -/
  | bootStart (sfdp osc : Bool)
  /-- PMBUS_SCAN (R106). -/
  | pmbusScan (found : List (Nat × List Nat)) (stuck : Bool)
  /-- BLOCK_RELEASE (R108). -/
  | blockRelease
  /-- BOOT_DONE (R105). -/
  | bootDone (us : Nat)
  /-- OSC_ABSENT (R104). -/
  | oscAbsent
  /-- OSC_IN_APPEARS (R104). -/
  | oscInAppears
  /-- PCIE_PERST (R94). -/
  | pciePerst (level : Bool)
  /-- PCIE_CONFIG_WRITE (R490). -/
  | pcieConfigWrite (busMaster msixEn msixMask : Bool) (d3hot : Bool)
  /-- BLOCK_RESET_PORT (R97). -/
  | blockResetPort (ses : Option (Fin 11)) (p : Fin 4)
  /-- BLOCK_RESET_PRONG_GROUP (R290). -/
  | blockResetProngGroup (ses : Option (Fin 11)) (g : Fin 4)
  /-- BLOCK_RESET_LAT (R97). -/
  | blockResetLat (ses : Option (Fin 11)) (n : Fin 4)
  /-- BLOCK_RESET_DECK (R97). -/
  | blockResetDeck (ses : Option (Fin 11)) (n : Fin 2)
  /-- BLOCK_RESET_IBEX (R400). -/
  | blockResetIbex (ses : Option (Fin 11))
  /-- BLOCK_RESET_DMA (R97). -/
  | blockResetDma (ses : Option (Fin 11))
  /-- BLOCK_RESET_TALLY (R97). -/
  | blockResetTally (ses : Option (Fin 11))
  /-- BLOCK_RESET_DONE (R97). -/
  | blockResetDone (k : Nat)
  /-- IMAGE_WRITE_STORE (R130). -/
  | imageWriteStore (ses : Fin 11) (args : List String)
  /-- IMAGE_WRITE_BEGIN (R479). -/
  | imageWriteBegin (ses : Fin 11) (args : List String)
  /-- IMAGE_CHUNK (R479). -/
  | imageChunk (ses : Fin 11) (args : List String)
  /-- IMAGE_WRITE_END (R479). -/
  | imageWriteEnd (ses : Fin 11)
  /-- IMAGE_WRITE_DONE (R129). -/
  | imageWriteDone (flashOk : Bool)
  /-- IMAGE_ACTIVATE (R131). -/
  | imageActivate (ses : Fin 11) (args : List String)
  /-- IMAGE_OWNER_ENROLL (R120). -/
  | imageOwnerEnroll (ses : Fin 11) (args : List String)
  /-- IMAGE_OWNER_REVOKE (R120). -/
  | imageOwnerRevoke (ses : Fin 11) (args : List String)
  /-- IMAGE_ROLLBACK_COMMIT (R121). -/
  | imageRollbackCommit (ses : Fin 11)
  /-- MYWI_LINE (R147). -/
  | mywiLine (ses : Fin 11)
  /-- SESSION_START (R155). -/
  | sessionStart (ses : Fin 11)
  /-- AUTH (R151). -/
  | mywiAuth (ses : Fin 11) (args : List String)
  /-- AUTH_REPLY (R151). -/
  | mywiAuthReply (ses : Fin 11) (args : List String)
  /-- AUTH_LOCK_EXPIRY (R152). -/
  | authLockExpiry (t : Fin 4)
  /-- AUTH_LOCAL (R153). -/
  | mywiAuthLocal (ses : Fin 11)
  /-- AUTH_END (R150). -/
  | mywiAuthEnd (ses : Fin 11)
  /-- AUTH_ACCOUNT (R478). -/
  | mywiAuthAccount (ses : Fin 11) (args : List String)
  /-- QUIT (R477). -/
  | mywiQuit (ses : Fin 11)
  /-- MYWI_IDLE (R150). -/
  | mywiIdle (ses : Fin 11)
  /-- CON0_BREAK (R156). -/
  | con0Break
  /-- HSPI_WRITE (R158). -/
  | hspiWrite (data : List Byte)
  /-- HSPI_READ (R158). -/
  | hspiRead (n : Nat)
  /-- HSPI_STATUS (R158). -/
  | hspiStatus
  /-- MBX_IN_PROD_WRITE (R159). -/
  | mbxInProdWrite (v : Word)
  /-- MBX_RESET (R159). -/
  | mbxReset
  /-- MGMT_CONNECT (R161). -/
  | mgmtConnect (ok : Bool)
  /-- MGMT_OUTPUT_BLOCKED (R163). -/
  | mgmtOutputBlocked (ses : Fin 11)
  /-- GNSS_PPS_EDGE (R168). -/
  | gnssPpsEdge (i : Fin 4) (sub : Nat)
  /-- NMEA_SENTENCE (R168). -/
  | nmeaSentence (i : Fin 4) (text : List Byte)
  /-- ATOM_EDGE (R170). -/
  | atomEdge (i : Fin 2) (ev : AtomEvent)
  /-- ESMC_PDU (R171). -/
  | esmcPdu (p : Fin 4) (ssm : Nat) (ext : Option Nat)
  /-- PTP_CLIENT_MESSAGE (R172). -/
  | ptpClientMessage (p : Fin 4) (m : PtpMsg)
  /-- REF_DOWN (R167). -/
  | refDown (i : Fin 20)
  /-- HOLD_OFF_EXPIRY (R167). -/
  | holdOffExpiry (i : Fin 20)
  /-- WAIT_TO_RESTORE_EXPIRY (R166). -/
  | waitToRestoreExpiry (i : Fin 20)
  /-- CROSS_CHECK (R176). -/
  | crossCheck (synce : List (Option Int))
  /-- LOOP_UPDATE (R180). -/
  | loopUpdate (fdiff : Int)
  /-- ACQUISITION_STEP (R183). -/
  | acquisitionStep
  /-- SLEW_COMPLETE (R186). -/
  | slewComplete
  /-- TANGENT_SAMPLE (R191). -/
  | tangentSample
  /-- HOLDOVER_PREDICT (R196). -/
  | holdoverPredict
  /-- TEMP_READ (R195). -/
  | tempRead (die : Int) (pmb : Option Int)
  /-- OSC_LOST (R190). -/
  | oscLost
  /-- OSC_RETURN (R190). -/
  | oscReturn
  /-- PULSE_INSTANT (R205). -/
  | pulseInstant (n : Fin 4)
  /-- SKEW_CALIBRATION (R211). -/
  | skewCalibration (o : Fin 12) (pad : Nat)
  /-- ALIGN_EDGE (R209). -/
  | alignEdge (n : Fin 4) (sub : Nat)
  /-- ALIGN_HOLD (R210). -/
  | alignHold (n : Fin 4)
  /-- IRIGB_FRAME_BUILD (R217). -/
  | irigbFrameBuild
  /-- CALIPER_EDGE (R221). -/
  | caliperEdge (c : Fin 40) (falling : Bool) (sub : Nat)
  /-- CAL_POP0_READ (R228). -/
  | calPop0Read (c : Fin 40)
  /-- INTERVAL_PAIR (R230). -/
  | intervalPair (c : Fin 40)
  /-- INTERVAL_TIMEOUT (R234). -/
  | intervalTimeout (c : Fin 40)
  /-- GATE_START (R238). -/
  | gateStart (c : Fin 40)
  /-- GATE_END (R237). -/
  | gateEnd (c : Fin 40)
  /-- CODE_DENSITY_TABLE (R243). -/
  | codeDensityTable (c : Fin 40) (hits : List Nat)
  /-- CD_SLOW (R243). -/
  | cdSlow (c : Fin 40)
  /-- CAL_DLL (R242). -/
  | calDll (i : Fin 4)
  /-- CAL_CD_SEL_WRITE (R243). -/
  | calCdSelWrite (line : Nat)
  /-- PCS_MARKER (R247). -/
  | pcsMarker (p k : Fin 4) (tx : Bool) (diff : Int)
  /-- TS_READY (R256). -/
  | tsReady (l : Fin 16)
  /-- PORT_REFINE (R256). -/
  | portRefine (p k : Fin 4)
  /-- SIGNAL_DETECT (R264). -/
  | signalDetect (p k : Fin 4)
  /-- LINK_UP (R264). -/
  | linkUp (p k : Fin 4) (skew phase : Nat)
  /-- LINK_DOWN (R258). -/
  | linkDown (p k : Fin 4)
  /-- LINK_RETRY (R264). -/
  | linkRetry (p k : Fin 4)
  /-- SET_PORT_MODE (R265). -/
  | setPortMode (ses : Fin 11) (p : Fin 4) (value : String)
  /-- PORT_MODE (R265). -/
  | portMode (p : Fin 4)
  /-- PREEMPT_VERIFY (R259). -/
  | preemptVerify (p : Fin 4) (ok : Bool)
  /-- FRAME_RECEIVE (R251). -/
  | frameReceive (l : Fin 16) (frame : List Byte) (sub : Nat) (fecOk fcsOk : Bool)
  /-- LAUNCH_RELEASE (R258). -/
  | launchRelease (l : Fin 16) (early : Nat)
  /-- PTP_SYNC_SEND (R279). -/
  | ptpSyncSend (l : Fin 16) (dst : Option Addr) (sub : Nat)
  /-- PTP_ANNOUNCE_SEND (R262). -/
  | ptpAnnounceSend (l : Fin 16) (dst : Option Addr) (sub : Nat)
  /-- ESMC_INFORMATION_PDU (R263). -/
  | esmcInformationPdu (p : Fin 4)
  /-- NTP_REQUEST (R273). -/
  | ntpRequest (l : Fin 16) (r : NtpReq)
  /-- NTS_REQUEST (R276). -/
  | ntsRequest (l : Fin 16) (r : NtpReq) (n : NtsPart)
  /-- DELAY_REQ (R279). -/
  | delayReq (l : Fin 16) (r : PtpReq)
  /-- PDELAY_REQ (R279). -/
  | pdelayReq (l : Fin 16) (r : PtpReq)
  /-- REQUEST_UNICAST_TRANSMISSION (R280). -/
  | requestUnicastTransmission (l : Fin 16) (a : Addr) (kind : Nat) (period : Int) (dur : Nat)
  /-- CANCEL_UNICAST_TRANSMISSION (R280). -/
  | cancelUnicastTransmission (l : Fin 16) (a : Addr) (kind : Nat)
  /-- GRANT_EXPIRY (R280). -/
  | grantExpiry
  /-- NTS_KE_CONNECTION (R276). -/
  | ntsKeConnection (l : Fin 16) (a : Addr)
  /-- CLIENT_TABLE_SWEEP (R282). -/
  | clientTableSweep (bucket : Nat)
  /-- CACHE_EVICTION (R285). -/
  | cacheEviction (q : Fin 16)
  /-- FLUSH_CLASS (R286). -/
  | flushClass (ses : Option (Fin 11)) (c : Fin 64)
  /-- FLUSH_CLASS_ALL (R286). -/
  | flushClassAll (ses : Option (Fin 11))
  /-- PRONG_HASH_GO (R281). -/
  | prongHashGo (af : Bool)
  /-- NTS_KEY_ROTATION (R278). -/
  | ntsKeyRotation
  /-- NTS_KEY_ERASE (R278). -/
  | ntsKeyErase
  /-- POLICY_BANK_SWITCH (R287). -/
  | policyBankSwitch
  /-- GROUP_RETURN (R290). -/
  | groupReturn (g : Fin 4)
  /-- CRP_REQUEST (R301). -/
  | crpRequest (l : Fin 16) (a : Addr) (udp : Nat) (f : List Byte) (sub : Nat)
  /-- SEAL_Q_PROD_WRITE (R306). -/
  | sealQProdWrite (q : Fin 8) (v : Word)
  /-- SEAL_ADMISSION (R297). -/
  | sealAdmission (sub : Nat)
  /-- SIGNATURE_COMPLETE (R299). -/
  | signatureComplete
  /-- SEAL_KEY_GEN (R313). -/
  | sealKeyGen (ses : Fin 11) (args : List String)
  /-- SEAL_KEY_USE (R313). -/
  | sealKeyUse (ses : Fin 11) (args : List String)
  /-- SEAL_KEY_RETIRE (R313). -/
  | sealKeyRetire (ses : Fin 11) (args : List String)
  /-- SEAL_KEY_ERASE (R313). -/
  | sealKeyErase (ses : Fin 11) (args : List String)
  /-- JOURNAL_RELEASE (R322). -/
  | journalRelease (ses : Fin 11) (args : List String)
  /-- SEAL_JRN_ACK_WRITE (R320). -/
  | sealJrnAckWrite (hi : Word)
  /-- LAT_HELLO_SEND (R330). -/
  | latHelloSend (n : Fin 4)
  /-- LAT_ANNOUNCE_SEND (R329). -/
  | latAnnounceSend (n : Fin 4)
  /-- LAT_EXCHANGE_SEND (R328). -/
  | latExchangeSend (n : Fin 4) (late : Bool)
  /-- LAT_HELLO_RECEIVED (R330). -/
  | latHelloReceived (n : Fin 4) (f : List Byte) (fcsOk : Bool)
  /-- LAT_ANNOUNCE_RECEIVED (R333). -/
  | latAnnounceReceived (n : Fin 4) (f : List Byte) (fcsOk : Bool)
  /-- LAT_EXCHANGE_RECEIVED (R339). -/
  | latExchangeReceived (n : Fin 4) (f : List Byte) (fcsOk : Bool) (sub : Nat)
  /-- LAT_LEAVE_RECEIVED (R330). -/
  | latLeaveReceived (n : Fin 4) (f : List Byte) (fcsOk : Bool)
  /-- HELLO_MISS (R330). -/
  | helloMiss (n : Fin 4)
  /-- LINK_READY (R330). -/
  | linkReady (n : Fin 4) (refine : Option Int)
  /-- ROOT_ELECTION (R333). -/
  | rootElection
  /-- MERGE_TEST (R343). -/
  | mergeTest (n : Fin 4)
  /-- REGISTRY_REFRESH (R337). -/
  | registryRefresh
  /-- ROSTER_EXPIRY (R338). -/
  | rosterExpiry
  /-- SUPERFRAME_START (R354). -/
  | superframeStart (n : Fin 2) (e : Echo)
  /-- BEACON_RECEIVED (R371). -/
  | beaconReceived (n : Fin 2) (f : List Byte) (rate : Fin 3) (sub : Nat)
  /-- BEACON_MISSING (R369). -/
  | beaconMissing (n : Fin 2)
  /-- SLOT_SEND (R359). -/
  | slotSend (n : Fin 2) (echoes : List Echo)
  /-- OPEN_FIELD_SEND (R360). -/
  | openFieldSend (n : Fin 2) (e : Echo)
  /-- JOIN (R367). -/
  | join (n : Fin 2) (f : List Byte)
  /-- JOIN_ACK (R367). -/
  | joinAck (n : Fin 2) (f : List Byte)
  /-- DECK_STATUS (R359). -/
  | deckStatus (n : Fin 2) (f : List Byte) (sub : Nat)
  /-- DECK_LEAVE (R368). -/
  | deckLeave (n : Fin 2) (f : List Byte)
  /-- DECK_DATA (R374). -/
  | deckData (n : Fin 2) (f : List Byte) (sub : Nat)
  /-- SEAL_REQ (R373). -/
  | sealReq (n : Fin 2) (f : List Byte) (sub : Nat)
  /-- SEAL_RESP (R373). -/
  | sealResp (n : Fin 2) (e : Echo)
  /-- MEMBER_DROP (R368). -/
  | memberDrop (n : Fin 2) (a : Nat)
  /-- QUARANTINE_EXPIRY (R368). -/
  | quarantineExpiry (n : Fin 2)
  /-- RATE_DOWNSHIFT (R365). -/
  | rateDownshift (n : Fin 2)
  /-- DECK_COORD_DUP (R370). -/
  | deckCoordDup (n : Fin 2)
  /-- COORD_RESUME (R370). -/
  | coordResume (n : Fin 2)
  /-- DECK_TX_PROD_WRITE (R374). -/
  | deckTxProdWrite (n : Fin 2) (v : Word)
  /-- DECK_SEARCH_EXPIRY (R375). -/
  | deckSearchExpiry (n : Fin 2)
  /-- BR (R385). -/
  | br (n : Fin 32) (pins : BitVec 48) (sub : Nat)
  /-- AWAIT (R390). -/
  | await (n : Fin 32) (pins : BitVec 48) (sub : Nat) (edge : Option Int)
  /-- SHIN (R385). -/
  | shin (n : Fin 32) (pins : BitVec 48) (sub : Nat)
  /-- SHOUT (R385). -/
  | shout (n : Fin 32) (pins : BitVec 48) (sub : Nat)
  /-- FETCH (R386). -/
  | fetch (n : Fin 32) (pins : BitVec 48) (sub : Nat)
  /-- POST (R386). -/
  | post (n : Fin 32) (pins : BitVec 48) (sub : Nat)
  /-- COPY (R385). -/
  | copy (n : Fin 32) (pins : BitVec 48) (sub : Nat)
  /-- LOAD (R385). -/
  | load (n : Fin 32) (pins : BitVec 48) (sub : Nat)
  /-- MARK (R385). -/
  | mark (n : Fin 32) (pins : BitVec 48) (sub : Nat)
  /-- IBEX_INJECT (R392). -/
  | ibexInject (n : Fin 32) (v : Word)
  /-- IBEX_TXF_WRITE (R388). -/
  | ibexTxfWrite (n : Fin 32) (v : Word)
  /-- IBEX_RXF_READ (R388). -/
  | ibexRxfRead (n : Fin 32)
  /-- IBEX_RESTART (R399). -/
  | ibexRestart (n : Fin 32)
  /-- IBEX_FLUSH (R388). -/
  | ibexFlush (n : Fin 32)
  /-- IBEX_CFG_WRITE (R382). -/
  | ibexCfgWrite (u : Fin 40) (k : Fin 3) (v : Word)
  /-- IBEX_STORE_WRITE (R399). -/
  | ibexStoreWrite (a : Fin 512) (v : Word)
  /-- KID_MATCH (R395). -/
  | kidMatch (k : Fin 8) (b : Bool) (sub : Nat)
  /-- KID_MASK_HI_WRITE (R395). -/
  | kidMaskHiWrite (k : Fin 8) (v : Word)
  /-- KID_LOAD_WRITE (R396). -/
  | kidLoadWrite (k : Fin 8) (v : Word)
  /-- KID_CAP0_READ (R396). -/
  | kidCap0Read (k : Fin 8)
  /-- DMA_START (R405). -/
  | dmaStart (n : Fin 16) (ctrl : Bool)
  /-- DMA_ABORT (R416). -/
  | dmaAbort (n : Fin 16)
  /-- DMA_PAUSE (R417). -/
  | dmaPause (n : Fin 16)
  /-- DMA_RESUME (R417). -/
  | dmaResume (n : Fin 16)
  /-- DMA_BURST (R410). -/
  | dmaBurst
  /-- DMA_PASS_END (R413). -/
  | dmaPassEnd (n : Fin 16)
  /-- DMA_RING_HOST_WRITE (R411). -/
  | dmaRingHostWrite (n : Fin 16) (v : Word)
  /-- EVENT_ARRIVAL (R420). -/
  | eventArrival (k : Nat)
  /-- EVT_SOFT_WRITE (R418). -/
  | evtSoftWrite (v : Word)
  /-- EVT_TASK_CLEAR (R420). -/
  | evtTaskClear (t : Fin 96)
  /-- SLEEP_ENTRY (R423). -/
  | sleepEntry
  /-- POWER_OFF (R442). -/
  | powerOff (ses : Fin 11)
  /-- POWER_OFF_FORCE (R442). -/
  | powerOffForce (ses : Fin 11)
  /-- DOMAIN_DROP (R422). -/
  | domainDrop (d : Fin 10)
  /-- REGULATOR_ACK (R429). -/
  | regulatorAck
  /-- PMB_ACK (R430). -/
  | pmbAck (bus : Fin 3)
  /-- WAKE (R440). -/
  | wake (cause : Fin 9)
  /-- DOMAIN_RELEASE (R428). -/
  | domainRelease (d : Fin 10) (pg : Bool)
  /-- GRAZE_STEP (R437). -/
  | grazeStep (k : Fin 8) (temp keepErr fx : Int) (refSeen cmpHit : Bool)
  /-- AON_TIMER (R440). -/
  | aonTimer
  /-- WAKE_N (R440). -/
  | wakeN (low : Bool)
  /-- WAKE_PORT_MATCH (R441). -/
  | wakePortMatch (read : Bool)
  /-- WAKE_PORT_WRITE (R441). -/
  | wakePortWrite (b : Byte)
  /-- WAKE_PORT_READ (R441). -/
  | wakePortRead
  /-- DECKLINE_CARRIER (R376). -/
  | decklineCarrier (n : Fin 2)
  /-- TALLY_SNAPSHOT (R451). -/
  | tallySnapshot (outer : List (Fin 18 × Nat × Nat))
  /-- TALLY_WRAP (R448). -/
  | tallyWrap (u : Fin 18) (k : Fin 8) (w : Nat)
  /-- TALLY_RING_HOST_WRITE (R454). -/
  | tallyRingHostWrite (v : Word)
  /-- BEGIN (R461). -/
  | txnBegin (ses : Fin 11)
  /-- COMMIT (R463). -/
  | txnCommit (ses : Fin 11) (args : List String)
  /-- ABORT (R462). -/
  | txnAbort (ses : Fin 11)
  /-- TXN_EPOCH (R464). -/
  | txnEpoch
  /-- CLASS_B_ITEM_APPLY (R464). -/
  | classBItemApply
  /-- FAULT_CLEAR (R493). -/
  | faultClear (ses : Option (Fin 11)) (mask : BitVec 24)
  /-- DIE_TEMP_SAMPLE (R510). -/
  | dieTempSample (t : Nat)
  /-- VDD_AON_FALL_BELOW_V_BOR (R84). -/
  | vddAonFallBelowVBor
  /-- RC_FIELD_READ (R6). -/
  | rcFieldRead (off : Nat)
  /-- PCIE_LINK_CHANGE (R490). -/
  | pcieLinkChange (up : Bool)
  /-- CON0_CHARACTER_RECEIVED (R164). -/
  | con0CharacterReceived (b : Byte) (framed : Bool)
  /-- OUTPUT_BUFFER_DRAIN (R163). -/
  | outputBufferDrain (ses : Fin 11) (n : Nat)
  /-- MGMT_CONNECTION_DROP (R150). -/
  | mgmtConnectionDrop (ses : Fin 11)
  /-- LOOP_OFFSETS_MISSING (R184). -/
  | loopOffsetsMissing
  /-- CLKOUT_RISING_EDGE (R213). -/
  | clkoutRisingEdge (n : Fin 8)
  /-- DLL_RELOCK (R242). -/
  | dllRelock (i : Fin 4)
  /-- LAT_BLOCK_LOCK (R330). -/
  | latBlockLock (n : Fin 4) (lock : Bool) (phase : Nat)
  /-- LANE_SAMPLE (R394). -/
  | laneSample (k : Fin 8) (b : Bool)
  /-- VOLTAGE_REQUEST_RETRY (R430). -/
  | voltageRequestRetry (ok : Bool)
  /-- KEEPER_CALIBRATION (R434). -/
  | keeperCalibration (fx : Int)
  /-- AON_LOW_REARM (R85). -/
  | aonLowRearm (mv : Nat)
deriving DecidableEq, Repr

end Sys2Proof
end

