-- ==== Sys2Proof/Decode.lean ====
section
/-!
DEFINITION. The command a word spells by the opcode table's bits. The table gives no row any bits (every row's list of fields
is empty), so no word spells a command.
-/
set_option autoImplicit false

namespace Sys2Proof

/-- The command that the `nbits` bits of `w` spell by spec/opcode_table.json: none, for no row has bits. -/
def decodeTableWord (nbits w : Nat) : Option Instr :=
  match nbits, w with
  | _, _ => none

end Sys2Proof
end

