-- ==== Sys2Proof/Config.lean ====
section
/-!
DEFINITION. What the spec leaves to the part or to chance: free values. Each is an opaque constant with no body that
Lean can see through, applied to a counter of the state or to the operands it depends on; a statement about one holds
for every value. Notes: notes/assumptions/1.md to notes/assumptions/9.md.
-/
set_option autoImplicit false

namespace Sys2Proof.Config

/-- A fresh value the spec leaves open, one for each value of the state's free counter: nonces, generated keys,
random back-off, choices the spec does not fix. -/
opaque freshNat : Nat → Nat

/-- The spec gives a law over the reals and no rounding: whether the n-th such result is rounded up or down. -/
opaque roundUp : Nat → Bool

/-- SHA-256 (FIPS 180-4) of a byte string, as a number of 256 bits: a standard the spec cites and does not restate. -/
opaque sha256 : List Byte → BitVec 256

/-- HMAC-SHA-256 of a message under a key. -/
opaque hmacSha256 : Nat → List Byte → BitVec 256

/-- The AES-256 key unwrap of a 40-byte wrapped login key, as a number, under the part's account-wrap key (R154): none
when it does not unwrap. -/
opaque unwrapKey : Nat → Option Nat

/-- The 40-byte wrap of a login key, as a number (R154). -/
opaque wrapKey : Nat → Nat

/-- The public key of a key pair, for the algorithm code (0 ES256, 1 EdDSA). -/
opaque publicKey : Nat → Nat → List Byte

/-- The signature of a to-be-signed byte string: the algorithm code (0 ES256, 1 EdDSA), the key pair and the fresh nonce
of R309. -/
opaque signature : Nat → Nat → Nat → List Byte → List Byte

/-- Whether a signature or countersignature of an image verifies (R117 to R119). -/
opaque verifies : Nat → List Byte → List Byte → Bool

/-- The keyed client-table hash of R281: the hash key, the family bit and the 16 key bytes give a bucket number. -/
opaque bucketHash : Nat → Bool → List Byte → Nat

/-- The keyed hash that spreads requests over the pipelines (R271). -/
opaque spreadHash : Nat → List Byte → Nat

/-- AES-SIV-CMAC sealing of an NTS payload under a key (R276). -/
opaque aeadSeal : Nat → List Byte → List Byte

/-- The keys C2S and S2C an NTS cookie holds under a ring key (R277). -/
opaque cookieKeys : Nat → List Byte → Nat × Nat

/-- Whether an NTS request unseals under a ring key. -/
opaque aeadOpens : Nat → List Byte → Bool

/-- Constants of the individual part burnt in OTP at the factory: path delays, identity, hash key (by name). -/
opaque otpNat : String → Nat

/-- The factory-fixed silicon revision of GLOBAL_IDENT, 16 bits. -/
opaque silicon : BitVec 16

/-- The factory Herd words 472 to 511 (the IRIG-B program, by address) and, from 512 on, channel 31's CFG0 to CFG2: the
spec names the program and does not print it. -/
opaque factoryHerd : Nat → BitVec 32

/-- The count of a Tally unit's island clock cycles at a model time: its clock is not the Axis clock. -/
opaque islandCycles : Nat → Nat → Nat

/-- U_PATH in ps of an input whose offsets come from a port (SyncE, PTP): no chapter of the spec states it (R246). -/
opaque pathUnc : Nat → Nat

/-- The ball of a signal on the package: the spec prints no ball map. -/
opaque ballOf : String → String

end Sys2Proof.Config
end

