-- ==== Sys2Proof/Machine/PathIds.lean ====
section
/-!
DEFINITION. The paths of the Mywi tree, one name for each entry of the spec's path tables (the tables whose caption
ends in "paths", R481), the key of a setting (a path and its two placeholder numbers) and the value of a setting.
-/
set_option autoImplicit false

namespace Sys2Proof

/-- One entry of a path table; the instance numbers stand in `Key`. -/
inductive PathId where
  /-- `axis.time` -/
  | axisTime
  /-- `axis.trust` -/
  | axisTrust
  /-- `axis.unc` -/
  | axisUnc
  /-- `axis.steps` -/
  | axisSteps
  /-- `axis.sign_limit` -/
  | axisSignLimit
  /-- `axis.lock_unc` -/
  | axisLockUnc
  /-- `utc.offset` -/
  | utcOffset
  /-- `utc.leap` -/
  | utcLeap
  /-- `utc.smear` -/
  | utcSmear
  /-- `utc.smear.window` -/
  | utcSmearWindow
  /-- `system.mode` -/
  | systemMode
  /-- `system.mode.boot` -/
  | systemModeBoot
  /-- `system.blocks` -/
  | systemBlocks
  /-- `system.restarts` -/
  | systemRestarts
  /-- `system.eid` -/
  | systemEid
  /-- `island.list` -/
  | islandList
  /-- `island.<name>` -/
  | islandName
  /-- `axis.wavefront` -/
  | axisWavefront
  /-- `store.map` -/
  | storeMap
  /-- `store.ecc` -/
  | storeEcc
  /-- `keep.retain` -/
  | keepRetain
  /-- `pin.list` -/
  | pinList
  /-- `pin.<signal>` -/
  | pinSignal
  /-- `supply.status` -/
  | supplyStatus
  /-- `supply.aon` -/
  | supplyAon
  /-- `supply.aon_warn_mv` -/
  | supplyAonWarnMv
  /-- `boot.cause` -/
  | bootCause
  /-- `boot.slot` -/
  | bootSlot
  /-- `boot.time` -/
  | bootTime
  /-- `boot.log` -/
  | bootLog
  /-- `boot.skipped` -/
  | bootSkipped
  /-- `pmb.found` -/
  | pmbFound
  /-- `pmb.map` -/
  | pmbMap
  /-- `image.slot.a` -/
  | imageSlotA
  /-- `image.slot.b` -/
  | imageSlotB
  /-- `image.write` -/
  | imageWrite
  /-- `image.owner` -/
  | imageOwner
  /-- `image.rollback` -/
  | imageRollback
  /-- `mywi.session.prompt` -/
  | mywiSessionPrompt
  /-- `mywi.session.echo` -/
  | mywiSessionEcho
  /-- `mywi.session.check` -/
  | mywiSessionCheck
  /-- `mywi.session.info` -/
  | mywiSessionInfo
  /-- `mywi.sessions` -/
  | mywiSessions
  /-- `mywi.idle` -/
  | mywiIdle
  /-- `mywi.con0.baud` -/
  | mywiCon0Baud
  /-- `mywi.con0.flow` -/
  | mywiCon0Flow
  /-- `mywi.account.N` -/
  | mywiAccount
  /-- `mgmt.enable` -/
  | mgmtEnable
  /-- `mgmt.addr` -/
  | mgmtAddr
  /-- `mgmt.gateway` -/
  | mgmtGateway
  /-- `ref.list` -/
  | refList
  /-- `ref.selected` -/
  | refSelected
  /-- `ref.<in>` -/
  | refIn
  /-- `ref.<in>.enable` -/
  | refInEnable
  /-- `ref.<in>.prio` -/
  | refInPrio
  /-- `ref.<in>.holdoff` -/
  | refInHoldoff
  /-- `ref.<in>.wtr` -/
  | refInWtr
  /-- `ref.revertive` -/
  | refRevertive
  /-- `ref.xchk.limit` -/
  | refXchkLimit
  /-- `ref.xchk.freq` -/
  | refXchkFreq
  /-- `ref.gnssN.baud` -/
  | refGnssBaud
  /-- `ref.gnssN.label` -/
  | refGnssLabel
  /-- `ref.gnssN.edge` -/
  | refGnssEdge
  /-- `ref.gnssN.map` -/
  | refGnssMap
  /-- `ref.atomN.tql` -/
  | refAtomTql
  /-- `ref.atomN.unc` -/
  | refAtomUnc
  /-- `ref.atomN.lock_pol` -/
  | refAtomLockPol
  /-- `ref.synceN.option` -/
  | refSynceOption
  /-- `ref.synceN.lane` -/
  | refSynceLane
  /-- `ref.ptpN.asym_unc` -/
  | refPtpAsymUnc
  /-- `ref.gnssN.delay` -/
  | refGnssDelay
  /-- `ref.atomN.delay` -/
  | refAtomDelay
  /-- `steer.state` -/
  | steerState
  /-- `steer.tangent` -/
  | steerTangent
  /-- `steer.acq_bw` -/
  | steerAcqBw
  /-- `steer.track_bw` -/
  | steerTrackBw
  /-- `steer.slope` -/
  | steerSlope
  /-- `steer.lock_err` -/
  | steerLockErr
  /-- `steer.osc.kind` -/
  | steerOscKind
  /-- `steer.osc.freq` -/
  | steerOscFreq
  /-- `steer.osc.floor` -/
  | steerOscFloor
  /-- `steer.tangent.window` -/
  | steerTangentWindow
  /-- `steer.tangent.max_hold` -/
  | steerTangentMaxHold
  /-- `steer.tangent.resid_max` -/
  | steerTangentResidMax
  /-- `steer.tangent.min_tql` -/
  | steerTangentMinTql
  /-- `steer.temp.source` -/
  | steerTempSource
  /-- `steer.temp.pmb` -/
  | steerTempPmb
  /-- `out.<o>.enable` -/
  | outOEnable
  /-- `out.<o>.squelch` -/
  | outOSquelch
  /-- `out.clkN.freq` -/
  | outClkFreq
  /-- `out.clkN.std` -/
  | outClkStd
  /-- `out.clkN.phase` -/
  | outClkPhase
  /-- `out.clkN.delay` -/
  | outClkDelay
  /-- `out.pulseN.delay` -/
  | outPulseDelay
  /-- `out.pulseN.period` -/
  | outPulsePeriod
  /-- `out.pulseN.width` -/
  | outPulseWidth
  /-- `out.pulseN.pol` -/
  | outPulsePol
  /-- `out.pulseN.offset` -/
  | outPulseOffset
  /-- `out.pulseN.align` -/
  | outPulseAlign
  /-- `out.pulseN.max_move` -/
  | outPulseMaxMove
  /-- `out.irigb.pin` -/
  | outIrigbPin
  /-- `out.irigb.code` -/
  | outIrigbCode
  /-- `out.irigb.scale` -/
  | outIrigbScale
  /-- `out.irigb.cf` -/
  | outIrigbCf
  /-- `out.irigb.offset` -/
  | outIrigbOffset
  /-- `cal.status` -/
  | calStatus
  /-- `cal.<c>` -/
  | calCh
  /-- `cal.<c>.table` -/
  | calChTable
  /-- `cal.<c>.enable` -/
  | calChEnable
  /-- `cal.<c>.std` -/
  | calChStd
  /-- `cal.<c>.edge` -/
  | calChEdge
  /-- `cal.<c>.divide` -/
  | calChDivide
  /-- `cal.<c>.delay` -/
  | calChDelay
  /-- `cal.<c>.mode` -/
  | calChMode
  /-- `cal.<c>.stop` -/
  | calChStop
  /-- `cal.<c>.stop_edge` -/
  | calChStopEdge
  /-- `cal.<c>.signed` -/
  | calChSigned
  /-- `cal.<c>.lookback` -/
  | calChLookback
  /-- `cal.<c>.timeout` -/
  | calChTimeout
  /-- `cal.<c>.gate` -/
  | calChGate
  /-- `cal.<c>.gate_src` -/
  | calChGateSrc
  /-- `cal.<c>.stat.of` -/
  | calChStatOf
  /-- `cal.<c>.stat.n` -/
  | calChStatN
  /-- `cal.<c>.stat.period` -/
  | calChStatPeriod
  /-- `cal.<c>.mark` -/
  | calChMark
  /-- `cal.<c>.hyst` -/
  | calChHyst
  /-- `cal.<c>.cmp` -/
  | calChCmp
  /-- `cal.<c>.cmp_lo` -/
  | calChCmpLo
  /-- `cal.<c>.cmp_hi` -/
  | calChCmpHi
  /-- `port.pN` -/
  | portP
  /-- `port.pN.mode` -/
  | portPMode
  /-- `port.pN.an` -/
  | portPAn
  /-- `port.pN.preempt` -/
  | portPPreempt
  /-- `port.pN.synce.tx` -/
  | portPSynceTx
  /-- `<l>.ipv4` -/
  | lpIpv4
  /-- `<l>.ipv6` -/
  | lpIpv6
  /-- `<l>.vlan` -/
  | lpVlan
  /-- `<l>.rx_delay` -/
  | lpRxDelay
  /-- `<l>.tx_delay` -/
  | lpTxDelay
  /-- `<l>.ptp.role` -/
  | lpPtpRole
  /-- `<l>.ptp.profile` -/
  | lpPtpProfile
  /-- `<l>.ptp.step` -/
  | lpPtpStep
  /-- `<l>.ptp.delay` -/
  | lpPtpDelay
  /-- `<l>.ptp.domain` -/
  | lpPtpDomain
  /-- `port.ptp.priority1` -/
  | portPtpPriority1
  /-- `port.ptp.priority2` -/
  | portPtpPriority2
  /-- `port.ptp.holdover_spec` -/
  | portPtpHoldoverSpec
  /-- `prong.groups` -/
  | prongGroups
  /-- `prong.status` -/
  | prongStatus
  /-- `prong.counters` -/
  | prongCounters
  /-- `prong.launch_lead` -/
  | prongLaunchLead
  /-- `prong.class.N.rate` -/
  | prongClassRate
  /-- `prong.class.N.burst` -/
  | prongClassBurst
  /-- `prong.class.N.over` -/
  | prongClassOver
  /-- `prong.class.N.kod_hold` -/
  | prongClassKodHold
  /-- `prong.class.N.urgent` -/
  | prongClassUrgent
  /-- `prong.class.N.nts.require` -/
  | prongClassNtsRequire
  /-- `prong.rule.N` -/
  | prongRule
  /-- `prong.client` -/
  | prongClient
  /-- `prong.client.age` -/
  | prongClientAge
  /-- `prong.nts.rotate` -/
  | prongNtsRotate
  /-- `prong.nts.epoch` -/
  | prongNtsEpoch
  /-- `prong.ptp.grants` -/
  | prongPtpGrants
  /-- `prong.urgent` -/
  | prongUrgent
  /-- `seal.status` -/
  | sealStatus
  /-- `seal.identity` -/
  | sealIdentity
  /-- `seal.key.N` -/
  | sealKey
  /-- `seal.alg` -/
  | sealAlg
  /-- `seal.crp.enable` -/
  | sealCrpEnable
  /-- `seal.crp.keytab` -/
  | sealCrpKeytab
  /-- `seal.counters` -/
  | sealCounters
  /-- `journal.status` -/
  | journalStatus
  /-- `journal.full` -/
  | journalFull
  /-- `journal.mark` -/
  | journalMark
  /-- `journal.hyst` -/
  | journalHyst
  /-- `lat.enable` -/
  | latEnable
  /-- `lat.eid` -/
  | latEid
  /-- `lat.prio` -/
  | latPrio
  /-- `lat.root` -/
  | latRoot
  /-- `lat.roster` -/
  | latRoster
  /-- `lat.lN` -/
  | latL
  /-- `lat.lN.enable` -/
  | latLEnable
  /-- `lat.lN.via` -/
  | latLVia
  /-- `lat.lN.delay_gate` -/
  | latLDelayGate
  /-- `lat.lN.asym` -/
  | latLAsym
  /-- `lat.lN.asym_unc` -/
  | latLAsymUnc
  /-- `lat.lN.tx_delay` -/
  | latLTxDelay
  /-- `lat.lN.rx_delay` -/
  | latLRxDelay
  /-- `lat.counters` -/
  | latCounters
  /-- `deck.dkN` -/
  | deckDk
  /-- `deck.dkN.members` -/
  | deckDkMembers
  /-- `deck.dkN.role` -/
  | deckDkRole
  /-- `deck.dkN.max_rate` -/
  | deckDkMaxRate
  /-- `deck.dkN.min_rate` -/
  | deckDkMinRate
  /-- `deck.dkN.coord_slot` -/
  | deckDkCoordSlot
  /-- `deck.dkN.slots` -/
  | deckDkSlots
  /-- `deck.dkN.open_min` -/
  | deckDkOpenMin
  /-- `deck.dkN.search` -/
  | deckDkSearch
  /-- `deck.dkN.seal_class` -/
  | deckDkSealClass
  /-- `deck.dkN.tx_delay` -/
  | deckDkTxDelay
  /-- `deck.dkN.rx_delay` -/
  | deckDkRxDelay
  /-- `deck.dkN.cable_delay` -/
  | deckDkCableDelay
  /-- `deck.dkN.delay_unc` -/
  | deckDkDelayUnc
  /-- `deck.counters` -/
  | deckCounters
  /-- `ibex.status` -/
  | ibexStatus
  /-- `ibex.store` -/
  | ibexStore
  /-- `ibex.chN` -/
  | ibexCh
  /-- `ibex.chN.enable` -/
  | ibexChEnable
  /-- `ibex.chN.prog` -/
  | ibexChProg
  /-- `ibex.chN.pins` -/
  | ibexChPins
  /-- `ibex.chN.shift` -/
  | ibexChShift
  /-- `ibex.chN.inject` -/
  | ibexChInject
  /-- `ibex.chN.state` -/
  | ibexChState
  /-- `ibex.chN.flags` -/
  | ibexChFlags
  /-- `ibex.kidK` -/
  | ibexKid
  /-- `ibex.kidK.enable` -/
  | ibexKidEnable
  /-- `ibex.kidK.pin` -/
  | ibexKidPin
  /-- `ibex.kidK.clock` -/
  | ibexKidClock
  /-- `ibex.kidK.pattern` -/
  | ibexKidPattern
  /-- `ibex.kidK.mask` -/
  | ibexKidMask
  /-- `ibex.kidK.on_match` -/
  | ibexKidOnMatch
  /-- `ibex.kidK.holdoff` -/
  | ibexKidHoldoff
  /-- `ibex.kidK.flags` -/
  | ibexKidFlags
  /-- `ibex.pinP.pull` -/
  | ibexPinPull
  /-- `dma.status` -/
  | dmaStatus
  /-- `dma.chN` -/
  | dmaCh
  /-- `dma.chN.src` -/
  | dmaChSrc
  /-- `dma.chN.dst` -/
  | dmaChDst
  /-- `dma.chN.count` -/
  | dmaChCount
  /-- `dma.chN.unit` -/
  | dmaChUnit
  /-- `dma.chN.pace` -/
  | dmaChPace
  /-- `dma.chN.prio` -/
  | dmaChPrio
  /-- `dma.chN.swap` -/
  | dmaChSwap
  /-- `dma.chN.ring` -/
  | dmaChRing
  /-- `dma.chN.mark` -/
  | dmaChMark
  /-- `dma.chN.hyst` -/
  | dmaChHyst
  /-- `dma.chN.notify` -/
  | dmaChNotify
  /-- `dma.chN.status_at` -/
  | dmaChStatusAt
  /-- `dma.chN.run` -/
  | dmaChRun
  /-- `dma.chN.host` -/
  | dmaChHost
  /-- `evt.task.<t>` -/
  | evtTaskT
  /-- `evt.task.<t>.src` -/
  | evtTaskTSrc
  /-- `evt.task.<t>.count` -/
  | evtTaskTCount
  /-- `evt.soft` -/
  | evtSoft
  /-- `pwr.state` -/
  | pwrState
  /-- `pwr.domains` -/
  | pwrDomains
  /-- `pwr.votes` -/
  | pwrVotes
  /-- `pwr.graze.enable` -/
  | pwrGrazeEnable
  /-- `pwr.sleep` -/
  | pwrSleep
  /-- `pwr.idle` -/
  | pwrIdle
  /-- `pwr.graze.osc` -/
  | pwrGrazeOsc
  /-- `pwr.graze.osc_warm` -/
  | pwrGrazeOscWarm
  /-- `pwr.graze.step.K` -/
  | pwrGrazeStep
  /-- `pwr.graze.temp_window` -/
  | pwrGrazeTempWindow
  /-- `pwr.graze.keep_window` -/
  | pwrGrazeKeepWindow
  /-- `pwr.graze.unc_wake` -/
  | pwrGrazeUncWake
  /-- `pwr.keeper.stab` -/
  | pwrKeeperStab
  /-- `pwr.wake.at` -/
  | pwrWakeAt
  /-- `pwr.wake.every` -/
  | pwrWakeEvery
  /-- `pwr.wake.addr` -/
  | pwrWakeAddr
  /-- `pwr.wake.stretch` -/
  | pwrWakeStretch
  /-- `pwr.faults` -/
  | pwrFaults
  /-- `tally.enable` -/
  | tallyEnable
  /-- `tally.period` -/
  | tallyPeriod
  /-- `tally.ring` -/
  | tallyRing
  /-- `tally.ring.mode` -/
  | tallyRingMode
  /-- `tally.ring.host` -/
  | tallyRingHost
  /-- `tally.mark` -/
  | tallyMark
  /-- `tally.hyst` -/
  | tallyHyst
  /-- `tally.<u>` -/
  | tallyU
  /-- `tally.<u>.cN` -/
  | tallyUC
  /-- `tally.<u>.chain` -/
  | tallyUChain
  /-- `tally.snap` -/
  | tallySnap
  /-- `txn.status` -/
  | txnStatus
  /-- `txn.staged` -/
  | txnStaged
  /-- `txn.last` -/
  | txnLast
  /-- `mywi.counters` -/
  | mywiCounters
  /-- `note.status` -/
  | noteStatus
  /-- `note.<s>.mask` -/
  | noteSMask
  /-- `note.<s>.irq` -/
  | noteSIrq
  /-- `note.<s>.msix` -/
  | noteSMsix
  /-- `fault.list` -/
  | faultList
  /-- `fault.<code>` -/
  | faultCode
  /-- `fault.all` -/
  | faultAll
  /-- `supply.tj` -/
  | supplyTj
  /-- `supply.tj_warn` -/
  | supplyTjWarn
deriving DecidableEq, Repr

/-- A path with its placeholder numbers (R482): `i` the first, `j` the second; 0 where there is none. -/
structure Key where
  p : PathId
  i : Nat := 0
  j : Nat := 0
deriving DecidableEq, Repr

/-- The value of a setting in the units of R483: picoseconds, microhertz, 10^-18, or the position in a value list. -/
inductive SVal where
  /-- The empty value. -/
  | none
  /-- A number that is never negative, a `BOOL` (0 off, 1 on) or the position of an enumerated value. -/
  | nat (n : Nat)
  /-- A number that may be negative. -/
  | int (z : Int)
  /-- A text kept as typed. -/
  | str (s : String)
  /-- The numbers a structured text stands for. -/
  | nats (l : List Nat)
deriving DecidableEq, Repr

/-- The texts that have a form of their own in some chapter. -/
inductive TextKind where
  | leap | banks | pmbMap | account | mgmtAddr | gateway | refMap | pmbPage | period | ipv4List | ipv6List | rule
  | client | keytab | via | slots | ibexStore | prog | pins | shift | clock | dmaAddr | evtSrc | gstep | tallyRing
  | irqList | msix
deriving DecidableEq, Repr

/-- The form and range of a value (the Range column of the path tables; R138, R483). Times are in ps with the step
and the unit shown (0 ps, 1 ns, 2 us, 3 ms, 4 s); frequencies in uHz with the unit shown (0 mHz, 1 Hz, 2 kHz, 3 MHz);
ratios in units of 10^-18. -/
inductive VType where
  | none
  | bool
  | enum (names : List String)
  | enumList (names : List String)
  | time (lo hi step : Int) (unit : Nat)
  | freq (lo hi step unit : Nat)
  | bw
  | ratio (lo hi : Nat)
  | int (lo hi : Int)
  | intSet (l : List Nat)
  | intSetList (l : List Nat)
  | hex (bits : Nat)
  | hexInt (lo hi : Nat)
  | hexMul (step hi : Nat)
  | natList (lo hi most : Nat)
  | eid
  | axisTime
  | text (k : TextKind)
deriving DecidableEq, Repr

/-- The lists that number the named placeholders (R482). -/
inductive NameList where
  | refIn | chan | out | unit | task | island | source | fault | signal
deriving DecidableEq, Repr

/-- One segment of a path pattern: a literal, a name with an instance number below `n`, or a named placeholder. -/
inductive Seg where
  | lit (s : String)
  | num (pre : String) (n : Nat)
  | named (l : NameList)
deriving DecidableEq, Repr

/-- The change classes of Table 22.1. -/
inductive PClass where
  | none | a | b1 | b2 | b3 | b4 | c | r
deriving DecidableEq, Repr

/-- One row of a path table: its pattern, its place (chapter, table, ordinal; R481), its verbs, the role to set it
(0 read-only, 1 observer, 2 operator, 3 custodian, 4 profile only), its class, its value form and its default. -/
structure PathRow where
  pat : List Seg
  chapter : Nat
  table : Nat
  ordinal : Nat
  canShow : Bool
  canSet : Bool
  canClear : Bool
  role : Nat
  cls : PClass
  vt : VType
  dflt : SVal
deriving DecidableEq, Repr

end Sys2Proof
end

