-- ==== Sys2Proof/Machine/Paths.lean ====
section
/-!
DEFINITION. The path tables of the spec as data: for each path its pattern, PATH_ID place, verbs, role, class, value
form and default (Tables 1.8, 2.6, 3.8, 4.6, 5.5, 6.7, 7.8, 8.7, 9.6, 10.3, 11.5, 12.6, 13.6, 14.4, 15.10, 16.8, 17.5,
18.7, 19.6, 20.10, 21.5, 22.3, 23.6, 24.3 and 25.16), and the name lists of R482.
-/
set_option autoImplicit false

namespace Sys2Proof

/-- `pre0`, `pre1`, ... up to `n` names. -/
def numbered (pre : String) (n : Nat) : List String := (List.range n).map (fun k => pre ++ toString k)

/-- The Caliper channels in the order of R219. -/
def chanNames : List String := numbered "cal" 24 ++ numbered "tap" 16
/-- The Ibex pins. -/
def ibxNames : List String := numbered "ibx" 48
/-- The alignments of R208. -/
def alignNames : List String := ["axis", "ref"] ++ numbered "cal" 24
/-- The port modes of Table 12.1. -/
def portModeNames : List String := ["100g", "2x50g", "25g", "4x25g", "10g", "4x10g", "1g", "4x1g", "off"]
/-- The request sources of Table 19.2, by PACE code. -/
def paceNames : List String :=
  ["none"] ++ numbered "cal" 24 ++ numbered "tap" 16 ++ (numbered "ibex" 32).map (· ++ ".tx") ++
  (numbered "ibex" 32).map (· ++ ".rx") ++ (numbered "kid" 8).map (· ++ ".load") ++
  (numbered "kid" 8).map (· ++ ".cap") ++ ["irigb"]
/-- The reference inputs of Table 8.1. -/
def refNames : List String :=
  numbered "gnss" 4 ++ numbered "atom" 2 ++ numbered "synce" 4 ++ numbered "ptp" 4 ++ numbered "lat" 4 ++ numbered "deck" 2
/-- The outputs of R482. -/
def outNames : List String := numbered "clk" 8 ++ numbered "pulse" 4 ++ ["irigb"]
/-- The units of Table 21.1. -/
def unitNames : List String :=
  ["axis"] ++ numbered "port" 4 ++ numbered "grp" 4 ++ ["seal", "lat"] ++ numbered "dk" 2 ++
  ["cal", "ibex", "dma", "store", "host"]
/-- The task inputs of Table 19.5. -/
def taskNames : List String :=
  (numbered "dma" 16).map (· ++ ".start") ++ chanNames.map (· ++ ".gate") ++ numbered "ibex.wake" 8 ++
  numbered "seal.sample" 8 ++ numbered "graze.step" 8 ++ (numbered "dma" 16).map (· ++ ".abort")
/-- The event sources of Table 19.4. -/
def eventNames : List String :=
  (numbered "dma" 16).map (· ++ ".end") ++ (numbered "dma" 16).map (· ++ ".half") ++
  (numbered "dma" 16).map (· ++ ".full") ++ chanNames.map (· ++ ".cmp") ++ (numbered "kid" 8).map (· ++ ".match") ++
  numbered "herd" 4 ++ numbered "sealq" 8 ++ numbered "dk" 2 ++ numbered "pulse" 4 ++
  ["axis.sec", "axis.10ms", "axis.state", "axis.step"] ++ numbered "soft" 10
/-- The islands of Table 3.1. -/
def islandNames : List String :=
  ["steer", "aon", "keep", "p0tx", "p0rx", "p1tx", "p1rx", "p2tx", "p2rx", "p3tx", "p3rx"] ++ numbered "pipe" 16 ++
  ["seal"] ++ numbered "lat" 4 ++ numbered "dk" 2 ++ ["herd", "kid"] ++ numbered "cal" 3 ++
  ["caltap", "ref", "out", "dma", "host", "store0", "store1", "tally", "bus"]
/-- The notice sources of Table 24.1. -/
def sourceNames : List String :=
  ["global", "supply", "boot", "txn", "axis", "wave", "ref", "steer", "out", "cal", "calch"] ++ numbered "port" 4 ++
  ["prong", "seal", "lat", "dk0", "dk1", "ibex", "dma", "evt", "pwr", "bus", "tally", "img", "fault"]
/-- The fault codes of Table 24.2 by bit. -/
def faultNames : List String :=
  ["f120", "f121", "f130", "f131", "f132", "f141", "f142", "f143", "f150", "f160", "f201", "f202", "f203", "f204",
   "f302", "f304", "f311", "f312", "f313", "f314", "f401", "f402", "f510", "f520"]
/-- A differential pair's two ball names. -/
def pairNames (l : List String) : List String := l.flatMap (fun s => [s ++ "_p", s ++ "_n"])
/-- The signals of Table 4.4, in lowercase. -/
def signalNames : List String :=
  pairNames ((List.range 4).flatMap (fun n => (List.range 4).flatMap (fun k =>
    ["p" ++ toString n ++ "tx" ++ toString k, "p" ++ toString n ++ "rx" ++ toString k]))) ++
  pairNames ((List.range 4).flatMap (fun n => ["l" ++ toString n ++ "tx", "l" ++ toString n ++ "rx"])) ++
  ["pcie_perst_n", "pcie_clkreq_n", "mgmt_mdc", "mgmt_mdio"] ++ pairNames ["mgmt_tx", "mgmt_rx", "pcie_refclk"] ++
  numbered "gpps" 4 ++ (numbered "gser" 4).flatMap (fun s => [s ++ "_rx", s ++ "_tx"]) ++
  pairNames (numbered "fref" 2) ++ numbered "apps" 2 ++ numbered "alock" 2 ++ pairNames ["osc_in"] ++
  ["osc_en", "xo32_in"] ++ pairNames (numbered "cal" 24) ++ pairNames (numbered "clkout" 8) ++ numbered "pulse" 4 ++
  numbered "ibx" 48 ++ (numbered "dk" 2).flatMap (fun s => [s ++ "_txd", s ++ "_rxd", s ++ "_de", s ++ "_re_n"]) ++
  ["pmb_scl", "pmb_sda", "pmb_alert_n", "wk_scl", "wk_sda", "wake_n", "reset_n"] ++ numbered "irq_n" 4 ++
  ["con0_txd", "con0_rts_n", "con0_rxd", "con0_cts_n", "hspi_sck", "hspi_cs_n", "hspi_mosi", "hspi_miso", "hspi_rdy",
   "qspi0_sck", "qspi0_cs_n", "qspi0_rst_n"] ++ numbered "qspi0_io" 4 ++
  pairNames (numbered "pcie_tx" 4) ++ pairNames (numbered "pcie_rx" 4) ++ numbered "sds_rcal" 2 ++
  ["tdiode_p", "tdiode_n", "vsense_core", "vsense_vss"] ++ numbered "ft" 4

/-- The names a placeholder list numbers. -/
def NameList.names : NameList → List String
  | .refIn => refNames
  | .chan => chanNames
  | .out => outNames
  | .unit => unitNames
  | .task => taskNames
  | .island => islandNames
  | .source => sourceNames
  | .fault => faultNames
  | .signal => signalNames

/-- Build a row: place, verbs (1 show, 2 set, 4 clear), role, class, form and default. -/
def mkRow (pat : List Seg) (ch tb o verbs role : Nat) (cls : PClass) (vt : VType) (dflt : SVal) : PathRow :=
  { pat := pat, chapter := ch, table := tb, ordinal := o, canShow := verbs % 2 = 1, canSet := verbs / 2 % 2 = 1,
    canClear := verbs / 4 % 2 = 1, role := role, cls := cls, vt := vt, dflt := dflt }

/-- The row of each path. -/
def PathId.row : PathId → PathRow
  | .axisTime => mkRow [.lit "axis", .lit "time"] 1 8 1 1 0 .none (.none) (.none)
  | .axisTrust => mkRow [.lit "axis", .lit "trust"] 1 8 2 1 0 .none (.none) (.none)
  | .axisUnc => mkRow [.lit "axis", .lit "unc"] 1 8 3 1 0 .none (.none) (.none)
  | .axisSteps => mkRow [.lit "axis", .lit "steps"] 1 8 4 1 0 .none (.none) (.none)
  | .axisSignLimit => mkRow [.lit "axis", .lit "sign_limit"] 1 8 5 3 3 .c (.time (10000) (1000000000000)
      1000 2) (.nat 100000000)
  | .axisLockUnc => mkRow [.lit "axis", .lit "lock_unc"] 1 8 6 3 3 .c (.time (1000) (1000000000000)
      1000 2) (.nat 1000000)
  | .utcOffset => mkRow [.lit "utc", .lit "offset"] 1 8 7 7 3 .c (.time (-100000000000000) (255000000000000)
      1000000000000 4) (.none)
  | .utcLeap => mkRow [.lit "utc", .lit "leap"] 1 8 8 7 3 .c (.text .leap) (.nats [])
  | .utcSmear => mkRow [.lit "utc", .lit "smear"] 1 8 9 3 2 .c (.bool) (.nat 0)
  | .utcSmearWindow => mkRow [.lit "utc", .lit "smear", .lit "window"] 1 8 10 3 2 .c (.time (7200000000000000)
      (86400000000000000) 1 4) (.nat 86400000000000000)
  | .systemMode => mkRow [.lit "system", .lit "mode"] 2 6 1 3 3 .c (.enum ["authority", "relay", "voyage"]) (.nat 1)
  | .systemModeBoot => mkRow [.lit "system", .lit "mode", .lit "boot"] 2 6 2 1 0 .none (.none) (.none)
  | .systemBlocks => mkRow [.lit "system", .lit "blocks"] 2 6 3 1 0 .none (.none) (.none)
  | .systemRestarts => mkRow [.lit "system", .lit "restarts"] 2 6 4 1 0 .none (.none) (.none)
  | .systemEid => mkRow [.lit "system", .lit "eid"] 2 6 5 1 0 .none (.none) (.none)
  | .islandList => mkRow [.lit "island", .lit "list"] 3 8 1 1 0 .none (.none) (.none)
  | .islandName => mkRow [.lit "island", .named .island] 3 8 2 1 0 .none (.none) (.none)
  | .axisWavefront => mkRow [.lit "axis", .lit "wavefront"] 3 8 3 1 0 .none (.none) (.none)
  | .storeMap => mkRow [.lit "store", .lit "map"] 3 8 4 1 0 .none (.none) (.none)
  | .storeEcc => mkRow [.lit "store", .lit "ecc"] 3 8 5 5 2 .none (.none) (.none)
  | .keepRetain => mkRow [.lit "keep", .lit "retain"] 3 8 6 3 2 .c (.text .banks) (.nats [6, 7])
  | .pinList => mkRow [.lit "pin", .lit "list"] 4 6 1 1 0 .none (.none) (.none)
  | .pinSignal => mkRow [.lit "pin", .named .signal] 4 6 2 1 0 .none (.none) (.none)
  | .supplyStatus => mkRow [.lit "supply", .lit "status"] 4 6 3 1 0 .none (.none) (.none)
  | .supplyAon => mkRow [.lit "supply", .lit "aon"] 4 6 4 5 2 .none (.none) (.none)
  | .supplyAonWarnMv => mkRow [.lit "supply", .lit "aon_warn_mv"] 4 6 5 3 2 .c (.int 1900 3300) (.nat 2200)
  | .bootCause => mkRow [.lit "boot", .lit "cause"] 5 5 1 1 0 .none (.none) (.none)
  | .bootSlot => mkRow [.lit "boot", .lit "slot"] 5 5 2 1 0 .none (.none) (.none)
  | .bootTime => mkRow [.lit "boot", .lit "time"] 5 5 3 1 0 .none (.none) (.none)
  | .bootLog => mkRow [.lit "boot", .lit "log"] 5 5 4 1 0 .none (.none) (.none)
  | .bootSkipped => mkRow [.lit "boot", .lit "skipped"] 5 5 5 5 2 .none (.none) (.none)
  | .pmbFound => mkRow [.lit "pmb", .lit "found"] 5 5 6 1 0 .none (.none) (.none)
  | .pmbMap => mkRow [.lit "pmb", .lit "map"] 5 5 7 3 3 .r (.text .pmbMap) (.str "")
  | .imageSlotA => mkRow [.lit "image", .lit "slot", .lit "a"] 6 7 1 1 0 .none (.none) (.none)
  | .imageSlotB => mkRow [.lit "image", .lit "slot", .lit "b"] 6 7 2 1 0 .none (.none) (.none)
  | .imageWrite => mkRow [.lit "image", .lit "write"] 6 7 3 1 0 .none (.none) (.none)
  | .imageOwner => mkRow [.lit "image", .lit "owner"] 6 7 4 1 0 .none (.none) (.none)
  | .imageRollback => mkRow [.lit "image", .lit "rollback"] 6 7 5 1 0 .none (.none) (.none)
  | .mywiSessionPrompt => mkRow [.lit "mywi", .lit "session", .lit "prompt"] 7 8 1 3 1 .c (.bool) (.nat 1)
  | .mywiSessionEcho => mkRow [.lit "mywi", .lit "session", .lit "echo"] 7 8 2 3 1 .c (.bool) (.nat 0)
  | .mywiSessionCheck => mkRow [.lit "mywi", .lit "session", .lit "check"] 7 8 3 3 1 .c (.enum ["off",
      "on", "require"]) (.nat 0)
  | .mywiSessionInfo => mkRow [.lit "mywi", .lit "session", .lit "info"] 7 8 4 1 0 .none (.none) (.none)
  | .mywiSessions => mkRow [.lit "mywi", .lit "sessions"] 7 8 5 1 0 .none (.none) (.none)
  | .mywiIdle => mkRow [.lit "mywi", .lit "idle"] 7 8 6 3 2 .c (.time (60000000000000) (86400000000000000)
      1 4) (.nat 900000000000000)
  | .mywiCon0Baud => mkRow [.lit "mywi", .lit "con0", .lit "baud"] 7 8 7 3 2 .c (.intSet [9600, 19200,
      38400, 57600, 115200, 230400, 460800, 921600, 1000000, 2000000, 3000000]) (.nat 115200)
  | .mywiCon0Flow => mkRow [.lit "mywi", .lit "con0", .lit "flow"] 7 8 8 3 2 .c (.bool) (.nat 1)
  | .mywiAccount => mkRow [.lit "mywi", .lit "account", .num "" 16] 7 8 9 7 3 .c (.text .account) (.none)
  | .mgmtEnable => mkRow [.lit "mgmt", .lit "enable"] 7 8 10 3 3 .c (.bool) (.nat 1)
  | .mgmtAddr => mkRow [.lit "mgmt", .lit "addr"] 7 8 11 3 3 .c (.text .mgmtAddr) (.str "dhcp")
  | .mgmtGateway => mkRow [.lit "mgmt", .lit "gateway"] 7 8 12 3 3 .c (.text .gateway) (.str "none")
  | .refList => mkRow [.lit "ref", .lit "list"] 8 7 1 1 0 .none (.none) (.none)
  | .refSelected => mkRow [.lit "ref", .lit "selected"] 8 7 2 1 0 .none (.none) (.none)
  | .refIn => mkRow [.lit "ref", .named .refIn] 8 7 3 1 0 .none (.none) (.none)
  | .refInEnable => mkRow [.lit "ref", .named .refIn, .lit "enable"] 8 7 4 3 3 .c (.bool) (.nat 1)
  | .refInPrio => mkRow [.lit "ref", .named .refIn, .lit "prio"] 8 7 5 3 3 .c (.int 1 8) (.nat 4)
  | .refInHoldoff => mkRow [.lit "ref", .named .refIn, .lit "holdoff"] 8 7 6 3 3 .c (.time (0) (10000000000000)
      100000000000 4) (.nat 1000000000000)
  | .refInWtr => mkRow [.lit "ref", .named .refIn, .lit "wtr"] 8 7 7 3 3 .c (.time (0) (720000000000000)
      1000000000000 4) (.nat 300000000000000)
  | .refRevertive => mkRow [.lit "ref", .lit "revertive"] 8 7 8 3 3 .c (.bool) (.nat 1)
  | .refXchkLimit => mkRow [.lit "ref", .lit "xchk", .lit "limit"] 8 7 9 3 3 .c (.time (10000) (100000000)
      1 1) (.nat 500000)
  | .refXchkFreq => mkRow [.lit "ref", .lit "xchk", .lit "freq"] 8 7 10 3 3 .c (.ratio 1000000000 1000000000000)
      (.nat 10000000000)
  | .refGnssBaud => mkRow [.lit "ref", .num "gnss" 4, .lit "baud"] 8 7 11 3 3 .c (.intSet [4800, 9600,
      19200, 38400, 57600, 115200]) (.nat 9600)
  | .refGnssLabel => mkRow [.lit "ref", .num "gnss" 4, .lit "label"] 8 7 12 3 3 .c (.enum ["after",
      "before"]) (.nat 0)
  | .refGnssEdge => mkRow [.lit "ref", .num "gnss" 4, .lit "edge"] 8 7 13 3 3 .c (.enum ["rising", "falling"])
      (.nat 0)
  | .refGnssMap => mkRow [.lit "ref", .num "gnss" 4, .lit "map"] 8 7 14 3 3 .c (.text .refMap) (.str
      "q=1,2,4,5&fix=3&sats>=6&pdop<=3.0:12/15ns;q=1,2,4,5&fix=3&sats>=4:10/50ns;q=1,2,4,5&fix=2:6/200ns;:0/0ns")
  | .refAtomTql => mkRow [.lit "ref", .num "atom" 2, .lit "tql"] 8 7 15 3 3 .c (.int 1 14) (.nat 13)
  | .refAtomUnc => mkRow [.lit "ref", .num "atom" 2, .lit "unc"] 8 7 16 3 3 .c (.time (0) (1000000) 1 1) (.nat 5000)
  | .refAtomLockPol => mkRow [.lit "ref", .num "atom" 2, .lit "lock_pol"] 8 7 17 3 3 .c (.enum ["high",
      "low"]) (.nat 0)
  | .refSynceOption => mkRow [.lit "ref", .num "synce" 4, .lit "option"] 8 7 18 3 3 .c (.enum ["1", "2"]) (.nat 0)
  | .refSynceLane => mkRow [.lit "ref", .num "synce" 4, .lit "lane"] 8 7 19 3 3 .c (.int 0 3) (.nat 0)
  | .refPtpAsymUnc => mkRow [.lit "ref", .num "ptp" 4, .lit "asym_unc"] 8 7 20 3 3 .c (.time (0) (100000000)
      1 1) (.nat 100000)
  | .refGnssDelay => mkRow [.lit "ref", .num "gnss" 4, .lit "delay"] 8 7 21 1 4 .r (.time (-10000000)
      (10000000) 1 0) (.nat 0)
  | .refAtomDelay => mkRow [.lit "ref", .num "atom" 2, .lit "delay"] 8 7 22 1 4 .r (.time (-10000000)
      (10000000) 1 0) (.nat 0)
  | .steerState => mkRow [.lit "steer", .lit "state"] 9 6 1 1 0 .none (.none) (.none)
  | .steerTangent => mkRow [.lit "steer", .lit "tangent"] 9 6 2 1 0 .none (.none) (.none)
  | .steerAcqBw => mkRow [.lit "steer", .lit "acq_bw"] 9 6 3 3 3 .c (.bw) (.nat 100000)
  | .steerTrackBw => mkRow [.lit "steer", .lit "track_bw"] 9 6 4 3 3 .c (.bw) (.nat 100000)
  | .steerSlope => mkRow [.lit "steer", .lit "slope"] 9 6 5 3 3 .c (.ratio 1000000000 10000000000000)
      (.nat 50000000000)
  | .steerLockErr => mkRow [.lit "steer", .lit "lock_err"] 9 6 6 3 3 .c (.time (1000) (10000000) 1 1) (.nat 50000)
  | .steerOscKind => mkRow [.lit "steer", .lit "osc", .lit "kind"] 9 6 7 1 4 .r (.enum ["ocxo", "csac",
      "rb"]) (.nat 0)
  | .steerOscFreq => mkRow [.lit "steer", .lit "osc", .lit "freq"] 9 6 8 1 4 .r (.freq 10000000000000
      100000000000000 1000000 3) (.nat 10000000000000)
  | .steerOscFloor => mkRow [.lit "steer", .lit "osc", .lit "floor"] 9 6 9 1 4 .r (.ratio 100000 100000000000)
      (.nat 10000000)
  | .steerTangentWindow => mkRow [.lit "steer", .lit "tangent", .lit "window"] 9 6 10 3 3 .c (.time
      (3840000000000000) (604800000000000000) 64000000000000 4) (.nat 86400000000000000)
  | .steerTangentMaxHold => mkRow [.lit "steer", .lit "tangent", .lit "max_hold"] 9 6 11 3 3 .c (.time
      (3600000000000000) (7776000000000000000) 1 4) (.nat 3888000000000000000)
  | .steerTangentResidMax => mkRow [.lit "steer", .lit "tangent", .lit "resid_max"] 9 6 12 3 3 .c (.ratio
      1000000 100000000000) (.nat 100000000)
  | .steerTangentMinTql => mkRow [.lit "steer", .lit "tangent", .lit "min_tql"] 9 6 13 3 3 .c (.int 1 15) (.nat 8)
  | .steerTempSource => mkRow [.lit "steer", .lit "temp", .lit "source"] 9 6 14 3 3 .c (.enum ["die",
      "pmb", "none"]) (.nat 0)
  | .steerTempPmb => mkRow [.lit "steer", .lit "temp", .lit "pmb"] 9 6 15 3 3 .c (.text .pmbPage) (.none)
  | .outOEnable => mkRow [.lit "out", .named .out, .lit "enable"] 10 3 1 3 2 .c (.bool) (.nat 0)
  | .outOSquelch => mkRow [.lit "out", .named .out, .lit "squelch"] 10 3 2 3 2 .c (.enum ["none", "cold",
      "adrift", "holdover"]) (.nat 0)
  | .outClkFreq => mkRow [.lit "out", .num "clk" 8, .lit "freq"] 10 3 3 3 2 .c (.freq 1000000000 750000000000000
      1 3) (.nat 10000000000000)
  | .outClkStd => mkRow [.lit "out", .num "clk" 8, .lit "std"] 10 3 4 3 2 .c (.enum ["lvds", "lvcmos"]) (.nat 0)
  | .outClkPhase => mkRow [.lit "out", .num "clk" 8, .lit "phase"] 10 3 5 3 2 .c (.time (0) (1000000000) 1 0) (.nat 0)
  | .outClkDelay => mkRow [.lit "out", .num "clk" 8, .lit "delay"] 10 3 6 3 2 .c (.time (0) (10000000) 1 0) (.nat 0)
  | .outPulseDelay => mkRow [.lit "out", .num "pulse" 4, .lit "delay"] 10 3 7 3 2 .c (.time (0) (10000000)
      1 0) (.nat 0)
  | .outPulsePeriod => mkRow [.lit "out", .num "pulse" 4, .lit "period"] 10 3 8 3 2 .c (.text .period)
      (.nats [0, 1000000000000])
  | .outPulseWidth => mkRow [.lit "out", .num "pulse" 4, .lit "width"] 10 3 9 3 2 .c (.time (10000)
      (1000000000000) 1000 2) (.nat 100000000)
  | .outPulsePol => mkRow [.lit "out", .num "pulse" 4, .lit "pol"] 10 3 10 3 2 .c (.enum ["high", "low"]) (.nat 0)
  | .outPulseOffset => mkRow [.lit "out", .num "pulse" 4, .lit "offset"] 10 3 11 3 2 .c (.time (-500000000000)
      (500000000000) 1 0) (.nat 0)
  | .outPulseAlign => mkRow [.lit "out", .num "pulse" 4, .lit "align"] 10 3 12 3 2 .c (.enum alignNames) (.nat 0)
  | .outPulseMaxMove => mkRow [.lit "out", .num "pulse" 4, .lit "max_move"] 10 3 13 3 2 .c (.time (1000)
      (500000000000) 1 2) (.nat 1000000)
  | .outIrigbPin => mkRow [.lit "out", .lit "irigb", .lit "pin"] 10 3 14 3 2 .c (.enum ibxNames) (.nat 24)
  | .outIrigbCode => mkRow [.lit "out", .lit "irigb", .lit "code"] 10 3 15 3 2 .c (.enum ["b000", "b001",
      "b002", "b003", "b004", "b005", "b006", "b007"]) (.nat 2)
  | .outIrigbScale => mkRow [.lit "out", .lit "irigb", .lit "scale"] 10 3 16 3 2 .c (.enum ["utc", "tai"]) (.nat 0)
  | .outIrigbCf => mkRow [.lit "out", .lit "irigb", .lit "cf"] 10 3 17 3 2 .c (.enum ["none", "ieee1344"]) (.nat 0)
  | .outIrigbOffset => mkRow [.lit "out", .lit "irigb", .lit "offset"] 10 3 18 3 2 .c (.time (-1000000000)
      (1000000000) 1 0) (.nat 0)
  | .calStatus => mkRow [.lit "cal", .lit "status"] 11 5 1 1 0 .none (.none) (.none)
  | .calCh => mkRow [.lit "cal", .named .chan] 11 5 2 1 0 .none (.none) (.none)
  | .calChTable => mkRow [.lit "cal", .named .chan, .lit "table"] 11 5 3 1 0 .none (.none) (.none)
  | .calChEnable => mkRow [.lit "cal", .named .chan, .lit "enable"] 11 5 4 3 2 .c (.bool) (.nat 0)
  | .calChStd => mkRow [.lit "cal", .named .chan, .lit "std"] 11 5 5 3 2 .c (.enum ["lvds", "lvcmos"]) (.nat 0)
  | .calChEdge => mkRow [.lit "cal", .named .chan, .lit "edge"] 11 5 6 3 2 .c (.enum ["rising", "falling",
      "both"]) (.nat 0)
  | .calChDivide => mkRow [.lit "cal", .named .chan, .lit "divide"] 11 5 7 3 2 .c (.int 1 65536) (.nat 1)
  | .calChDelay => mkRow [.lit "cal", .named .chan, .lit "delay"] 11 5 8 3 2 .c (.time (-10000000) (10000000)
      1 0) (.nat 0)
  | .calChMode => mkRow [.lit "cal", .named .chan, .lit "mode"] 11 5 9 3 2 .c (.enum ["stream", "interval",
      "freq", "stat"]) (.nat 0)
  | .calChStop => mkRow [.lit "cal", .named .chan, .lit "stop"] 11 5 10 3 2 .c (.enum chanNames) (.none)
  | .calChStopEdge => mkRow [.lit "cal", .named .chan, .lit "stop_edge"] 11 5 11 3 2 .c (.enum ["rising",
      "falling"]) (.nat 0)
  | .calChSigned => mkRow [.lit "cal", .named .chan, .lit "signed"] 11 5 12 3 2 .c (.bool) (.nat 0)
  | .calChLookback => mkRow [.lit "cal", .named .chan, .lit "lookback"] 11 5 13 3 2 .c (.time (0) (1000000000000)
      1000 2) (.nat 1000000)
  | .calChTimeout => mkRow [.lit "cal", .named .chan, .lit "timeout"] 11 5 14 3 2 .c (.time (1000000)
      (1000000000000000) 1000000 4) (.nat 1000000000000)
  | .calChGate => mkRow [.lit "cal", .named .chan, .lit "gate"] 11 5 15 3 2 .c (.time (1000000) (1000000000000000)
      1000000 4) (.nat 1000000000000)
  | .calChGateSrc => mkRow [.lit "cal", .named .chan, .lit "gate_src"] 11 5 16 3 2 .c (.enum ["free",
      "event"]) (.nat 0)
  | .calChStatOf => mkRow [.lit "cal", .named .chan, .lit "stat", .lit "of"] 11 5 17 3 2 .c (.enum ["interval",
      "period", "phase"]) (.nat 0)
  | .calChStatN => mkRow [.lit "cal", .named .chan, .lit "stat", .lit "n"] 11 5 18 3 2 .c (.int 2 65535) (.nat 100)
  | .calChStatPeriod => mkRow [.lit "cal", .named .chan, .lit "stat", .lit "period"] 11 5 19 3 2 .c
      (.time (1000000000) (60000000000000) 1000000 4) (.nat 1000000000000)
  | .calChMark => mkRow [.lit "cal", .named .chan, .lit "mark"] 11 5 20 3 2 .c (.int 1 4095) (.nat 3072)
  | .calChHyst => mkRow [.lit "cal", .named .chan, .lit "hyst"] 11 5 21 3 2 .c (.int 0 4095) (.nat 1024)
  | .calChCmp => mkRow [.lit "cal", .named .chan, .lit "cmp"] 11 5 22 3 2 .c (.bool) (.nat 0)
  | .calChCmpLo => mkRow [.lit "cal", .named .chan, .lit "cmp_lo"] 11 5 23 3 2 .c (.time (-2000000000000)
      (2000000000000) 1000 0) (.nat 0)
  | .calChCmpHi => mkRow [.lit "cal", .named .chan, .lit "cmp_hi"] 11 5 24 3 2 .c (.time (-2000000000000)
      (2000000000000) 1000 0) (.nat 0)
  | .portP => mkRow [.lit "port", .num "p" 4] 12 6 1 1 0 .none (.none) (.none)
  | .portPMode => mkRow [.lit "port", .num "p" 4, .lit "mode"] 12 6 2 3 2 .b2 (.enum portModeNames) (.nat 7)
  | .portPAn => mkRow [.lit "port", .num "p" 4, .lit "an"] 12 6 3 3 2 .c (.bool) (.nat 1)
  | .portPPreempt => mkRow [.lit "port", .num "p" 4, .lit "preempt"] 12 6 4 3 2 .c (.bool) (.nat 0)
  | .portPSynceTx => mkRow [.lit "port", .num "p" 4, .lit "synce", .lit "tx"] 12 6 5 3 2 .c (.bool) (.nat 0)
  | .lpIpv4 => mkRow [.lit "port", .num "p" 4, .num "l" 4, .lit "ipv4"] 12 6 6 3 2 .c (.text .ipv4List) (.nats [])
  | .lpIpv6 => mkRow [.lit "port", .num "p" 4, .num "l" 4, .lit "ipv6"] 12 6 7 3 2 .c (.text .ipv6List) (.nats [])
  | .lpVlan => mkRow [.lit "port", .num "p" 4, .num "l" 4, .lit "vlan"] 12 6 8 3 2 .c (.natList 1 4094 16) (.nats [])
  | .lpRxDelay => mkRow [.lit "port", .num "p" 4, .num "l" 4, .lit "rx_delay"] 12 6 9 1 4 .r (.time
      (0) (100000) 1 0) (.nat 0)
  | .lpTxDelay => mkRow [.lit "port", .num "p" 4, .num "l" 4, .lit "tx_delay"] 12 6 10 1 4 .r (.time
      (0) (100000) 1 0) (.nat 0)
  | .lpPtpRole => mkRow [.lit "port", .num "p" 4, .num "l" 4, .lit "ptp", .lit "role"] 12 6 11 3 3 .c
      (.enum ["master", "client", "off"]) (.nat 2)
  | .lpPtpProfile => mkRow [.lit "port", .num "p" 4, .num "l" 4, .lit "ptp", .lit "profile"] 12 6 12
      3 2 .c (.enum ["default", "g8275_1", "g8275_2"]) (.nat 0)
  | .lpPtpStep => mkRow [.lit "port", .num "p" 4, .num "l" 4, .lit "ptp", .lit "step"] 12 6 13 3 2 .c
      (.enum ["one", "two"]) (.nat 0)
  | .lpPtpDelay => mkRow [.lit "port", .num "p" 4, .num "l" 4, .lit "ptp", .lit "delay"] 12 6 14 3 2
      .c (.enum ["e2e", "p2p"]) (.nat 0)
  | .lpPtpDomain => mkRow [.lit "port", .num "p" 4, .num "l" 4, .lit "ptp", .lit "domain"] 12 6 15 3
      2 .c (.int 0 255) (.none)
  | .portPtpPriority1 => mkRow [.lit "port", .lit "ptp", .lit "priority1"] 12 6 16 3 2 .c (.int 0 255) (.nat 128)
  | .portPtpPriority2 => mkRow [.lit "port", .lit "ptp", .lit "priority2"] 12 6 17 3 2 .c (.int 0 255) (.nat 128)
  | .portPtpHoldoverSpec => mkRow [.lit "port", .lit "ptp", .lit "holdover_spec"] 12 6 18 3 2 .c (.time
      (10000) (1000000000000) 1 2) (.nat 1000000)
  | .prongGroups => mkRow [.lit "prong", .lit "groups"] 13 6 1 3 2 .c (.natList 0 3 4) (.nats [0, 1, 2, 3])
  | .prongStatus => mkRow [.lit "prong", .lit "status"] 13 6 2 1 2 .none (.none) (.none)
  | .prongCounters => mkRow [.lit "prong", .lit "counters"] 13 6 3 5 2 .none (.none) (.none)
  | .prongLaunchLead => mkRow [.lit "prong", .lit "launch_lead"] 13 6 4 3 2 .a (.time (500000) (100000000)
      1 2) (.nat 2500000)
  | .prongClassRate => mkRow [.lit "prong", .lit "class", .num "" 64, .lit "rate"] 13 6 5 3 2 .a (.int
      1 1000000) (.nat 16)
  | .prongClassBurst => mkRow [.lit "prong", .lit "class", .num "" 64, .lit "burst"] 13 6 6 3 2 .a (.int
      1 65535) (.nat 8)
  | .prongClassOver => mkRow [.lit "prong", .lit "class", .num "" 64, .lit "over"] 13 6 7 3 2 .a (.enum
      ["serve", "drop", "kod"]) (.nat 2)
  | .prongClassKodHold => mkRow [.lit "prong", .lit "class", .num "" 64, .lit "kod_hold"] 13 6 8 3 2
      .a (.time (1000000000000) (3600000000000000) 1 4) (.nat 60000000000000)
  | .prongClassUrgent => mkRow [.lit "prong", .lit "class", .num "" 64, .lit "urgent"] 13 6 9 3 2 .a (.bool) (.nat 0)
  | .prongClassNtsRequire => mkRow [.lit "prong", .lit "class", .num "" 64, .lit "nts", .lit "require"]
      13 6 10 3 2 .a (.bool) (.nat 0)
  | .prongRule => mkRow [.lit "prong", .lit "rule", .num "" 64] 13 6 11 7 2 .a (.text .rule) (.nats [])
  | .prongClient => mkRow [.lit "prong", .lit "client"] 13 6 12 7 2 .b1 (.text .client) (.none)
  | .prongClientAge => mkRow [.lit "prong", .lit "client", .lit "age"] 13 6 13 3 2 .c (.time (10000000000000)
      (86400000000000000) 1 4) (.nat 600000000000000)
  | .prongNtsRotate => mkRow [.lit "prong", .lit "nts", .lit "rotate"] 13 6 14 3 3 .c (.time (3600000000000000)
      (604800000000000000) 1000000000000 4) (.nat 86400000000000000)
  | .prongNtsEpoch => mkRow [.lit "prong", .lit "nts", .lit "epoch"] 13 6 15 1 0 .none (.none) (.none)
  | .prongPtpGrants => mkRow [.lit "prong", .lit "ptp", .lit "grants"] 13 6 16 1 0 .none (.none) (.none)
  | .prongUrgent => mkRow [.lit "prong", .lit "urgent"] 14 4 1 5 2 .none (.none) (.none)
  | .sealStatus => mkRow [.lit "seal", .lit "status"] 15 10 1 1 0 .none (.none) (.none)
  | .sealIdentity => mkRow [.lit "seal", .lit "identity"] 15 10 2 1 0 .none (.none) (.none)
  | .sealKey => mkRow [.lit "seal", .lit "key", .num "" 8] 15 10 3 1 0 .none (.none) (.none)
  | .sealAlg => mkRow [.lit "seal", .lit "alg"] 15 10 4 3 3 .c (.enum ["es256", "eddsa"]) (.nat 0)
  | .sealCrpEnable => mkRow [.lit "seal", .lit "crp", .lit "enable"] 15 10 5 3 3 .c (.bool) (.nat 1)
  | .sealCrpKeytab => mkRow [.lit "seal", .lit "crp", .lit "keytab"] 15 10 6 3 3 .c (.text .keytab) (.none)
  | .sealCounters => mkRow [.lit "seal", .lit "counters"] 15 10 7 5 2 .none (.none) (.none)
  | .journalStatus => mkRow [.lit "journal", .lit "status"] 15 10 8 1 0 .none (.none) (.none)
  | .journalFull => mkRow [.lit "journal", .lit "full"] 15 10 9 3 3 .c (.enum ["stop_signing", "wrap_after_export"])
      (.nat 0)
  | .journalMark => mkRow [.lit "journal", .lit "mark"] 15 10 10 3 3 .c (.int 1 16777216) (.nat 12582912)
  | .journalHyst => mkRow [.lit "journal", .lit "hyst"] 15 10 11 3 3 .c (.int 0 16777216) (.nat 4194304)
  | .latEnable => mkRow [.lit "lat", .lit "enable"] 16 8 1 3 3 .b3 (.bool) (.nat 1)
  | .latEid => mkRow [.lit "lat", .lit "eid"] 16 8 2 3 3 .r (.eid) (.nat 4095)
  | .latPrio => mkRow [.lit "lat", .lit "prio"] 16 8 3 3 3 .b3 (.int 1 255) (.nat 128)
  | .latRoot => mkRow [.lit "lat", .lit "root"] 16 8 4 1 0 .none (.none) (.none)
  | .latRoster => mkRow [.lit "lat", .lit "roster"] 16 8 5 1 0 .none (.none) (.none)
  | .latL => mkRow [.lit "lat", .num "l" 4] 16 8 6 1 0 .none (.none) (.none)
  | .latLEnable => mkRow [.lit "lat", .num "l" 4, .lit "enable"] 16 8 7 3 3 .b3 (.bool) (.nat 1)
  | .latLVia => mkRow [.lit "lat", .num "l" 4, .lit "via"] 16 8 8 3 3 .b3 (.text .via) (.nats [])
  | .latLDelayGate => mkRow [.lit "lat", .num "l" 4, .lit "delay_gate"] 16 8 9 3 3 .b3 (.time (1000)
      (1000000000) 1 1) (.none)
  | .latLAsym => mkRow [.lit "lat", .num "l" 4, .lit "asym"] 16 8 10 1 4 .r (.time (-10000000) (10000000)
      1 0) (.nat 0)
  | .latLAsymUnc => mkRow [.lit "lat", .num "l" 4, .lit "asym_unc"] 16 8 11 1 4 .r (.time (0) (100000000) 1 0) (.none)
  | .latLTxDelay => mkRow [.lit "lat", .num "l" 4, .lit "tx_delay"] 16 8 12 1 4 .r (.time (0) (100000) 1 0) (.nat 0)
  | .latLRxDelay => mkRow [.lit "lat", .num "l" 4, .lit "rx_delay"] 16 8 13 1 4 .r (.time (0) (100000) 1 0) (.nat 0)
  | .latCounters => mkRow [.lit "lat", .lit "counters"] 16 8 14 5 2 .none (.none) (.none)
  | .deckDk => mkRow [.lit "deck", .num "dk" 2] 17 5 1 1 0 .none (.none) (.none)
  | .deckDkMembers => mkRow [.lit "deck", .num "dk" 2, .lit "members"] 17 5 2 1 0 .none (.none) (.none)
  | .deckDkRole => mkRow [.lit "deck", .num "dk" 2, .lit "role"] 17 5 3 3 3 .c (.enum ["off", "coordinator",
      "member"]) (.nat 0)
  | .deckDkMaxRate => mkRow [.lit "deck", .num "dk" 2, .lit "max_rate"] 17 5 4 3 2 .c (.enum ["fast",
      "mid", "slow"]) (.nat 0)
  | .deckDkMinRate => mkRow [.lit "deck", .num "dk" 2, .lit "min_rate"] 17 5 5 3 2 .c (.enum ["fast",
      "mid", "slow"]) (.nat 2)
  | .deckDkCoordSlot => mkRow [.lit "deck", .num "dk" 2, .lit "coord_slot"] 17 5 6 3 2 .b4 (.time (10000000)
      (8000000000) 10000000 2) (.nat 500000000)
  | .deckDkSlots => mkRow [.lit "deck", .num "dk" 2, .lit "slots"] 17 5 7 7 2 .b4 (.text .slots) (.nats [])
  | .deckDkOpenMin => mkRow [.lit "deck", .num "dk" 2, .lit "open_min"] 17 5 8 3 2 .b4 (.time (500000000)
      (8000000000) 10000000 3) (.nat 1000000000)
  | .deckDkSearch => mkRow [.lit "deck", .num "dk" 2, .lit "search"] 17 5 9 3 2 .c (.time (1000000000000)
      (600000000000000) 1 4) (.nat 10000000000000)
  | .deckDkSealClass => mkRow [.lit "deck", .num "dk" 2, .lit "seal_class"] 17 5 10 3 2 .c (.int 0 63) (.nat 0)
  | .deckDkTxDelay => mkRow [.lit "deck", .num "dk" 2, .lit "tx_delay"] 17 5 11 1 4 .r (.time (0) (10000000)
      1 0) (.nat 0)
  | .deckDkRxDelay => mkRow [.lit "deck", .num "dk" 2, .lit "rx_delay"] 17 5 12 1 4 .r (.time (0) (10000000)
      1 0) (.nat 0)
  | .deckDkCableDelay => mkRow [.lit "deck", .num "dk" 2, .lit "cable_delay"] 17 5 13 1 4 .r (.time
      (0) (10000000) 1 0) (.nat 0)
  | .deckDkDelayUnc => mkRow [.lit "deck", .num "dk" 2, .lit "delay_unc"] 17 5 14 1 4 .r (.time (0)
      (10000000) 1 1) (.nat 20000)
  | .deckCounters => mkRow [.lit "deck", .lit "counters"] 17 5 15 5 2 .none (.none) (.none)
  | .ibexStatus => mkRow [.lit "ibex", .lit "status"] 18 7 1 1 0 .none (.none) (.none)
  | .ibexStore => mkRow [.lit "ibex", .lit "store"] 18 7 2 3 2 .c (.text .ibexStore) (.none)
  | .ibexCh => mkRow [.lit "ibex", .num "ch" 32] 18 7 3 1 0 .none (.none) (.none)
  | .ibexChEnable => mkRow [.lit "ibex", .num "ch" 32, .lit "enable"] 18 7 4 3 2 .c (.bool) (.nat 0)
  | .ibexChProg => mkRow [.lit "ibex", .num "ch" 32, .lit "prog"] 18 7 5 3 2 .c (.text .prog) (.nats [])
  | .ibexChPins => mkRow [.lit "ibex", .num "ch" 32, .lit "pins"] 18 7 6 3 2 .c (.text .pins) (.nats [])
  | .ibexChShift => mkRow [.lit "ibex", .num "ch" 32, .lit "shift"] 18 7 7 3 2 .c (.text .shift) (.nats [])
  | .ibexChInject => mkRow [.lit "ibex", .num "ch" 32, .lit "inject"] 18 7 8 2 2 .c (.hex 24) (.none)
  | .ibexChState => mkRow [.lit "ibex", .num "ch" 32, .lit "state"] 18 7 9 5 2 .none (.none) (.none)
  | .ibexChFlags => mkRow [.lit "ibex", .num "ch" 32, .lit "flags"] 18 7 10 5 2 .none (.none) (.none)
  | .ibexKid => mkRow [.lit "ibex", .num "kid" 8] 18 7 11 1 0 .none (.none) (.none)
  | .ibexKidEnable => mkRow [.lit "ibex", .num "kid" 8, .lit "enable"] 18 7 12 3 2 .c (.bool) (.nat 0)
  | .ibexKidPin => mkRow [.lit "ibex", .num "kid" 8, .lit "pin"] 18 7 13 3 2 .c (.enum ibxNames) (.nat 0)
  | .ibexKidClock => mkRow [.lit "ibex", .num "kid" 8, .lit "clock"] 18 7 14 3 2 .c (.text .clock) (.nats [])
  | .ibexKidPattern => mkRow [.lit "ibex", .num "kid" 8, .lit "pattern"] 18 7 15 3 2 .c (.hex 64) (.nat 0)
  | .ibexKidMask => mkRow [.lit "ibex", .num "kid" 8, .lit "mask"] 18 7 16 3 2 .c (.hex 64) (.nat 0)
  | .ibexKidOnMatch => mkRow [.lit "ibex", .num "kid" 8, .lit "on_match"] 18 7 17 3 2 .c (.enumList
      ["event", "stamp", "next"]) (.nats [])
  | .ibexKidHoldoff => mkRow [.lit "ibex", .num "kid" 8, .lit "holdoff"] 18 7 18 3 2 .c (.int 0 31) (.nat 0)
  | .ibexKidFlags => mkRow [.lit "ibex", .num "kid" 8, .lit "flags"] 18 7 19 5 2 .none (.none) (.none)
  | .ibexPinPull => mkRow [.lit "ibex", .num "pin" 48, .lit "pull"] 18 7 20 3 2 .c (.enum ["down", "up",
      "none"]) (.nat 0)
  | .dmaStatus => mkRow [.lit "dma", .lit "status"] 19 6 1 1 0 .none (.none) (.none)
  | .dmaCh => mkRow [.lit "dma", .num "ch" 16] 19 6 2 1 0 .none (.none) (.none)
  | .dmaChSrc => mkRow [.lit "dma", .num "ch" 16, .lit "src"] 19 6 3 3 2 .c (.text .dmaAddr) (.nats [0, 0, 0])
  | .dmaChDst => mkRow [.lit "dma", .num "ch" 16, .lit "dst"] 19 6 4 3 2 .c (.text .dmaAddr) (.nats [0, 0, 0])
  | .dmaChCount => mkRow [.lit "dma", .num "ch" 16, .lit "count"] 19 6 5 3 2 .c (.int 1 16777216) (.nat 4)
  | .dmaChUnit => mkRow [.lit "dma", .num "ch" 16, .lit "unit"] 19 6 6 3 2 .c (.intSet [4, 8, 16, 24,
      32, 64]) (.nat 4)
  | .dmaChPace => mkRow [.lit "dma", .num "ch" 16, .lit "pace"] 19 6 7 3 2 .c (.enum paceNames) (.nat 0)
  | .dmaChPrio => mkRow [.lit "dma", .num "ch" 16, .lit "prio"] 19 6 8 3 2 .c (.int 0 3) (.nat 0)
  | .dmaChSwap => mkRow [.lit "dma", .num "ch" 16, .lit "swap"] 19 6 9 3 2 .c (.enum ["none", "b16",
      "b32", "h32"]) (.nat 0)
  | .dmaChRing => mkRow [.lit "dma", .num "ch" 16, .lit "ring"] 19 6 10 3 2 .c (.enum ["off", "flow",
      "free"]) (.nat 0)
  | .dmaChMark => mkRow [.lit "dma", .num "ch" 16, .lit "mark"] 19 6 11 3 2 .c (.int 1 16777216) (.none)
  | .dmaChHyst => mkRow [.lit "dma", .num "ch" 16, .lit "hyst"] 19 6 12 3 2 .c (.int 0 16777216) (.none)
  | .dmaChNotify => mkRow [.lit "dma", .num "ch" 16, .lit "notify"] 19 6 13 3 2 .c (.enumList ["half",
      "full", "status"]) (.nats [])
  | .dmaChStatusAt => mkRow [.lit "dma", .num "ch" 16, .lit "status_at"] 19 6 14 3 2 .c (.hexMul 16
      8589934591) (.nat 0)
  | .dmaChRun => mkRow [.lit "dma", .num "ch" 16, .lit "run"] 19 6 15 2 2 .c (.enum ["start", "abort",
      "pause", "resume"]) (.none)
  | .dmaChHost => mkRow [.lit "dma", .num "ch" 16, .lit "host"] 19 6 16 3 2 .c (.int 0 4294967295) (.nat 0)
  | .evtTaskT => mkRow [.lit "evt", .lit "task", .named .task] 19 6 17 1 0 .none (.none) (.none)
  | .evtTaskTSrc => mkRow [.lit "evt", .lit "task", .named .task, .lit "src"] 19 6 18 7 2 .c (.text
      .evtSrc) (.nats [])
  | .evtTaskTCount => mkRow [.lit "evt", .lit "task", .named .task, .lit "count"] 19 6 19 4 2 .none (.none) (.none)
  | .evtSoft => mkRow [.lit "evt", .lit "soft"] 19 6 20 2 2 .c (.int 0 9) (.none)
  | .pwrState => mkRow [.lit "pwr", .lit "state"] 20 10 1 1 0 .none (.none) (.none)
  | .pwrDomains => mkRow [.lit "pwr", .lit "domains"] 20 10 2 1 0 .none (.none) (.none)
  | .pwrVotes => mkRow [.lit "pwr", .lit "votes"] 20 10 3 1 0 .none (.none) (.none)
  | .pwrGrazeEnable => mkRow [.lit "pwr", .lit "graze", .lit "enable"] 20 10 4 3 2 .c (.bool) (.nat 0)
  | .pwrSleep => mkRow [.lit "pwr", .lit "sleep"] 20 10 5 3 2 .c (.enum ["graze", "bed"]) (.nat 0)
  | .pwrIdle => mkRow [.lit "pwr", .lit "idle"] 20 10 6 3 2 .c (.time (1000000000000) (3600000000000000)
      1 4) (.nat 10000000000000)
  | .pwrGrazeOsc => mkRow [.lit "pwr", .lit "graze", .lit "osc"] 20 10 7 3 2 .c (.enum ["run", "rest"]) (.nat 0)
  | .pwrGrazeOscWarm => mkRow [.lit "pwr", .lit "graze", .lit "osc_warm"] 20 10 8 3 2 .c (.time (1000000000)
      (600000000000000) 1 4) (.nat 2000000000000)
  | .pwrGrazeStep => mkRow [.lit "pwr", .lit "graze", .lit "step", .num "" 8] 20 10 9 3 2 .c (.text .gstep) (.none)
  | .pwrGrazeTempWindow => mkRow [.lit "pwr", .lit "graze", .lit "temp_window"] 20 10 10 3 2 .c (.int
      1 10000) (.nat 200)
  | .pwrGrazeKeepWindow => mkRow [.lit "pwr", .lit "graze", .lit "keep_window"] 20 10 11 3 2 .c (.time
      (100000) (1000000000) 1 2) (.nat 10000000)
  | .pwrGrazeUncWake => mkRow [.lit "pwr", .lit "graze", .lit "unc_wake"] 20 10 12 3 2 .c (.time (10000)
      (1000000000000) 1 2) (.nat 50000000)
  | .pwrKeeperStab => mkRow [.lit "pwr", .lit "keeper", .lit "stab"] 20 10 13 1 4 .r (.ratio 1000000000
      10000000000000) (.nat 100000000000)
  | .pwrWakeAt => mkRow [.lit "pwr", .lit "wake", .lit "at"] 20 10 14 7 2 .c (.axisTime) (.none)
  | .pwrWakeEvery => mkRow [.lit "pwr", .lit "wake", .lit "every"] 20 10 15 3 2 .c (.time (0) (86400000000000000)
      1 4) (.nat 0)
  | .pwrWakeAddr => mkRow [.lit "pwr", .lit "wake", .lit "addr"] 20 10 16 3 2 .c (.hexInt 8 119) (.nat 58)
  | .pwrWakeStretch => mkRow [.lit "pwr", .lit "wake", .lit "stretch"] 20 10 17 3 2 .c (.bool) (.nat 1)
  | .pwrFaults => mkRow [.lit "pwr", .lit "faults"] 20 10 18 5 2 .none (.none) (.none)
  | .tallyEnable => mkRow [.lit "tally", .lit "enable"] 21 5 1 3 2 .c (.bool) (.nat 0)
  | .tallyPeriod => mkRow [.lit "tally", .lit "period"] 21 5 2 3 2 .c (.time (1000000000) (10000000000000)
      1000000000 3) (.nat 100000000000)
  | .tallyRing => mkRow [.lit "tally", .lit "ring"] 21 5 3 3 2 .c (.text .tallyRing) (.none)
  | .tallyRingMode => mkRow [.lit "tally", .lit "ring", .lit "mode"] 21 5 4 3 2 .c (.enum ["flow", "free"]) (.nat 0)
  | .tallyRingHost => mkRow [.lit "tally", .lit "ring", .lit "host"] 21 5 5 3 2 .c (.int 0 4294967295) (.nat 0)
  | .tallyMark => mkRow [.lit "tally", .lit "mark"] 21 5 6 3 2 .c (.int 1 65536) (.none)
  | .tallyHyst => mkRow [.lit "tally", .lit "hyst"] 21 5 7 3 2 .c (.int 0 65536) (.none)
  | .tallyU => mkRow [.lit "tally", .named .unit] 21 5 8 5 2 .none (.none) (.none)
  | .tallyUC => mkRow [.lit "tally", .named .unit, .num "c" 8] 21 5 9 3 2 .c (.int 0 255) (.nat 0)
  | .tallyUChain => mkRow [.lit "tally", .named .unit, .lit "chain"] 21 5 10 3 2 .c (.intSetList [0,
      2, 4, 6]) (.nats [])
  | .tallySnap => mkRow [.lit "tally", .lit "snap"] 21 5 11 1 0 .none (.none) (.none)
  | .txnStatus => mkRow [.lit "txn", .lit "status"] 22 3 1 1 0 .none (.none) (.none)
  | .txnStaged => mkRow [.lit "txn", .lit "staged"] 22 3 2 1 0 .none (.none) (.none)
  | .txnLast => mkRow [.lit "txn", .lit "last"] 22 3 3 1 0 .none (.none) (.none)
  | .mywiCounters => mkRow [.lit "mywi", .lit "counters"] 23 6 1 5 2 .none (.none) (.none)
  | .noteStatus => mkRow [.lit "note", .lit "status"] 24 3 1 1 0 .none (.none) (.none)
  | .noteSMask => mkRow [.lit "note", .named .source, .lit "mask"] 24 3 2 3 2 .c (.hex 32) (.nat 4294967295)
  | .noteSIrq => mkRow [.lit "note", .named .source, .lit "irq"] 24 3 3 3 2 .c (.text .irqList) (.nats [])
  | .noteSMsix => mkRow [.lit "note", .named .source, .lit "msix"] 24 3 4 3 2 .c (.text .msix) (.nats [])
  | .faultList => mkRow [.lit "fault", .lit "list"] 24 3 5 1 0 .none (.none) (.none)
  | .faultCode => mkRow [.lit "fault", .named .fault] 24 3 6 5 2 .none (.none) (.none)
  | .faultAll => mkRow [.lit "fault", .lit "all"] 24 3 7 4 2 .none (.none) (.none)
  | .supplyTj => mkRow [.lit "supply", .lit "tj"] 25 16 1 1 0 .none (.none) (.none)
  | .supplyTjWarn => mkRow [.lit "supply", .lit "tj_warn"] 25 16 2 3 2 .c (.int 33315 39815) (.nat 37315)

/-- Every path, in the order of the spec's tables. -/
def allPaths : List PathId :=
  List.flatten [
  [.axisTime, .axisTrust, .axisUnc, .axisSteps, .axisSignLimit, .axisLockUnc, .utcOffset, .utcLeap, .utcSmear,
   .utcSmearWindow, .systemMode, .systemModeBoot, .systemBlocks, .systemRestarts, .systemEid, .islandList,
   .islandName, .axisWavefront, .storeMap, .storeEcc, .keepRetain, .pinList, .pinSignal, .supplyStatus, .supplyAon,
   .supplyAonWarnMv, .bootCause, .bootSlot, .bootTime, .bootLog, .bootSkipped, .pmbFound, .pmbMap, .imageSlotA,
   .imageSlotB, .imageWrite, .imageOwner, .imageRollback, .mywiSessionPrompt, .mywiSessionEcho],
  [.mywiSessionCheck, .mywiSessionInfo, .mywiSessions, .mywiIdle, .mywiCon0Baud, .mywiCon0Flow, .mywiAccount,
   .mgmtEnable, .mgmtAddr, .mgmtGateway, .refList, .refSelected, .refIn, .refInEnable, .refInPrio, .refInHoldoff,
   .refInWtr, .refRevertive, .refXchkLimit, .refXchkFreq, .refGnssBaud, .refGnssLabel, .refGnssEdge, .refGnssMap,
   .refAtomTql, .refAtomUnc, .refAtomLockPol, .refSynceOption, .refSynceLane, .refPtpAsymUnc, .refGnssDelay,
   .refAtomDelay, .steerState, .steerTangent, .steerAcqBw, .steerTrackBw, .steerSlope, .steerLockErr,
   .steerOscKind, .steerOscFreq],
  [.steerOscFloor, .steerTangentWindow, .steerTangentMaxHold, .steerTangentResidMax, .steerTangentMinTql,
   .steerTempSource, .steerTempPmb, .outOEnable, .outOSquelch, .outClkFreq, .outClkStd, .outClkPhase, .outClkDelay,
   .outPulseDelay, .outPulsePeriod, .outPulseWidth, .outPulsePol, .outPulseOffset, .outPulseAlign,
   .outPulseMaxMove, .outIrigbPin, .outIrigbCode, .outIrigbScale, .outIrigbCf, .outIrigbOffset, .calStatus, .calCh,
   .calChTable, .calChEnable, .calChStd, .calChEdge, .calChDivide, .calChDelay, .calChMode, .calChStop,
   .calChStopEdge, .calChSigned, .calChLookback, .calChTimeout, .calChGate],
  [.calChGateSrc, .calChStatOf, .calChStatN, .calChStatPeriod, .calChMark, .calChHyst, .calChCmp, .calChCmpLo,
   .calChCmpHi, .portP, .portPMode, .portPAn, .portPPreempt, .portPSynceTx, .lpIpv4, .lpIpv6, .lpVlan, .lpRxDelay,
   .lpTxDelay, .lpPtpRole, .lpPtpProfile, .lpPtpStep, .lpPtpDelay, .lpPtpDomain, .portPtpPriority1,
   .portPtpPriority2, .portPtpHoldoverSpec, .prongGroups, .prongStatus, .prongCounters, .prongLaunchLead,
   .prongClassRate, .prongClassBurst, .prongClassOver, .prongClassKodHold, .prongClassUrgent,
   .prongClassNtsRequire, .prongRule, .prongClient, .prongClientAge],
  [.prongNtsRotate, .prongNtsEpoch, .prongPtpGrants, .prongUrgent, .sealStatus, .sealIdentity, .sealKey,
   .sealAlg, .sealCrpEnable, .sealCrpKeytab, .sealCounters, .journalStatus, .journalFull, .journalMark,
   .journalHyst, .latEnable, .latEid, .latPrio, .latRoot, .latRoster, .latL, .latLEnable, .latLVia, .latLDelayGate,
   .latLAsym, .latLAsymUnc, .latLTxDelay, .latLRxDelay, .latCounters, .deckDk, .deckDkMembers, .deckDkRole,
   .deckDkMaxRate, .deckDkMinRate, .deckDkCoordSlot, .deckDkSlots, .deckDkOpenMin, .deckDkSearch, .deckDkSealClass,
   .deckDkTxDelay],
  [.deckDkRxDelay, .deckDkCableDelay, .deckDkDelayUnc, .deckCounters, .ibexStatus, .ibexStore, .ibexCh,
   .ibexChEnable, .ibexChProg, .ibexChPins, .ibexChShift, .ibexChInject, .ibexChState, .ibexChFlags, .ibexKid,
   .ibexKidEnable, .ibexKidPin, .ibexKidClock, .ibexKidPattern, .ibexKidMask, .ibexKidOnMatch, .ibexKidHoldoff,
   .ibexKidFlags, .ibexPinPull, .dmaStatus, .dmaCh, .dmaChSrc, .dmaChDst, .dmaChCount, .dmaChUnit, .dmaChPace,
   .dmaChPrio, .dmaChSwap, .dmaChRing, .dmaChMark, .dmaChHyst, .dmaChNotify, .dmaChStatusAt, .dmaChRun,
   .dmaChHost],
  [.evtTaskT, .evtTaskTSrc, .evtTaskTCount, .evtSoft, .pwrState, .pwrDomains, .pwrVotes, .pwrGrazeEnable,
   .pwrSleep, .pwrIdle, .pwrGrazeOsc, .pwrGrazeOscWarm, .pwrGrazeStep, .pwrGrazeTempWindow, .pwrGrazeKeepWindow,
   .pwrGrazeUncWake, .pwrKeeperStab, .pwrWakeAt, .pwrWakeEvery, .pwrWakeAddr, .pwrWakeStretch, .pwrFaults,
   .tallyEnable, .tallyPeriod, .tallyRing, .tallyRingMode, .tallyRingHost, .tallyMark, .tallyHyst, .tallyU,
   .tallyUC, .tallyUChain, .tallySnap, .txnStatus, .txnStaged, .txnLast, .mywiCounters, .noteStatus, .noteSMask,
   .noteSIrq],
  [.noteSMsix, .faultList, .faultCode, .faultAll, .supplyTj, .supplyTjWarn]]

end Sys2Proof
end

