-- ==== Sys2Proof/Machine/State.lean ====
section
/-!
DEFINITION. The state of the engine as plain data: every register, buffer, queue, counter, mode and pin the spec gives
it, block by block, and the queue of commands that wait. Reset values are those of a power-on (Tables 1.7, 3.7, 5.2, 9.5
and the "Reset" columns); what the spec leaves open is named in notes/assumptions.
-/
set_option autoImplicit false

namespace Sys2Proof.Machine

/-! ## Custody time (chapter 1) -/

/-- The trust states of Table 1.3, in code order. -/
inductive Trust where
  | cold | acquire | locked | holdover | adrift
deriving DecidableEq, Repr

/-- The code of a trust state (Table 1.3). -/
def Trust.code : Trust → Nat
  | .cold => 0 | .acquire => 1 | .locked => 2 | .holdover => 3 | .adrift => 4

/-- The name of a trust state as Mywi shows it. -/
def Trust.name : Trust → String
  | .cold => "COLD" | .acquire => "ACQUIRE" | .locked => "LOCKED" | .holdover => "HOLDOVER" | .adrift => "ADRIFT"

/-- Who announced the armed leap (R31). -/
inductive LeapSrc where
  | ref (i : Nat)
  | table
deriving DecidableEq, Repr

/-- The armed leap: insertion or deletion, and the AXIS_SEC at which it takes effect. -/
structure Leap where
  insert : Bool
  at_ : Nat
  src : LeapSrc
deriving DecidableEq, Repr

/-- The sample a read of AXIS_NOW_W0 captures (R13): Axis time, AXIS_UNC and the AXIS_TRUST word. -/
structure NowShadow where
  axis : Nat := 0
  unc : Nat := uncMax
  trust : Word := 0
deriving DecidableEq, Repr

/-- Custody time. Times are in model units (`auPerSec`). -/
structure TimeSt where
  /-- The Axis clock runs (from OSC_IN's first appearance; R104). -/
  clockOn : Bool := false
  /-- Time since the Axis clock started; steps do not move it. -/
  up : Nat := 0
  /-- Axis time since 1970-01-01 00:00:00 TAI (Table 1.1). -/
  axis : Nat := 0
  /-- AXIS_UNC in ps (R22). -/
  unc : Nat := uncMax
  trust : Trust := .cold
  /-- HOLDOVER sub-state BRIDGE. -/
  bridge : Bool := false
  /-- LOCKED was reached since the last power-on or cold reset. -/
  everLocked : Bool := false
  /-- AXIS_UNC was saturated by F132 and no LOCKED has followed (R22, R190). -/
  lost132 : Bool := false
  /-- U_ENTRY in ps: AXIS_UNC at the last tick before LOCKED was left. -/
  uEntry : Nat := uncMax
  /-- The last tick in LOCKED. -/
  leftAt : Nat := 0
  /-- U_SLEEP in ps (R435). -/
  uSleep : Nat := 0
  /-- AXIS_UNC at or below LOCK_UNC since, and above it since (the 1 s dwells of Table 1.4). -/
  okSince : Option Nat := none
  badSince : Option Nat := none
  /-- SIGN_LIMIT and LOCK_UNC in force, in ns (R29). -/
  signLimit : Nat := 100000
  lockUnc : Nat := 1000
  /-- A change of selection to be published at the next tick (R174). -/
  selChanged : Bool := false
  /-- A report of loss of lock to be published at the next tick (R184). -/
  lockLost : Bool := false
  /-- R185: the reference selected at the entry to ADRIFT counts as becoming selected at the next tick. -/
  reselect : Bool := false
  stepCnt : Word := 0
  /-- The shadow of AXIS_NOW_W0's sample, and whether AXIS_NOW_W0 was read after the last AXIS_UNC_LO read. -/
  nowSh : NowShadow := {}
  nowLast : Bool := false
  /-- AXIS_TRUST has not been read since that sample. -/
  trustSh : Bool := false
  /-- The factory TAI-UTC offset, moved by leaps (R513). -/
  factoryOff : Int := 37
  /-- The value of `utc.offset` as moved by a leap, while no new value has been given (R513). -/
  movedSetting : Option Int := none
  leap : Option Leap := none
  /-- The trust states published at the last ticks, latest first (R213). -/
  hist : List Trust := []
  /-- A smear window in progress and its own length in ps (R33). -/
  smear : Option Nat := none
  /-- The armed leap is served unsmeared (R33). -/
  noSmear : Bool := false
  /-- The two values of the last `utc.conflict` raised for offsets and for leaps. -/
  offConflict : Option (Int × Int) := none
  leapConflict : Option (Nat × Nat) := none
deriving DecidableEq, Repr

/-! ## Notices and faults (chapter 24) -/

/-- A notice: its stem and its keys with their values, as the console line carries them. -/
structure Notice where
  stem : String
  args : List (String × String) := []
deriving DecidableEq, Repr

/-- The NOTE block. `evt` holds the source register of each s of Table 24.1 that is one register; 27 is NOTE_FAULT. -/
structure NoteSt where
  evt : Vector Word 28 := Vector.replicate 28 0
  /-- CAL_CHn_EVT and DMA_CHn_EVT, which sources 10 and 21 summarise. -/
  calEvt : Vector Word 40 := Vector.replicate 40 0
  dmaEvt : Vector Word 16 := Vector.replicate 16 0
  /-- The latest fault latched. -/
  last : Option Nat := none
  /-- Axis time (model units) of each fault's first latch, and its count. -/
  faultAt : Vector Nat 24 := Vector.replicate 24 0
  faultCnt : Vector Word 24 := Vector.replicate 24 0
  consoleOnly : Word := 0
  /-- MSI-X vectors sent, latest first. -/
  msiSent : List Nat := []
  /-- Pending-bit array (64 vectors). -/
  pba : BitVec 64 := 0
  /-- Notices queued for the next session that logs in (R146). -/
  forNew : List Notice := []
deriving DecidableEq, Repr

/-! ## Mywi (chapters 7 and 23) -/

/-- One item of a session's input buffer: a byte, or the mark of an error in the line being received (R134, R156,
R162). -/
inductive InItem where
  | byte (b : Byte)
  | bad (code : Nat)
deriving DecidableEq, Repr

/-- An outstanding nonce: its bits, the time it was issued and the name it was issued for (R151). -/
structure Nonce where
  bits : BitVec 128
  at_ : Nat
  name : String
deriving DecidableEq, Repr

/-- The staged bytes of `image write begin` (R479): announced length and the bytes chunks have covered. -/
structure ImgStage where
  len : Nat
  bytes : List (Nat × Byte) := []
deriving DecidableEq, Repr

/-- A Mywi session (R133 to R164). -/
structure Session where
  openS : Bool := false
  /-- 0 none, 1 observer, 2 operator, 3 custodian (Table 7.5). -/
  role : Nat := 0
  account : Option String := none
  nonce : Option Nonce := none
  inBuf : List InItem := []
  /-- Bytes are discarded up to the next LF (R134, R162). -/
  skip : Bool := false
  out : List Char := []
  queue : List String := []
  lost : Nat := 0
  prompt : Bool := true
  echo : Bool := false
  check : Nat := 0
  /-- The time of the last complete line. -/
  lastLine : Nat := 0
  /-- The tag of the line being answered. -/
  tag : String := ""
  /-- The staged items of an open transaction, in staging order (R461). -/
  txn : Option (List (Key × SVal)) := none
  img : Option ImgStage := none
  /-- The session waits for its commit's response (R465). -/
  waiting : Bool := false
deriving DecidableEq, Repr

/-- Mywi: eleven sessions (0 CON0, 1 HSPI, 2 mailbox, 3 to 10 MGMT), the lockout of each transport, the mailbox and
the counters. -/
structure MywiSt where
  sess : Vector Session 11 := Vector.replicate 11 {}
  /-- Mywi is open (R155). -/
  openM : Bool := false
  /-- Consecutive E601 failures and the start of the lock, per transport (CON0, HSPI, mailbox, MGMT; R152). -/
  fails : Vector Nat 4 := Vector.replicate 4 0
  lockAt : Vector (Option Nat) 4 := Vector.replicate 4 none
  lines : Word := 0
  errs : Vector Word 9 := Vector.replicate 9 0
  /-- The baud rate in use on CON0; a rate to come, with the characters that still leave at the old one once that is known
  (R156); and CON0_RTS_N high (R157). -/
  baud : Nat := 115200
  baudNext : Option (Nat × Option Nat) := none
  rtsHigh : Bool := false
  hspiRdy : Bool := false
  /-- The bytes the last HSPI transaction returned on MISO. -/
  miso : List Byte := []
  mbxIrqEn : Bool := false
  mbxResetBusy : Bool := false
  mbxInProd : Word := 0
  mbxInCons : Word := 0
  mbxOutProd : Word := 0
  mbxOutCons : Word := 0
  mbxEvt : Word := 0
  /-- The input and output rings: sparse words; what reset leaves there is the model's choice of 0. -/
  mbxIn : List (Nat × Word) := []
  mbxOut : List (Nat × Word) := []
deriving DecidableEq, Repr

/-! ## Changing the engine in service (chapter 22) -/

/-- A commit in progress: its session (none once that has ended), T in model units, the class A and C items, the
class B items still to apply, and those applied with their times (R463 to R466). -/
structure Commit where
  ses : Option Nat
  t : Nat
  itemsA : List (Key × SVal)
  itemsC : List (Key × SVal)
  itemsB : List (Key × SVal)
  done : List (Key × Nat) := []
  /-- T has been reached. -/
  window : Bool := false
  bankDone : Bool := false
  last : Nat := 0
  /-- The Warden restarted during the window (R469). -/
  restarted : Bool := false
  /-- The plan of the B4 items has been handed over. -/
  started : Bool := false
deriving DecidableEq, Repr

/-- Transactions: the commit in progress and the times of the last one. -/
structure TxnSt where
  commit : Option Commit := none
  /-- Further commits that wait for their T. -/
  more : List Commit := []
  lastT : Nat := 0
  lastEnd : Nat := 0
  lastItems : Nat := 0
deriving DecidableEq, Repr

/-! ## References (chapter 8) -/

/-- The states of a reference input (REF_INn_STATUS.STATE). -/
inductive RefState where
  | absent | qualifying | candidate | holdoff | demoted | wtr | disabled
deriving DecidableEq, Repr

def RefState.code : RefState → Nat
  | .absent => 0 | .qualifying => 1 | .candidate => 2 | .holdoff => 3 | .demoted => 4 | .wtr => 5 | .disabled => 6

def RefState.name : RefState → String
  | .absent => "absent" | .qualifying => "qualifying" | .candidate => "candidate" | .holdoff => "holdoff"
  | .demoted => "demoted" | .wtr => "wtr" | .disabled => "disabled"

/-- A loss condition of Table 8.2, or a fall in TQL, whose hold-off runs (R167). -/
inductive DownCause where
  | edges | message | tql | fref | alock | link | esmc | announce | sync | parent | hello | beacon | left | freq
  | block | disabled | fall | cold
deriving DecidableEq, Repr

def DownCause.name : DownCause → String
  | .edges => "edges" | .message => "message" | .tql => "tql" | .fref => "fref" | .alock => "alock" | .link => "link"
  | .esmc => "esmc" | .announce => "announce" | .sync => "sync" | .parent => "parent" | .hello => "hello"
  | .beacon => "beacon" | .left => "left" | .freq => "freq" | .block => "block" | .disabled => "disabled"
  | .fall => "fall" | .cold => "cold"

/-- GGA data of a GNSS receiver: fix quality, satellites and the time received; GSA: fix mode and PDOP in tenths. -/
structure GnssFix where
  q : Nat := 0
  sats : Nat := 0
  ggaAt : Option Nat := none
  fix : Nat := 0
  pdop : Nat := 0
  gsaAt : Option Nat := none
deriving DecidableEq, Repr

/-- One reference input (Table 8.1), with the data of its kind. -/
structure RefIn where
  st : RefState := .absent
  /-- The TQL of the quality mapping, and the mapped U_REF in ps. -/
  mapped : Nat := 0
  uref : Nat := uncMax
  /-- The effective TQL. -/
  tql : Nat := 0
  /-- It has been a candidate since release (R166). -/
  been : Bool := false
  /-- The count of events toward Table 8.2. -/
  qual : Nat := 0
  /-- Second count of Table 8.2's PTP row: delay exchanges. -/
  qual2 : Nat := 0
  /-- The last on-time event (edge, beacon, ANNOUNCE), and the last announce or sync of a PTP parent. -/
  lastEv : Option Nat := none
  lastMsg : Option Nat := none
  lastSync : Option Nat := none
  /-- The last good offset in ps and its time. -/
  ofs : Int := 0
  ofsAt : Option Nat := none
  /-- A running hold-off and its cause. -/
  hold : Option (Nat × DownCause) := none
  /-- The condition has held since, while waiting to restore; agreeing since, while demoted. -/
  wtrAt : Option Nat := none
  agreeAt : Option Nat := none
  /-- The last demotion: 1 phase, 2 freq, 3 seconds. -/
  reason : Nat := 0
  /-- The TAI-UTC offset held from this source, and the one it last reported (R513). -/
  utcHeld : Option Int := none
  utcSaid : Option Int := none
  /-- GNSS: an edge waiting for its label (time, Axis stamp), or a label waiting for its edge (UTC second, time). -/
  edge : Option (Nat × Nat) := none
  label : Option (Nat × Nat) := none
  fixd : GnssFix := {}
  /-- ATOM: FREF in range, ALOCK asserted, agreeing with a GNSS candidate since (R170). -/
  frefOk : Bool := false
  alock : Bool := false
  goodSince : Option Nat := none
  /-- SyncE: recovered frequency minus the Axis clock in 10^-18, its 100 s mean when there is one, F in ps per 1000 s,
  AXIS_UNC and the time at selection. -/
  freq : Int := 0
  fRate : Nat := 0
  selUnc : Nat := 0
  selAt : Nat := 0
  /-- PTP, Lattice, Deckline: the parent's identity, its announce and sync intervals in ps, update rate in Hz. -/
  parent : Option Nat := none
  annInt : Nat := 1000000000000
  syncInt : Nat := 1000000000000
  rate : Nat := 1
  nmeaErr : Word := 0
  /-- SyncE: its port's link is up; Lattice: its link is the parent link and hears HELLOs; Deckline: joined. -/
  alive : Bool := false
deriving DecidableEq, Repr

/-- References: the inputs and the selection. -/
structure RefSt where
  ins : Vector RefIn 20 := Vector.replicate 20 {}
  sel : Option (Fin 20) := none
deriving DecidableEq, Repr

/-! ## Steering and Tangent (chapter 9) -/

/-- One Tangent sample: mean integrator frequency in 10^-18, mean temperature in 0.01 K, mid-time in Axis seconds. -/
structure TSample where
  y : Int
  temp : Int
  t : Int
deriving DecidableEq, Repr

/-- The fit of R192: y0 and a (10^-18, per day), c (10^-18 per K), the residual and standard errors in the same
units, the temperatures spanned and the reference point. -/
structure TFit where
  y0 : Int := 0
  a : Int := 0
  c : Int := 0
  sigY : Nat := 0
  sigA : Nat := 0
  sigC : Nat := 0
  tmin : Int := 0
  tmax : Int := 0
  tref : Int := 0
  tempRef : Int := 0
  tcEst : Bool := false
deriving DecidableEq, Repr

/-- The steering loop and the Tangent model. The booked offset is in 10^-9 of a model unit, so that one tick at the
slope limit is a whole number. -/
structure SteerSt where
  /-- The integrator in 10^-18. -/
  integ : Int := 0
  delta : Int := 0
  slewing : Bool := false
  /-- The phase-slope limit in use, ppb (R15). -/
  slope : Nat := 50
  lock : Bool := false
  /-- The acquisition step, whether the schedule runs, the bandwidth in nHz and the time it was entered. -/
  step : Nat := 0
  acquiring : Bool := false
  bw : Nat := 100000000
  bwAt : Nat := 0
  fll : Bool := false
  clamp : Bool := false
  slopeClamp : Bool := false
  pullLimit : Bool := false
  predict : Bool := false
  /-- y_pred in 10^-18 while it drives the synthesiser. -/
  ypred : Int := 0
  /-- The phase errors of the U_LOOP window (time, magnitude in ps) and U_LOOP. -/
  errs : List (Nat × Nat) := []
  uloop : Nat := max32
  lastUpd : Option Nat := none
  /-- The start of the error's stay within `steer.lock_err`. -/
  smallAt : Option Nat := none
  /-- Integrator values of the last 100 s for R178 (time, value). -/
  freqs : List (Nat × Int) := []
  /-- OSC_IN present; free-running after F132; the start of its continuous run. -/
  oscOk : Bool := false
  freeRun : Bool := false
  oscSince : Nat := 0
  oscKind : Nat := 0
  oscFreq : Nat := 10000000000000
  oscFloor : Nat := 10000000
  /-- Tangent: the window oldest first, the fit (none: no coefficients held), MODEL_VALID, frozen. -/
  samples : List TSample := []
  fit : Option TFit := none
  valid : Bool := false
  frozen : Bool := false
  /-- The 64 s interval in progress: its start, and the sums of integrator and temperature with their count. -/
  intStart : Option Nat := none
  sumY : Int := 0
  sumT : Int := 0
  sumN : Nat := 0
  /-- Entry values t_e (Axis s), T_e, y_e, and the two integrals of R197 in 0.01 K times model units. -/
  te : Nat := 0
  tempE : Int := 0
  ye : Int := 0
  intDev : Nat := 0
  intOut : Nat := 0
  /-- The same for the hold-off of the selected input (R167): its temperature at the start and the two integrals. -/
  hoTemp : Int := 0
  hoDev : Nat := 0
  hoOut : Nat := 0
  /-- T in 0.01 K, the source in use (0 die, 1 pmb, 2 none) and the fallback. -/
  temp : Int := 0
  tempSrc : Nat := 0
  fallback : Bool := false
deriving DecidableEq, Repr

/-! ## Seal unit and journal (chapter 15) -/

/-- What a consumer of Axis time samples (R13): Axis time in model units, AXIS_UNC in ps, trust state, SIGN_OK,
ACTIVE_TQL and the mode code, all of one trust tick; `bad` when the stamp is INVALID (R54). -/
structure Sample where
  axis : Nat := 0
  unc : Nat := uncMax
  trust : Trust := .cold
  signOk : Bool := false
  tql : Nat := 0
  mode : Nat := 0
  bad : Bool := false
deriving DecidableEq, Repr

/-- Where a seal request came from and where its answer goes (Table 15.1): a CRP datagram on a logical port, a
Deckline segment and address, or a descriptor of a PCIe queue. -/
inductive SealSrc where
  | crp (lp : Nat) (addr : List Byte) (udp : Nat)
  | deck (seg : Nat) (addr : Nat) (mid : Nat)
  | pcie (q : Nat) (slot : Nat)
deriving DecidableEq, Repr

/-- A seal request past its format tests. -/
structure SealReq where
  src : SealSrc
  sample : Sample := {}
  digest : List Byte := []
  nonce : List Byte := []
  cid : List Byte := []
  /-- 0 ES256, 1 EdDSA. -/
  alg : Nat := 0
  /-- REQ_ID or CTX, echoed. -/
  reqId : Nat := 0
  /-- The client key that authenticates the reply. -/
  hmacKey : Option Nat := none
deriving DecidableEq, Repr

/-- An admitted request with its SEQ and the key slot of its algorithm. -/
structure Pending where
  req : SealReq
  seq : Nat
  slot : Nat
  kid : Nat := 0
  key : Nat := 0
deriving DecidableEq, Repr

/-- One record that has its SEQ and is not yet in Store: a token whose signature is awaited, or a system record that
follows such a token (R299: records are written in SEQ order). -/
inductive PoolItem where
  | tok (p : Pending)
  | sys (seq : Nat) (head body : List Byte)
deriving DecidableEq, Repr

/-- A key slot's state (R313). -/
inductive KeyState where
  | empty | ready | active | retired
deriving DecidableEq, Repr

def KeyState.code : KeyState → Nat
  | .empty => 0 | .ready => 1 | .active => 2 | .retired => 3

/-- A key slot: its state, algorithm (0 ES256, 1 EdDSA), the key pair (a free number), and the SEQ of its last KEY
record. -/
structure KeySlot where
  st : KeyState := .empty
  alg : Nat := 0
  key : Nat := 0
  recSeq : Nat := 0
deriving DecidableEq, Repr

/-- A PCIe request queue (R306). -/
structure SealQ where
  desc : Nat := 0
  cpl : Nat := 0
  log2 : Nat := 0
  en : Bool := false
  prod : Word := 0
  cons : Word := 0
  done : Word := 0
deriving DecidableEq, Repr

/-- A reply the Seal unit has released: status, trust byte, SEQ, UNC_NS and the token, with its source (Table 15.4). -/
structure SealReply where
  src : SealSrc
  reqId : Nat := 0
  status : Nat
  trust : Nat
  seq : Nat := 0
  uncNs : Nat := 0
  token : List Byte := []
  hmac : Option (BitVec 256) := none
deriving DecidableEq, Repr

/-- The Seal unit and the journal head. The records themselves lie in Store. -/
structure SealSt where
  keys : Vector KeySlot 8 := Vector.replicate 8 {}
  queues : Vector SealQ 8 := Vector.replicate 8 {}
  slots : Vector (Option Sample) 8 := Vector.replicate 8 none
  /-- Requests past tests 1 to 9 that wait for admission (CRP, then Deckline; R297). -/
  waitCrp : List SealReq := []
  waitDeck : List SealReq := []
  pool : List PoolItem := []
  /-- The source the round robin serves next: 0 CRP, 1 Deckline, 2 + q. -/
  rr : Nat := 0
  cnt : Vector Word 10 := Vector.replicate 10 0
  /-- Replies released, latest first. -/
  replies : List SealReply := []
  /-- Deckline replies that wait for the coordinator slot, and PCIe completions that wait for their order: queue, index
  and reply. -/
  deckOut : List SealReply := []
  cplWait : List (Nat × Nat × SealReply) := []
  /-- A warm restart refuses new requests (R43). -/
  busy : Bool := false
  next : Nat := 0
  ack : Nat := 0
  rel : Nat := 0
  head : BitVec 256 := 0
  chain : BitVec 128 := 0
  /-- The journal.mark latch may set again (R321). -/
  markArmed : Bool := true
  fullEpisode : Bool := false
  uceSeq : Nat := 0
  lostCnt : Word := 0
  lostPend : Nat := 0
  lostType : Nat := 0
  refusals : Nat := 0
  /-- Refusals since the last `seal.refuse`. -/
  refuseN : Nat := 0
  lastSignOk : Bool := false
  refuseAt : Option Nat := none
  damaged : List Nat := []
deriving DecidableEq, Repr

/-! ## Islands, memory, supplies, boot and restarts (chapters 2 to 5, 25) -/

/-- One island's wavefront state (R52 to R57). -/
structure Island where
  /-- An anchor has been received and the delay measured since the domain powered up (R57). -/
  anchored : Bool := false
  measured : Bool := false
  /-- D in ps, a multiple of 50, and a move that waits for the next wrap. -/
  d : Int := 0
  move : Int := 0
  /-- The latest measurement lies outside 0 to 20,000 ps (R55). -/
  outside : Bool := false
  /-- Stamps are invalid until the next consistent anchor, and the run of inconsistent anchors (R53). -/
  slipped : Bool := false
  badRun : Nat := 0
deriving DecidableEq, Repr

/-- The power domains (Table 20.1), in vote order. -/
inductive Domain where
  | aon | keep | ref | port | pipe | seal | lat | deck | ibex | store
deriving DecidableEq, Repr

def Domain.idx : Domain → Fin 10
  | .aon => 0 | .keep => 1 | .ref => 2 | .port => 3 | .pipe => 4 | .seal => 5 | .lat => 6 | .deck => 7 | .ibex => 8
  | .store => 9

/-- Why a restart runs (GLOBAL_MODE.LAST_CAUSE 2 to 4). -/
inductive RestartKind where
  | warm | mode | activation
deriving DecidableEq, Repr

def RestartKind.code : RestartKind → Nat
  | .warm => 2 | .mode => 3 | .activation => 4

/-- How far a warm restart of Table 2.4 has come. -/
inductive RestartPhase where
  | draining | stopped | configured
deriving DecidableEq, Repr

/-- A warm restart in progress: its kind, the mode it enters, its t0 and the client that asked. -/
structure Restart where
  kind : RestartKind
  newMode : Nat
  t0 : Nat
  phase : RestartPhase := .draining
  transport : Nat := 0
  session : Nat := 0
  account : String := ""
  /-- The mode it leaves, and Axis time at t_s. -/
  oldMode : Nat := 0
  ts : Nat := 0
deriving DecidableEq, Repr

/-- The blocks that accept a block reset (Table 5.6). -/
inductive RstBlock where
  | port (p : Fin 4)
  | group (g : Fin 4)
  | lat (n : Fin 4)
  | deck (n : Fin 2)
  | ibex
  | dma
  | tally
deriving DecidableEq, Repr

/-- A regulator found by the boot scan: its address, and for each page READ_VOUT in mV. -/
structure Regulator where
  addr : Nat
  pages : List Nat
deriving DecidableEq, Repr

/-- The system: mode, restarts, boot, supplies, pins, PMBus map, bus events, ECC, the PCIe function and die
temperature. -/
structure SysSt where
  /-- VDD_AON is above V_BOR (R84). -/
  aonUp : Bool := true
  /-- Mode codes of Table 2.1; 0 only before the first boot completes. -/
  runMode : Nat := 0
  bootMode : Nat := 0
  lastCause : Nat := 0
  changing : Bool := false
  restarts : Word := 0
  restart : Option Restart := none
  /-- GLOBAL_BOOT. -/
  stage : Nat := 0
  done : Bool := false
  slot : Nat := 0
  aBad : Bool := false
  bBad : Bool := false
  qspiNone : Bool := false
  factory : Bool := false
  coldSrc : Nat := 0
  bootUs : Word := 0
  bootLog : List (Nat × Nat) := []
  skipped : List String := []
  /-- F302 is to be latched after this boot (R86). -/
  railFail : Bool := false
  /-- Blocks released (R108). -/
  released : Bool := false
  /-- The block reset in progress (R97). -/
  inReset : List RstBlock := []
  /-- Live supplies: power-good bits, XO32_IN present, VDD_AON in mV as it is and as last measured. -/
  pg : BitVec 8 := 0
  xo32Ok : Bool := true
  aonMv : Nat := 3000
  aonMvReg : Nat := 0
  aonLowArmed : Bool := true
  /-- `supply.aon_low` waits for the wake (R85). -/
  aonLowSay : Bool := false
  oscEn : Bool := true
  /-- The PMBus scan: regulators found, the page each rail is mapped to, rails in conflict, the scan stuck, the map set
  through Mywi (Keep bank 7, R512). -/
  regs : List Regulator := []
  mapped : Vector (Option (Nat × Nat)) 8 := Vector.replicate 8 none
  conflict : BitVec 8 := 0
  stuck : Bool := false
  pmbMapSet : Option String := none
  /-- BUS_ISO_ADDR and the blocks whose isolated period has raised `bus.isolated` (R65). -/
  isoAddr : Word := 0
  isoRaised : List Nat := []
  ceCnt : Word := 0
  uceCnt : Word := 0
  uceAddr : Nat := 0
  /-- 64-bit words of Store with a single-bit and with an uncorrectable error, by BAR2 offset. -/
  ceWords : List Nat := []
  uceWords : List Nat := []
  /-- The PCIe function (R66, R490): link, PERST#, Bus Master Enable, MSI-X Enable and function mask, D3hot, and the
  MSI-X table's words. -/
  linkUp : Bool := false
  perst : Bool := true
  busMaster : Bool := false
  msixEn : Bool := false
  msixMask : Bool := false
  d3hot : Bool := false
  msixTab : List (Nat × Word) := []
  /-- The words the last host read returned, lowest address first, and whether it was poisoned (R62). -/
  rdata : List Word := []
  poisoned : Bool := false
  /-- Shadows of wide read values and staging of wide writable values, by offset (R7, R8). -/
  shadow : List (Nat × Word) := []
  staged : List (Nat × Word) := []
  /-- Die temperature in 0.01 K: latest, highest since the last read, and the notice's re-arm (R510). -/
  tNow : Nat := 0
  tMax : Nat := 0
  tjArmed : Bool := true
deriving DecidableEq, Repr

/-- The wavefront: 48 islands and the number that raised the latest slip. -/
structure WaveSt where
  isl : Vector Island 48 := Vector.replicate 48 {}
  lastSlip : Nat := 0
deriving DecidableEq, Repr

/-- The effective settings (R38): values set through Mywi, the active image's records in image order, and whether the
path tables' values are in force (from boot's settings stage on). -/
structure SetSt where
  mywi : List (Key × SVal) := []
  profile : List (Key × SVal) := []
  /-- A set value of `lat.eid` that waits for the next warm restart (R512). -/
  eidNext : Option SVal := none
deriving DecidableEq, Repr

/-! ## The event matrix (chapter 19) -/

/-- The event matrix: each task input's source mask (the sources that feed it), arrival counter and overflow bit, the
latest task that overflowed, the count of arrivals lost to saturation, and the source pulses not yet routed. -/
structure EvtSt where
  src : Vector (List Nat) 96 := Vector.replicate 96 []
  cnt : Vector Nat 96 := Vector.replicate 96 0
  ovf : Vector Bool 96 := Vector.replicate 96 false
  lastOvf : Nat := 0
  raised : List Nat := []
deriving DecidableEq, Repr

/-! ## The DMA engine (chapter 19) -/

/-- How far a channel is: idle, pending, moving its last burst or reading back, paused, ended (DMA_CHn_STATUS.STATE). -/
inductive DmaState where
  | idle | pending | moving | paused | ended
deriving DecidableEq, Repr

def DmaState.code : DmaState → Nat
  | .idle => 0 | .pending => 1 | .moving => 2 | .paused => 3 | .ended => 4

/-- One DMA channel: the descriptor registers, the working copies and place of its pass, its ring and its last end. -/
structure DmaCh where
  src : Nat := 0
  dst : Nat := 0
  count : Nat := 0
  cfg : Word := 0
  /-- MARK and HYST as written (none: three quarters and one quarter of COUNT). -/
  mark : Option Nat := none
  hyst : Option Nat := none
  stat : Nat := 0
  host : Word := 0
  eng : Word := 0
  st : DmaState := .idle
  code : Nat := 0
  residue : Nat := 0
  /-- Working copies of the pass, and the bytes it has written (in a ring: in all rounds). -/
  wsrc : Nat := 0
  wdst : Nat := 0
  wcount : Nat := 0
  done : Nat := 0
  /-- The last write has been issued and the read-back is awaited; an abort came too late. -/
  issued : Bool := false
  late : Bool := false
  /-- The MARK latch may set again (R412). -/
  markArmed : Bool := true
  /-- `dma.half` and `dma.full`: the last time each was raised and the occurrences since. -/
  halfAt : Option Nat := none
  halfN : Nat := 0
  fullAt : Option Nat := none
  fullN : Nat := 0
deriving DecidableEq, Repr

/-- The DMA engine: its channels and the channel last granted at each priority. -/
structure DmaSt where
  ch : Vector DmaCh 16 := Vector.replicate 16 {}
  last : Vector (Option (Fin 16)) 4 := Vector.replicate 4 none
deriving DecidableEq, Repr

/-! ## Tally counters (chapter 21) -/

/-- One counting unit: the start of its CYCLES count, C0 to C7, selections and chain bits with a change that waits, WRAP,
the last capture and the flags of the next. -/
structure TallyUnit where
  /-- The unit counts: its domain is up (R452). -/
  run : Bool := false
  /-- The count of the island's clock at which CYCLES was 0. -/
  cyc0 : Nat := 0
  c : Vector Nat 8 := Vector.replicate 8 0
  sel : Vector Nat 8 := Vector.replicate 8 0
  chain : Vector Bool 4 := Vector.replicate 4 false
  selNew : Vector Nat 8 := Vector.replicate 8 0
  chainNew : Vector Bool 4 := Vector.replicate 4 false
  /-- `clear tally.<unit>` waits for the next instant. -/
  clearPend : Bool := false
  wrap : BitVec 8 := 0
  changed : Bool := false
  restarted : Bool := false
  snapCyc : Nat := 0
  snap : Vector Nat 8 := Vector.replicate 8 0
  snapFlags : Nat := 0
deriving DecidableEq, Repr

/-- The Tally units, the reader and its ring. -/
structure TallySt where
  u : Vector TallyUnit 18 := Vector.replicate 18 {}
  enable : Bool := false
  free : Bool := false
  periodMs : Nat := 100
  /-- A period or enable applies from this Axis time on, before it those of `was` (R450). -/
  notBefore : Nat := 0
  was : Bool × Nat := (false, 100)
  ring : Nat := 0
  /-- log2 of the size in records; 0 while no ring is configured. -/
  log2 : Nat := 0
  eng : Word := 0
  host : Word := 0
  mark : Option Nat := none
  hyst : Option Nat := none
  markArmed : Bool := true
  seq : Nat := 0
  skippedCnt : Word := 0
  lostCnt : Word := 0
  /-- Records lost and instants skipped since the previous record. -/
  lost : Nat := 0
  skipped : Nat := 0
  /-- The instant last dealt with, and the end of the record being written. -/
  lastInst : Option Nat := none
  writeEnd : Option Nat := none
  missAt : Option Nat := none
deriving DecidableEq, Repr

/-! ## The profile image (chapter 6) -/

/-- What the IMG registers show of a slot: STATE, RESULT, FW_VERSION, ROLLBACK and GENERATION. -/
structure SlotInfo where
  state : Nat := 0
  result : Nat := 0
  fw : Nat := 0
  rollback : Nat := 0
  gen : Nat := 0
deriving DecidableEq, Repr

/-- A slot write in progress: its target, the source (a Store offset, or the staged bytes), the length, the step of R129
and the bytes programmed. -/
structure SlotWrite where
  slot : Fin 2
  store : Option Nat
  bytes : List Byte
  len : Nat
  step : Nat := 1
deriving DecidableEq, Repr

/-- The flash (bytes that are not 0xFF, by offset, rising), the OTP fuses of the image and the IMG registers. Flash and
OTP keep their contents with no supply. -/
structure ImgSt where
  flash : List (Nat × Byte) := []
  info : Vector SlotInfo 2 := Vector.replicate 2 {}
  write : Option SlotWrite := none
  rollback : Nat := 0
  tkeyRevoked : BitVec 4 := 0
  owners : Vector (Option (BitVec 256)) 4 := Vector.replicate 4 none
  ownerRevoked : BitVec 4 := 0
deriving DecidableEq, Repr

/-! ## Ethernet ports and Pronghorn (chapters 12 to 14) -/

/-- How far a lane has come toward link-up (R264). -/
inductive LaneSt where
  | down | signal | up
deriving DecidableEq, Repr

/-- One lane of a port: link state, retries, deskew, the phase of its transmit block boundaries (model units), and for
the receive and the transmit marker stream the last 256 differences since link-up with the time of the last. -/
structure Lane where
  st : LaneSt := .down
  retries : Nat := 0
  skew : Nat := 0
  phase : Nat := 0
  rxMarks : List Int := []
  txMarks : List Int := []
  refine : Int := 0
  markAt : Option Nat := none
deriving DecidableEq, Repr

/-- An NTP reply (Table 13.3): times as 64-bit NTP timestamps; an NTS reply's unique identifier, new cookies and sealed
bytes. -/
structure NtpReply where
  dst : Addr
  udp : Nat
  li : Nat
  vn : Nat
  stratum : Nat
  poll : Nat
  dispersion : Nat
  refId : String
  refTs : Nat
  org : Nat
  rx : Nat
  tx : Nat
  uid : List Byte := []
  cookies : Nat := 0
  keyId : Nat := 0
  sealed_ : Option (List Byte) := none
deriving DecidableEq, Repr

/-- The announced data of Table 12.4. -/
structure AnnounceOut where
  clockClass : Nat
  accuracy : Nat
  variance : Nat
  prio1 : Nat
  prio2 : Nat
  timeSource : Nat
  traceable : Bool
  utc : Int
  utcValid : Bool
  leap61 : Bool
  leap59 : Bool
deriving DecidableEq, Repr

/-- What the engine sends through a logical port. A PTP time is split into whole nanoseconds and a correction field. -/
inductive Msg where
  | ntp (r : NtpReply)
  | delayResp (dst : Addr) (seq : Nat) (ns : Nat) (corr : Nat)
  | pdelayResp (dst : Addr) (seq : Nat) (two : Bool) (ns : Nat) (corr : Nat)
  | pdelayFollow (dst : Addr) (seq : Nat) (ns : Nat) (corr : Nat)
  | sync (dst : Option Addr) (one : Bool) (ns : Nat) (corr : Nat)
  | followUp (dst : Option Addr) (ns : Nat) (corr : Nat)
  | announce (dst : Option Addr) (a : AnnounceOut)
  | grant (dst : Addr) (kind : Nat) (dur : Nat)
  | ackCancel (dst : Addr) (kind : Nat)
  | esmc (event : Bool) (ssm : Nat) (ext : Option Nat)
  | slow (kind : Nat)
  | crp (r : SealReply)
  | cookies (dst : Addr) (epoch : Nat) (l : List (List Byte))
  | lattice (n : Nat) (payload : List Byte)
deriving DecidableEq, Repr

/-- A launch-timed frame booked on a logical port (R257): its instant and its length on the wire in model units of Axis
time, the pipeline (none: the grant scheduler), whether it is urgent, when its pipeline hands it over, whether the launch
queue holds it, and what follows it when it has crossed the MDI. -/
structure Booking where
  at_ : Nat
  dur : Nat
  msg : Msg
  pipe : Option (Fin 16) := none
  urgent : Bool := false
  handAt : Nat := 0
  timed : Bool := true
  rx : Nat := 0
deriving DecidableEq, Repr

/-- A logical port: ready for time stamps, its bookings, the frames without a reservation that wait (length in bytes),
and the urgent maxima (PRONG_URGi). -/
structure LPort where
  ready : Bool := false
  books : List Booking := []
  plain : List (Nat × Msg) := []
  /-- The wire is taken by a frame already started until this instant. -/
  busy : Nat := 0
  maxNs : Nat := 0
  deep : Nat := 0
deriving DecidableEq, Repr

/-- One port. `mode` is the position in `portModeNames` (8 off). -/
structure Port where
  mode : Nat := 8
  /-- The mode a change in progress goes to, and its start. -/
  change : Option (Nat × Nat) := none
  lanes : Vector Lane 4 := Vector.replicate 4 {}
  lps : Vector LPort 4 := Vector.replicate 4 {}
  preemptOk : Bool := false
  late : Word := 0
  linkDrop : Word := 0
  parseDrop : Word := 0
  fcsErr : Word := 0
  fecUncorr : Word := 0
  /-- The last QL sent. -/
  ql : Option (Nat × Option Nat) := none
deriving DecidableEq, Repr

/-- Where the port passed a frame (R251). -/
inductive RxDest where
  | pronghorn | seal | tunnel | warden | slow | none
deriving DecidableEq, Repr

/-- A cached client-table entry (R285). -/
structure CacheEntry where
  af : Bool
  key : Nat
  flags : Nat
  cls : Nat
  crp : Nat
  fetched : Nat
deriving DecidableEq, Repr

/-- One pipeline: its committed work as the instant it is free, the end of its urgent slot, its cache, most recently used
first. -/
structure Pipe where
  busy : Nat := 0
  urgent : Nat := 0
  cache : List CacheEntry := []
deriving DecidableEq, Repr

/-- A unicast grant (R280): 0 Announce, 1 Sync, 2 Delay_Resp. -/
structure Grant where
  lp : Nat
  dst : Addr
  kind : Nat
  period : Int
  ends : Nat
deriving DecidableEq, Repr

/-- Ports and Pronghorn. -/
structure PortSt where
  p : Vector Port 4 := Vector.replicate 4 {}
  /-- What has been sent, latest first: logical port, instant and message. -/
  sent : List (Nat × Nat × Msg) := []
  /-- The last frame received: its logical port, where it went and mdi_rx. -/
  rx : Option (Nat × RxDest × Int) := none
deriving DecidableEq, Repr

/-- Pronghorn. -/
structure ProngSt where
  pipes : Vector Pipe 16 := Vector.replicate 16 {}
  /-- Serving (false between t_s of a warm restart and its resumption, and before release). -/
  serving : Bool := false
  cnt : Vector (Vector Word 18) 4 := Vector.replicate 4 (Vector.replicate 18 0)
  /-- The group being reloaded and its switch instant. -/
  reload : Option (Fin 4 × Nat) := none
  /-- The active bank's number, and a pending switch: its instant and the changes staged (R287). -/
  bank : Nat := 0
  switch : Option (Nat × List (Key × SVal)) := none
  hashKey : Nat := 0
  hashIn : Vector Word 2 := Vector.replicate 2 0
  hashAf : Bool := false
  hashOut : Word := 0
  /-- The key ring: the epoch e, the keys held by epoch, and a rotation whose erasure waits. -/
  epoch : Nat := 0
  ring : List (Nat × Nat) := []
  eraseDue : Bool := false
  /-- The rotation period in force in ps (R460). -/
  rotPer : Nat := 0
  grants : List Grant := []
  /-- The time of the last `prong.late`, and the last reference to set the stratum in LOCKED. -/
  lateAt : Option Nat := none
  lastSel : Option (Fin 20) := none
deriving DecidableEq, Repr

/-! ## Power states (chapter 20) -/

/-- A domain: up and released; isolated but powered (an entry that has passed point 1 or 2); down; or powering up
(whether its power-good has already failed once, R428). -/
inductive DomSt where
  | up | isolated | down | starting (failed : Bool)
deriving DecidableEq, Repr

/-- What an entry or a return leads to (Table 20.1). -/
inductive PState where
  | full | trim | graze | bed | off
deriving DecidableEq, Repr

def PState.code : PState → Nat
  | .full => 0 | .trim => 1 | .graze => 2 | .bed => 3 | .off => 4

def PState.name : PState → String
  | .full => "FULL" | .trim => "TRIM" | .graze => "GRAZE" | .bed => "BED" | .off => "OFF"

/-- A voltage request: the rail (bit of Table 4.1's order) and whether it is switched on. -/
structure RailReq where
  rail : Fin 8
  on : Bool
deriving DecidableEq, Repr

/-- The result and the last run of a Graze step. -/
structure GStep where
  last : Nat := 0
  result : Nat := 0
deriving DecidableEq, Repr

/-- The PWR block. -/
structure PwrSt where
  st : PState := .full
  dom : Vector DomSt 10 := (Vector.replicate 10 DomSt.down).set 0 DomSt.up
  /-- The last point passed, the entry's target while one is in progress, a return in progress. -/
  point : Nat := 0
  entering : Option PState := none
  returning : Bool := false
  /-- A wake after point 4, and a wake to be published when KEEP is released: its cause and argument. -/
  wakePend : Option Nat := none
  wakeSay : List (Nat × Option Nat) := []
  lastWake : Nat := 0
  /-- Voltage requests not yet acknowledged, and those acknowledged in this entry. -/
  reqs : List RailReq := []
  reqDone : List RailReq := []
  /-- Rails that are off. -/
  railsOff : BitVec 8 := 0
  /-- A return's failed request waits for its retry (R430). -/
  retry : Bool := false
  hostVote : Word := 0
  wakeN : Bool := false
  wakeArg : Word := 0
  /-- The keeper: f_x in 10^-12, whether it holds a fit over 64 s, the last KEEPCAL, and the start of the rest in
  progress (both by the running clock). -/
  fx : Int := 0
  calibrated : Bool := false
  calAt : Option Nat := none
  restAt : Option Nat := none
  entryCnt : Word := 0
  abortCnt : Word := 0
  /-- The sleep conditions have held since; the last service to a client; the last wake. -/
  idleAt : Option Nat := none
  servedAt : Option Nat := none
  steps : Vector GStep 8 := Vector.replicate 8 {}
  /-- T at the previous TEMP step and when. -/
  prevTemp : Option (Int × Nat) := none
  /-- The AON timer's next instant in Axis time, when armed. -/
  timer : Option Nat := none
  /-- Return delays as amended by the image: (domain, from-state 1 to 3, us). -/
  rdelay : List (Nat × Nat × Nat) := []
  /-- `pwr.withdrawn` has been raised for the cause in force. -/
  withdrawn : Bool := false
  /-- The span in ps of the keeper's fit (sigma_x is 2 ns over it), the banks retained as taken at the entry (R64), and the
  time of the wake that the return answers. -/
  fitSpan : Nat := 0
  retain : BitVec 16 := 0xC0
  wokeAt : Option Nat := none
  /-- Graze steps asked for by their task inputs. -/
  stepReq : BitVec 8 := 0
  /-- The Wake port's last response: 0 none, 1 an ACK, 2 an ACK after stretching, 3 a NACK, 4 a read whose first byte has
  been returned, 5 a write whose byte has been stored; whether SCL is held low; whether the match was for a read. -/
  wk : Nat := 0
  wkStretch : Bool := false
  wkRead : Bool := false
  /-- The state a return in progress comes from (GRAZE or BED: what KEEP lost), and the votes held when the entry began. -/
  retFrom : PState := .graze
  votes0 : List Nat := []
deriving DecidableEq, Repr

/-! ## Caliper (chapter 11) -/

/-- A record of Table 11.3. -/
structure CalRec where
  w0 : Word
  w1 : Word
  w2 : Word
  w3 : Word
deriving DecidableEq, Repr

/-- The record a read of an empty queue returns (R228). -/
def CalRec.empty : CalRec := ⟨0x380, 0, 0, 0⟩

/-- A stamp: Axis time in model units with the input delay applied, its edge, validity and flags; whether it has been a
stop of some interval (R235). -/
structure CalStamp where
  t : Int
  falling : Bool := false
  bad : Bool := false
  uncal : Bool := false
  dead : Bool := false
  paired : Bool := false
deriving DecidableEq, Repr

/-- The settings a channel works by, taken over 1 us after a change (R241). -/
structure CalCfg where
  en : Bool := false
  mode : Nat := 0
  edge : Nat := 0
  divide : Nat := 1
  stop : Nat := 0
  stopFall : Bool := false
  signed : Bool := false
  gate : Nat := 1000000000000
  gateEvt : Bool := false
  statOf : Nat := 0
  statN : Nat := 100
  period : Nat := 1000000000000
  delay : Int := 0
deriving DecidableEq, Repr

/-- An open gate: its start, the index of the next passed edge, and the sums of R237 over the stamps, relative to it. -/
structure CalGate where
  t0 : Int
  k : Nat := 0
  n : Int := 0
  sk : Int := 0
  skk : Int := 0
  st : Int := 0
  skt : Int := 0
  stt : Int := 0
  dead : Bool := false
  bad : Bool := false
  uncal : Bool := false
deriving DecidableEq, Repr

/-- A partial statistics block (R239): its values in units of 2^-16 ns, and its timeouts. -/
structure CalBlock where
  vals : List Int := []
  timeouts : Nat := 0
  bad : Bool := false
  dead : Bool := false
  uncal : Bool := false
deriving DecidableEq, Repr

/-- One Caliper channel. -/
structure CalCh where
  cfg : CalCfg := {}
  /-- A change of settings, by its time, not yet taken over. -/
  changeAt : Option Nat := none
  queue : List CalRec := []
  seq : Nat := 0
  lost : Word := 0
  /-- The next record admitted carries OVF_BEFORE; an episode of loss at the queue, and at the stamp bus. -/
  ovf : Bool := false
  queueEp : Bool := false
  busEp : Bool := false
  markArmed : Bool := true
  divCnt : Nat := 0
  lastStamp : Option Int := none
  deadPend : Bool := false
  /-- Stamps held for pairing, oldest first, and the dead misses among them. -/
  hist : List CalStamp := []
  misses : List Int := []
  start : Option CalStamp := none
  /-- Only later stamps are starts. -/
  after : Option Int := none
  gate : Option CalGate := none
  /-- The gate task has run and its gate has not opened yet. -/
  gateReq : Bool := false
  block : CalBlock := {}
  prev : Option CalStamp := none
  /-- The words a read of POP0 captured. -/
  popped : CalRec := ⟨0, 0, 0, 0⟩
deriving DecidableEq, Repr

/-- The stamp bus (R224): the instants at which the stamps in each front buffer were taken, oldest first, the instant at which
the bus is free, and the tap and the external input served last. -/
structure StampBus where
  front : Vector (List Nat) 40 := Vector.replicate 40 []
  free : Nat := 0
  tap : Nat := 39
  ext : Nat := 23
deriving DecidableEq, Repr

/-- The Caliper: channels, DLLs of cal0, cal1, cal2 and caltap, the bin tables in fs (empty: UNCAL), the code-density
test and the captured table. -/
structure CalSt where
  ch : Vector CalCh 40 := Vector.replicate 40 {}
  dll : Vector Bool 4 := Vector.replicate 4 false
  tables : Vector (List Nat) 40 := Vector.replicate 40 []
  cdLine : Nat := 0
  cdSel : Nat := 0
  cdTab : List Nat := []
  firstDone : Bool := false
  bus : StampBus := {}
deriving DecidableEq, Repr

/-! ## Outputs (chapter 10) -/

/-- The settings a pulse output works by (R207): period in ps, offset, delay, width in ps, alignment (0 axis, 1 ref,
8 + n: CALn) and the limit of R209. -/
structure PulseCfg where
  period : Nat := 1000000000000
  offset : Int := 0
  delay : Nat := 0
  width : Nat := 100000000
  align : Nat := 0
  maxMove : Nat := 1000000
deriving DecidableEq, Repr

/-- A pulse output: latest phase and placed phase in ps, the last edge of its input, its flags, the delay line's
correction in ps, the last instant and the end of a pulse in progress (model units of Axis time). -/
structure PulseOut where
  cfg : PulseCfg := {}
  changeAt : Option Nat := none
  phi : Int := 0
  placed : Int := 0
  taken : Bool := false
  edgeAt : Option Nat := none
  hold : Bool := false
  squelched : Bool := true
  measured : Bool := false
  calOk : Bool := false
  corr : Int := 0
  last : Option Nat := none
  until_ : Option Nat := none
deriving DecidableEq, Repr

/-- The settings a clock output works by (R204): frequency in uHz, phase and delay in ps, LVCMOS. -/
structure ClkCfg where
  freq : Nat := 10000000000000
  phase : Nat := 0
  delay : Nat := 0
  lvcmos : Bool := false
deriving DecidableEq, Repr

/-- A clock output. -/
structure ClkOut where
  cfg : ClkCfg := {}
  changeAt : Option Nat := none
  squelched : Bool := true
  measured : Bool := false
  calOk : Bool := false
  corr : Int := 0
  last : Option Nat := none
deriving DecidableEq, Repr

/-- Outputs, and the IRIG-B frame built for a second: its 100 symbols (0, 1, 2 position identifier). -/
structure OutSt where
  clk : Vector ClkOut 8 := Vector.replicate 8 {}
  pulse : Vector PulseOut 4 := Vector.replicate 4 {}
  irigSquelched : Bool := true
  frame : List Nat := []
deriving DecidableEq, Repr

/-! ## The Lattice (chapter 16) -/

/-- The states of a link (Table 16.6). -/
inductive LinkState where
  | down | pairing | up | ready | split | reject
deriving DecidableEq, Repr

def LinkState.code : LinkState → Nat
  | .down => 0 | .pairing => 1 | .up => 2 | .ready => 3 | .split => 4 | .reject => 5

def LinkState.name : LinkState → String
  | .down => "down" | .pairing => "pairing" | .up => "up" | .ready => "ready" | .split => "split"
  | .reject => "reject"

/-- A root claim (R332); an unset EID is 4,096. -/
structure Claim where
  tql : Nat := 0
  prio : Nat := 128
  eid : Nat := 4096
  node : Nat := 0
deriving DecidableEq, Repr

/-- What the neighbour's latest ANNOUNCE said (Table 16.3). -/
structure LatAnn where
  claim : Claim
  seq : Nat
  hops : Nat
  tql : Nat
  trust : Nat
  locl : Bool
  unc : Nat
deriving DecidableEq, Repr

/-- A registry entry (Table 16.4): NODE_ID, EID and KIND. -/
structure RegEntry where
  node : Nat
  eid : Nat
  kind : Nat
deriving DecidableEq, Repr

/-- One Lattice link. -/
structure LatLink where
  st : LinkState := .down
  /-- A direct lane has block lock; the phase of its transmit block grid (model units). -/
  lock : Bool := false
  phase : Nat := 0
  /-- The neighbour: NODE_ID, LINK, EID, whether its frames have UP set, and when its last HELLO came. -/
  peer : Option Nat := none
  peerLink : Nat := 255
  peerEid : Nat := 4096
  peerUp : Bool := false
  helloAt : Option Nat := none
  /-- Sequence counters per frame type. -/
  seqs : Vector Nat 4 := Vector.replicate 4 0
  /-- Refinement in ps and when its last marker came. -/
  refine : Int := 0
  ann : Option LatAnn := none
  /-- ROOT_SEQ seen on this link: ROOT_NODE, highest value, time of its last advance. -/
  seen : List (Nat × Nat × Nat) := []
  /-- EXCHANGEs sent in the last 100 ms: SEQ, time and validity; the latest received: SEQ, T_TX and receive stamp. -/
  exSent : List (Nat × Nat × Bool) := []
  exRx : Option (Nat × Nat × Nat) := none
  /-- The last 64 accepted d, and the latest theta and d, in ps. -/
  ds : List Int := []
  theta : Int := 0
  d : Int := 0
  /-- The accepted theta of the merge test, latest first; the ROOT_NODE the test has passed for; the last test while
  SPLIT. -/
  merge : List Int := []
  mergeOk : Option Nat := none
  testAt : Option Nat := none
  /-- A tunnel's window of 16 (d, theta), and the last 64 offsets' d. -/
  win : List (Int × Int) := []
  dlv : List Int := []
  /-- The asymmetry estimate: sum in ps and number of exchanges (R342). -/
  estSum : Int := 0
  estN : Nat := 0
  /-- RX_BAD, HELLO_MISS, EXCH_REJ, EXCH_LATE. -/
  cnt : Vector Word 4 := Vector.replicate 4 0
  /-- Third engines heard on a tunnel that have raised `lat.peer`. -/
  third : List Nat := []
  /-- Entries waiting to go down this link. -/
  down : List RegEntry := []
deriving DecidableEq, Repr

/-- A roster entry: EID, holder, whether it is fixed, last refresh. -/
structure RosterEntry where
  eid : Nat
  node : Nat
  fixed : Bool
  at_ : Nat
deriving DecidableEq, Repr

/-- The Lattice. -/
structure LatSt where
  link : Vector LatLink 4 := Vector.replicate 4 {}
  /-- The engine's EID, whether it was assigned, and a change that waits for the next trust tick. -/
  eid : Option Nat := none
  assigned : Bool := false
  eidNext : Option (Option Nat × Bool) := none
  /-- The root adopted, its latest ROOT_SEQ, and the tree: root itself, detached, hops and parent. -/
  root : Claim := {}
  rootSeq : Nat := 0
  isRoot : Bool := false
  detached : Bool := false
  hops : Nat := 0
  parent : Option (Fin 4) := none
  /-- When the root's own ROOT_SEQ last advanced. -/
  seqAt : Option Nat := none
  /-- Entries waiting to go up; the root under which the engine last registered, and when. -/
  up : List RegEntry := []
  regRoot : Option Nat := none
  regAt : Option Nat := none
  roster : List RosterEntry := []
  /-- Frames sent on direct links, latest first: link, instant (launch-timed) or time, payload. -/
  sent : List (Nat × Nat × List Byte) := []
deriving DecidableEq, Repr

/-! ## Deckline segments (chapter 17) -/

/-- A joined member on a coordinator: address, MID, MAX_RATE, superframes with no valid frame, QL of its last frame,
whether a frame of it came in this superframe. -/
structure DkMember where
  addr : Nat
  mid : Nat
  maxRate : Nat
  silent : Nat := 0
  ql : Nat := 0
  heard : Bool := false
deriving DecidableEq, Repr

/-- An address in quarantine: its last MID and the superframes left. -/
structure DkQuarantine where
  addr : Nat
  mid : Nat
  left : Nat
deriving DecidableEq, Repr

/-- One segment. Rates are the codes of Table 17.1; plans are pairs of address and length in 10 us. -/
structure DkSt where
  /-- The role in force: 0 off, 1 coordinator, 2 member. -/
  role : Nat := 0
  rate : Nat := 2
  plan : List (Nat × Nat) := []
  planVer : Nat := 0
  /-- A NEW plan and its COUNT; a change that waits to be announced. -/
  newPlan : Option (List (Nat × Nat) × Nat) := none
  dirty : Bool := false
  /-- The start of the superframe in progress (Axis time, model units), its index in the second, and whether this
  station has sent or received its beacon. -/
  start : Nat := 0
  index : Nat := 0
  beacon : Bool := false
  /-- No superframe starts before this Axis time (after a step). -/
  notBefore : Nat := 0
  /-- The owned slots used in this superframe, and the time used in the present one (ps). -/
  slotIdx : Nat := 0
  slotUsed : Nat := 0
  /-- Coordinator: roster, quarantine, JOIN_ACKs to send (MID, address, result), rate control and duplicates. -/
  roster : List DkMember := []
  quarantine : List DkQuarantine := []
  acks : List (Nat × Nat × Nat) := []
  upreq : Bool := false
  qual : Nat := 0
  /-- 0 none; 1 a downshift to be announced; 2 announced in this superframe's beacon. -/
  down : Nat := 0
  yielded : Bool := false
  foreignSeen : Bool := false
  ownLost : Bool := false
  foreign : Option (Nat × Nat) := none
  foreignRun : Nat := 0
  quietRun : Nat := 0
  /-- One token bucket for each address (R373): address, tokens in 1/1024 and time. -/
  buckets : List (Nat × Nat × Nat) := []
  /-- Member: coordinator, synchronisation, address, runs of beacons received and missing, roll call, JOIN. -/
  cid : Option Nat := none
  synced : Bool := false
  joined : Bool := false
  addr : Nat := 63
  beaconRun : Nat := 0
  missed : Nat := 0
  rollcall : Bool := false
  joinWait : Option Nat := none
  idle : Nat := 0
  ofs : Int := 0
  searching : Bool := false
  searchAt : Nat := 0
  /-- A LEAVE to send and its REASON. -/
  leavePend : Option Nat := none
  /-- Attempts of the frame that contends, and the back-off drawn for the next. -/
  tries : Nat := 0
  backoff : Nat := 0
  /-- Largest echo delay in ns. -/
  loop : Nat := 0
  /-- Rings: offsets, LOG2SIZE, EN and indices; entries refused at enqueue. -/
  txr : Nat := 0
  rxr : Nat := 0
  txLog : Nat := 0
  txEn : Bool := false
  rxLog : Nat := 0
  rxEn : Bool := false
  txProd : Word := 0
  txCons : Word := 0
  txDone : Word := 0
  rxProd : Word := 0
  rxCons : Word := 0
  refused : List Word := []
  cnt : Vector Word 9 := Vector.replicate 9 0
  /-- Frames sent, latest first: instant (Axis time) and bytes from the header to the CRC. -/
  sent : List (Nat × List Byte) := []
deriving DecidableEq, Repr

/-- Deckline: DK0 and DK1. -/
structure DeckSt where
  dk : Vector DkSt 2 := Vector.replicate 2 {}
deriving DecidableEq, Repr

/-! ## Ibex engines (chapter 18) -/

/-- One Herd channel: PC, X, Y, OSR and ISR with their counts, CMP with REACHED, the stamp latch (model units), the FIFOs,
LAST, the delay count, FLAGS and the three configuration words. -/
structure HerdCh where
  pc : Nat := 0
  x : Word := 0
  y : Word := 0
  osr : Word := 0
  osrN : Nat := 0
  isr : Word := 0
  isrN : Nat := 0
  cmp : Word := 0
  reached : Bool := false
  /-- CMP was written since the last turn. -/
  cmpNew : Bool := false
  latch : Nat := 0
  latchBad : Bool := false
  tx : List Word := []
  rx : List Word := []
  last : Word := 0
  delay : Nat := 0
  flags : Word := 0
  cfg0 : Word := 0
  cfg1 : Word := 0
  cfg2 : Word := 0
  /-- The instruction at PC has executed without completing; its shift stands and its POST waits (R387). -/
  stalled : Bool := false
  postPend : Bool := false
  /-- The queued instruction, and whether it has executed without completing. -/
  inj : Option (BitVec 24) := none
  injRun : Bool := false
  halted : Bool := false
deriving DecidableEq, Repr

/-- One Kid lane: configuration, the pair in use, SR, FLAGS and its two FIFOs. -/
structure KidLane where
  cfg0 : Word := 0
  cfg1 : Word := 0
  cfg2 : Word := 0
  pattern : BitVec 64 := 0
  mask : BitVec 64 := 0
  sr : BitVec 64 := 0
  flags : Word := 0
  load : List (BitVec 64 × BitVec 64) := []
  loadPart : List Word := []
  cap : List (List Word) := []
  seq : Nat := 0
  ovf : Bool := false
  stale : Bool := false
  hold : Nat := 0
  /-- The words a read of CAP0 captured. -/
  popped : List Word := [0, 0, 0, 0, 0, 0]
deriving DecidableEq, Repr

/-- The Ibex engines: the store's words that are not 0, by address, rising; channels, lanes and pins. -/
structure IbexSt where
  store : List (Nat × Word) := []
  ch : Vector HerdCh 32 := Vector.replicate 32 {}
  kid : Vector KidLane 8 := Vector.replicate 8 {}
  /-- Output values, output enables, pins mapped, and the levels last sampled at the balls. -/
  pinOut : BitVec 48 := 0
  pinOe : BitVec 48 := 0
  mapped : BitVec 48 := 0
  pinIn : BitVec 48 := 0
deriving DecidableEq, Repr

/-! ## The whole machine -/

/-- The hardware: everything but the queue of commands. -/
structure Hw where
  time : TimeSt := {}
  sys : SysSt := {}
  wave : WaveSt := {}
  note : NoteSt := {}
  mywi : MywiSt := {}
  txn : TxnSt := {}
  sett : SetSt := {}
  ref : RefSt := {}
  steer : SteerSt := {}
  sealU : SealSt := {}
  /-- Store: the bytes that are not 0, by BAR2 offset, rising (it is zero-filled at power-on and cold reset, Table 3.7). -/
  store : List (Nat × Byte) := []
  /-- The Keep SRAM window: words of banks 8 to 15 that are not 0, by BAR0 offset, rising. -/
  keep : List (Nat × Word) := []
  /-- Banks whose contents a BED rest has lost (R64): the first of the free values their words hold; `keep` lists the
  words that differ from them, as the exclusive or. -/
  keepSeed : Vector (Option Nat) 16 := Vector.replicate 16 none
  evt : EvtSt := {}
  port : PortSt := {}
  prong : ProngSt := {}
  pwr : PwrSt := {}
  cal : CalSt := {}
  out : OutSt := {}
  lat : LatSt := {}
  deck : DeckSt := {}
  ibex : IbexSt := {}
  dma : DmaSt := {}
  tally : TallySt := {}
  img : ImgSt := {}
  /-- The model's own counter of free values taken (`Config.freshNat`); not a field of the spec's. -/
  free : Nat := 0
deriving DecidableEq, Repr

/-- The state: the hardware and the commands that wait, first in, first out. -/
structure State where
  hw : Hw := {}
  pending : List Instr := []
deriving DecidableEq, Repr

/-- Why the machine stops. -/
inductive Fault where
  /-- Raised by BAR0 and BAR2 accesses outside the BARs (Table 3.10): no such address exists. Safe: the model stops. -/
  | noSuchAddress
deriving DecidableEq, Repr

/-- Why a command has no meaning here. -/
inductive Refusal where
  /-- Raised by the dispatch for a command that has no meaning yet. Safe. -/
  | notModelled (mnemonic : String)
deriving DecidableEq, Repr

/-- The machine right after a power-on reset: VDD_AON above V_BOR, nothing else up, no command waiting. -/
def State.reset : State := {}

end Sys2Proof.Machine
end

