-- ==== Sys2Proof/Machine/Flags.lean ====
section
/-!
DEFINITION. The event flags of the engine: the W1C source registers of Table 24.1, their masks and routes, the IRQ_N
lines and MSI-X messages they drive (R487 to R490), and the settings in effect that routes are read from (R38).
-/
set_option autoImplicit false

namespace Sys2Proof.Machine

/-! ## Settings in effect (R38) -/

/-- The mode default of Table 2.3 for a running mode (1 Authority, 2 Relay, 3 Voyage). -/
def modeDefault (mode : Nat) (k : Key) : Option SVal :=
  match k.p with
  | .portPMode =>
    if mode = 1 then some (.nat 0)
    else if mode = 2 then some (.nat 2)
    else if mode = 3 then some (.nat (if k.i = 0 then 4 else 8))
    else none
  | .prongGroups => if mode = 3 then some (.nats [0]) else some (.nats [0, 1, 2, 3])
  | .latEnable => some (.nat (if mode = 3 then 0 else 1))
  | .deckDkRole =>
    if mode = 2 then some (.nat 1) else if mode = 3 ∧ k.i = 0 then some (.nat 2) else some (.nat 0)
  | .steerTrackBw => some (.nat (if mode = 1 then 10000 else if mode = 3 then 3000 else 100000))
  | .pwrGrazeEnable => some (.nat (if mode = 3 then 1 else 0))
  | _ => none

/-- The factory default, with the defaults that depend on the instance (Tables 8.7, 10.2, 20.4). -/
def factoryDefault (k : Key) : SVal :=
  match k.p with
  | .refInEnable => .nat (if 6 ≤ k.i ∧ k.i < 14 then 0 else 1)
  | .pwrGrazeStep => if k.i = 0 then .nats [60, 0, 2, 38] else if k.i = 1 then .nats [600, 30, 3000, 8] else .nats []
  | .outOSquelch => .nat (if k.i < 8 then 0 else 2)
  | _ => k.p.row.dflt

/-- The value in effect under R38: Mywi-set, else the active image's last record, else the mode default, else the
factory default. -/
def Hw.eff (h : Hw) (k : Key) : SVal :=
  match assoc k h.sett.mywi with
  | some v => v
  | none =>
    match assoc k h.sett.profile.reverse with
    | some v => v
    | none =>
      match modeDefault h.sys.runMode k with
      | some v => v
      | none => factoryDefault k

/-- A setting in effect as a natural number. -/
def Hw.effN (h : Hw) (p : PathId) (i : Nat := 0) (j : Nat := 0) : Nat :=
  match h.eff ⟨p, i, j⟩ with
  | .nat n => n
  | .int z => z.toNat
  | _ => 0

/-- A setting in effect as an integer. -/
def Hw.effI (h : Hw) (p : PathId) (i : Nat := 0) (j : Nat := 0) : Int :=
  match h.eff ⟨p, i, j⟩ with
  | .nat n => n
  | .int z => z
  | _ => 0

/-- A setting in effect as a truth value. -/
def Hw.effB (h : Hw) (p : PathId) (i : Nat := 0) (j : Nat := 0) : Bool := decide (h.effN p i j ≠ 0)

/-- A setting in effect as a list of numbers. -/
def Hw.effL (h : Hw) (p : PathId) (i : Nat := 0) (j : Nat := 0) : List Nat :=
  match h.eff ⟨p, i, j⟩ with
  | .nats l => l
  | _ => []

/-- A setting in effect as a text. -/
def Hw.effS (h : Hw) (p : PathId) (i : Nat := 0) (j : Nat := 0) : String :=
  match h.eff ⟨p, i, j⟩ with
  | .str s => s
  | _ => ""

/-- Hold a value as Mywi-set (R38). -/
def Hw.setMywi (h : Hw) (k : Key) (v : SVal) : Hw :=
  { h with sett := { h.sett with mywi := reassoc k v h.sett.mywi } }

/-! ## Notice sources -/

/-- The register of source `s`: a summary has its one bit 0 (R487). -/
def Hw.srcWord (h : Hw) (s : Fin 28) : Word :=
  if s = 10 then flag 0 (h.note.calEvt.toList.any (fun w => decide (w ≠ 0)))
  else if s = 21 then flag 0 (h.note.dmaEvt.toList.any (fun w => decide (w ≠ 0)))
  else h.note.evt[s]

/-- NOTE_SRCs_MASK: all ones until boot is done (chapter 24, start-up state). -/
def Hw.srcMask (h : Hw) (s : Fin 28) : Word := if h.sys.done then BitVec.ofNat 32 (h.effN .noteSMask s) else 0xFFFFFFFF

/-- Source `s` is pending: an enabled bit is set (R487). -/
def Hw.srcPending (h : Hw) (s : Fin 28) : Bool := decide (h.srcWord s &&& h.srcMask s ≠ 0)

/-- The IRQ lines of a source's route; none until boot is done. -/
def Hw.srcIrq (h : Hw) (s : Fin 28) : List Nat := if h.sys.done then h.effL .noteSIrq s else []

/-- The MSI-X vector of a source's route, when MSI_EN is 1; none until boot is done. -/
def Hw.srcVector (h : Hw) (s : Fin 28) : Option Nat := if h.sys.done then (match h.effL .noteSMsix s with | [v] => some v | _ => none) else none

/-- IRQ_N[k] is driven low (R488). -/
def Hw.irqLow (h : Hw) (k : Nat) : Bool := (List.finRange 28).any (fun s => h.srcPending s && (h.srcIrq s).contains k)

/-- NOTE_IRQ: the lines driven low. -/
def Hw.noteIrq (h : Hw) : Word := flag 0 (h.irqLow 0) ||| flag 1 (h.irqLow 1) ||| flag 2 (h.irqLow 2) ||| flag 3 (h.irqLow 3)

/-- A vector's own mask bit in the MSI-X table (word 3 of its entry). -/
def Hw.vecMasked (h : Hw) (v : Nat) : Bool := (sparseGet (1 : Word) (4 * v + 3) h.sys.msixTab).getLsbD 0

/-- A vector is held back (R490). -/
def Hw.heldBack (h : Hw) (v : Nat) : Bool :=
  h.vecMasked v || h.sys.msixMask || !h.sys.busMaster || !h.sys.linkUp

/-- Bit `v` of the pending-bit array. -/
def setBit64 (b : BitVec 64) (v : Nat) (x : Bool) : BitVec 64 :=
  if x then b ||| (1#64 <<< v) else b &&& ~~~(1#64 <<< v)

/-- Send a vector's message, or set its pending bit while it is held back; nothing while MSI-X Enable is 0 (R490). -/
def Hw.sendVec (h : Hw) (v : Nat) : Hw :=
  if !h.sys.msixEn then h
  else if h.heldBack v then { h with note := { h.note with pba := setBit64 h.note.pba v true } }
  else { h with note := { h.note with msiSent := v :: h.note.msiSent } }

/-- Some source routed to vector `v` is pending (vector 63: the mailbox, R160). -/
def Hw.vecWanted (h : Hw) (v : Nat) : Bool :=
  if v = 63 then h.mywi.mbxIrqEn && decide (h.mywi.mbxEvt &&& 3 ≠ 0)
  else (List.finRange 28).any (fun s => h.srcPending s && decide (h.srcVector s = some v))

/-- R490: a pending bit whose sources all stopped pending is cleared; one whose vector is no longer held back is
cleared and its message is sent. -/
def Hw.settleVec (h : Hw) (v : Nat) : Hw :=
  if !h.note.pba.getLsbD v then h
  else if !h.vecWanted v then { h with note := { h.note with pba := setBit64 h.note.pba v false } }
  else if h.heldBack v || !h.sys.msixEn then h
  else { h with note := { h.note with pba := setBit64 h.note.pba v false, msiSent := v :: h.note.msiSent } }

/-- `settleVec` over all 64 vectors. -/
def Hw.settleVecs (h : Hw) : Hw := (List.range 64).foldl (fun h v => h.settleVec v) h

/-- Send the vector of source `s` if it is pending and routed. -/
def Hw.sendSrc (h : Hw) (s : Fin 28) : Hw :=
  match h.srcVector s with
  | some v => if h.srcPending s then h.sendVec v else h
  | none => h

/-- Store a source register's new value; the source sends its vector when it becomes pending (R488). -/
def Hw.putEvt (h : Hw) (s : Fin 28) (w : Word) : Hw :=
  let h' := { h with note := { h.note with evt := h.note.evt.set s w } }
  if h.srcPending s then h' else h'.sendSrc s

/-- The engine sets bit `b` of source register `s`. -/
def Hw.setEvt (h : Hw) (s : Fin 28) (b : Nat) : Hw := h.putEvt s (h.note.evt[s] ||| fld b 1)

/-- Set a bit of CAL_CHn_EVT; source 10 sends when it becomes pending. -/
def Hw.setCalEvt (h : Hw) (n : Fin 40) (b : Nat) : Hw :=
  let h' := { h with note := { h.note with calEvt := h.note.calEvt.set n (h.note.calEvt[n] ||| fld b 1) } }
  if h.srcPending 10 then h' else h'.sendSrc 10

/-- Set a bit of DMA_CHn_EVT; source 21 sends when it becomes pending. -/
def Hw.setDmaEvt (h : Hw) (n : Fin 16) (b : Nat) : Hw :=
  let h' := { h with note := { h.note with dmaEvt := h.note.dmaEvt.set n (h.note.dmaEvt[n] ||| fld b 1) } }
  if h.srcPending 21 then h' else h'.sendSrc 21

/-- A host write of ones to a W1C source register: the bits clear and the source is evaluated anew; still pending, it
sends its message again (R489). -/
def Hw.w1cEvt (h : Hw) (s : Fin 28) (w : Word) : Hw :=
  let h' := { h with note := { h.note with evt := h.note.evt.set s (h.note.evt[s] &&& ~~~w) } }
  (h'.sendSrc s).settleVecs

/-- After a write to a mask, a route or a summarised register: the source is evaluated anew (R489). -/
def Hw.reEval (h : Hw) (s : Fin 28) : Hw := (h.sendSrc s).settleVecs

end Sys2Proof.Machine
end

