-- ==== Sys2Proof/Machine/Ops.lean ====
section
/-!
DEFINITION. The operations every block shares: free values, Axis time and its formats, notices and their delivery to
sessions (R144 to R146, R491), fault latches (R492), Store and the Keep window, and the journal (R315 to R324).
-/
set_option autoImplicit false

namespace Sys2Proof.Machine

/-! ## Free values -/

/-- The next free value and the machine with the counter advanced. -/
def Hw.fresh (h : Hw) : Nat × Hw := (Config.freshNat h.free, { h with free := h.free + 1 })

/-! ## Time -/

/-- AXIS_SEC, 48 bits. -/
def Hw.sec (h : Hw) : Nat := h.time.axis / auPerSec % 281474976710656
/-- AXIS_NS (R11: 0 to 999,999,999). -/
def Hw.ns (h : Hw) : Nat := h.time.axis % auPerSec / auPerNs
/-- AXIS_FRAC: whole units of 2^-16 ns. -/
def Hw.frac (h : Hw) : Nat := h.time.axis % auPerNs / auPerFrac

/-- The seconds, nanoseconds and fraction of a time in model units. -/
def secOf (t : Nat) : Nat := t / auPerSec % 281474976710656
def nsOf (t : Nat) : Nat := t % auPerSec / auPerNs
def fracOf (t : Nat) : Nat := t % auPerNs / auPerFrac

/-- A time in model units from whole picoseconds. -/
def psAu (ps : Nat) : Nat := ps * auPerPs

/-- Whether `ps` picoseconds have passed since `t` (both by the running clock that steps do not move). -/
def Hw.passed (h : Hw) (t ps : Nat) : Bool := decide (t + psAu ps ≤ h.time.up)

/-- `ps` have passed since an optional start. -/
def Hw.passedO (h : Hw) (t : Option Nat) (ps : Nat) : Bool :=
  match t with
  | some t => h.passed t ps
  | none => false

/-- ACTIVE_TQL: the effective TQL of the selected input, 0 when none. -/
def Hw.activeTql (h : Hw) : Nat :=
  match h.ref.sel with
  | some i => (h.ref.ins[i]).tql
  | none => 0

/-- R27 permits signing at this tick. -/
def Hw.signOk (h : Hw) : Bool :=
  (h.time.trust = .locked || h.time.trust = .holdover) && decide (h.time.unc ≤ h.time.signLimit * 1000)

/-- The sample a consumer takes now, `sub` model units after the latest trust tick (R13). -/
def Hw.sampleAt (h : Hw) (sub : Nat) : Sample :=
  { axis := h.time.axis + sub, unc := h.time.unc, trust := h.time.trust, signOk := h.signOk, tql := h.activeTql,
    mode := h.sys.runMode }

/-- The sample of this tick boundary. -/
def Hw.sample (h : Hw) : Sample := h.sampleAt 0

/-- R28: AXIS_UNC rounded up to whole nanoseconds, plus 1 ns for the truncation. -/
def tokenUnc (ps : Nat) : Nat := ceilDiv ps 1000 + 1

/-! ## Text -/

/-- A number in decimal, padded with zeros on the left to `w` digits. -/
def decPad (w n : Nat) : String := let s := toString n; String.ofList (List.replicate (w - s.length) '0') ++ s

/-- One hexadecimal digit. -/
def hexDigit (n : Nat) : Char := if n < 10 then Char.ofNat (48 + n) else Char.ofNat (87 + n)

/-- `w` hexadecimal digits of a number, most significant first. -/
def hexPad : Nat → Nat → String
  | 0, _ => ""
  | w + 1, n => hexPad w (n / 16) ++ String.ofList [hexDigit (n % 16)]

/-- Drop trailing zeros of a digit string. -/
def trimZeros (s : String) : String := String.ofList (s.toList.reverse.dropWhile (· = '0')).reverse

/-- `n / 10^d` in decimal with the fewest fraction digits that give it exactly (R472). -/
def fixedDec (d n : Nat) : String :=
  let f := trimZeros (decPad d (n % 10 ^ d))
  if f = "" then toString (n / 10 ^ d) else toString (n / 10 ^ d) ++ "." ++ f

/-- The same with a sign. -/
def fixedDecI (d : Nat) (z : Int) : String := if z < 0 then "-" ++ fixedDec d z.natAbs else fixedDec d z.natAbs

/-- The time units by code: 0 ps, 1 ns, 2 us, 3 ms, 4 s. -/
def timeUnit : Nat → String
  | 0 => "ps" | 1 => "ns" | 2 => "us" | 3 => "ms" | _ => "s"

/-- A time in ps shown in a unit. -/
def showPs (unit : Nat) (ps : Int) : String := fixedDecI (3 * unit) ps ++ timeUnit unit

/-- A time of day shown as TAI seconds with nine digits of nanoseconds (Table 7.2). -/
def showAxis (t : Nat) : String := toString (secOf t) ++ "." ++ decPad 9 (nsOf t)

/-- A truth value as Mywi shows a bit. -/
def show01 (b : Bool) : String := if b then "1" else "0"

/-- A list joined by commas, `none` when empty (R472). -/
def showList (l : List String) : String := if l.isEmpty then "none" else String.intercalate "," l

/-- The names of the transports (Table 7.1). -/
def transportName (s : Nat) : String :=
  if s = 0 then "con0" else if s = 1 then "hspi" else if s = 2 then "mailbox" else "mgmt"

/-! ## Notices -/

/-- The console line of a notice (the notice production of the grammar). -/
def Notice.line (n : Notice) : String :=
  n.args.foldl (fun s a => s ++ " " ++ a.1 ++ "=" ++ a.2) ("!" ++ n.stem)

/-- Queue a line on a session: at 256 the oldest is discarded and counted (R145). -/
def Session.enqueue (s : Session) (l : String) : Session :=
  if s.queue.length < 256 then { s with queue := s.queue ++ [l] }
  else { s with queue := s.queue.drop 1 ++ [l], lost := s.lost + 1 }

/-- A session that holds a role receives notices (R146). -/
def Session.hears (s : Session) : Bool := s.openS && decide (s.role ≠ 0)

/-- Offer a notice to every session that holds a role (R491). -/
def Hw.deliver (h : Hw) (n : Notice) : Hw :=
  { h with mywi := { h.mywi with sess := h.mywi.sess.map (fun s => if s.hears then s.enqueue n.line else s) } }

/-- Some session holds a role. -/
def Hw.someRole (h : Hw) : Bool := h.mywi.sess.toList.any (fun s => s.hears)

/-- Raise a notice that a register bit records (R491). -/
def Hw.notice (h : Hw) (s : Fin 28) (b : Nat) (stem : String) (args : List (String × String)) : Hw :=
  (h.setEvt s b).deliver { stem := stem, args := args }

/-- Raise a console-only notice: with no role held it is lost and counted (R491). -/
def Hw.say (h : Hw) (stem : String) (args : List (String × String)) : Hw :=
  if h.someRole then h.deliver { stem := stem, args := args }
  else { h with note := { h.note with consoleOnly := incSat h.note.consoleOnly } }

/-- Raise a latched notice whose line is also queued for new sessions while no session holds a role (R146). -/
def Hw.noticeKeep (h : Hw) (s : Fin 28) (b : Nat) (stem : String) (args : List (String × String)) : Hw :=
  if h.someRole then h.notice s b stem args
  else
    let h := h.setEvt s b
    { h with note := { h.note with forNew := h.note.forNew ++ [{ stem := stem, args := args }] } }

/-! ## Tally counters (R444 to R448) -/

/-- A counter, or the chained pair it begins, gains `w`; one that passes its end keeps the low bits of the sum and sets its
WRAP bit (R447). -/
def TallyUnit.bump (x : TallyUnit) (k : Fin 8) (w : Nat) : TallyUnit :=
  let p : Fin 4 := ⟨k.val / 2, by omega⟩
  if x.chain[p] then
    let lo : Fin 8 := ⟨2 * p.val, by omega⟩
    let hi : Fin 8 := ⟨2 * p.val + 1, by omega⟩
    let v := x.c[lo] + 4294967296 * x.c[hi] + w
    { x with
      c := (x.c.set lo (v % 4294967296)).set hi (v / 4294967296 % 4294967296)
      wrap := if 18446744073709551616 ≤ v then x.wrap ||| (1#8 <<< hi.val) else x.wrap }
  else
    let v := x.c[k] + w
    { x with
      c := x.c.set k (v % 4294967296)
      wrap := if 4294967296 ≤ v then x.wrap ||| (1#8 <<< k.val) else x.wrap }

/-- Counter `k` counts the event `code`: it has selected it, and it is not the high word of a chained pair. -/
def TallyUnit.counts (x : TallyUnit) (k : Fin 8) (code : Nat) : Bool :=
  decide (x.sel[k] = code) && !(x.chain[(⟨k.val / 2, by omega⟩ : Fin 4)] && decide (k.val % 2 = 1))

/-- Every counter that selects `code` gains `w` (R445). -/
def TallyUnit.add (x : TallyUnit) (code w : Nat) : TallyUnit :=
  (List.finRange 8).foldl (fun (x : TallyUnit) (k : Fin 8) => if x.counts k code then x.bump k w else x) x

/-- Store a unit; `tally.wrap` when its WRAP bits change from 0 (R448). -/
def Hw.putUnit (h : Hw) (u : Fin 18) (y : TallyUnit) : Hw :=
  let was := (h.tally.u[u]).wrap
  let h := { h with tally := { h.tally with u := h.tally.u.set u y } }
  if was = 0 ∧ y.wrap ≠ 0 then
    h.notice 25 3 "tally.wrap" [("unit", unitNames.getD u ""), ("bits", "0x" ++ hexPad 2 y.wrap.toNat)]
  else h

/-- Event `code` of unit `u` occurs with weight `w` (R445). -/
def Hw.tcount (h : Hw) (u : Fin 18) (code : Nat) (w : Nat := 1) : Hw :=
  let x := h.tally.u[u]
  if code = 0 ∨ !x.run ∨ !(List.finRange 8).any (fun k => x.counts k code) then h else h.putUnit u (x.add code w)

/-- The units of a port, a pipeline group and a segment (Table 21.1). -/
def portUnit (p : Fin 4) : Fin 18 := ⟨1 + p.val, by omega⟩
def grpUnit (g : Fin 4) : Fin 18 := ⟨5 + g.val, by omega⟩
def dkUnit (n : Fin 2) : Fin 18 := ⟨11 + n.val, by omega⟩

/-! ## Faults -/

/-- The name of a fault (Table 24.2). -/
def faultName (i : Nat) : String :=
  (["WAVE_SLIP", "WAVE_CAL", "OSC_ABSENT", "STEER_RANGE", "OSC_LOST", "OUT_CAL", "CAL_DLL", "CAL_CD", "STORE_UCE",
    "IBEX_HALT", "SLOT_BAD", "PROFILE_NONE", "QSPI_NONE", "QSPI_WRITE", "RAIL_FAIL", "DOMAIN_PG", "BUS_STUCK",
    "SCL_LOW", "RAIL_UNMAPPED", "PMB_ACK", "JRN_LOST", "JRN_UCE", "LAT_EID_DUP", "DECK_COORD_DUP"][i]?).getD ""

/-- The Src column of Table 24.2 (F520's segment is given by its raiser). -/
def faultSrc (i : Nat) : String :=
  (["wave", "wave", "fault", "steer", "steer", "out", "cal", "cal", "bus", "ibex", "boot", "boot", "boot", "img",
    "supply", "pwr", "pwr", "pwr", "boot", "pwr", "seal", "seal", "lat", "dk0"][i]?).getD ""

/-- The F-code of a fault. -/
def faultCode (i : Nat) : String :=
  (["F120", "F121", "F130", "F131", "F132", "F141", "F142", "F143", "F150", "F160", "F201", "F202", "F203", "F204",
    "F302", "F304", "F311", "F312", "F313", "F314", "F401", "F402", "F510", "F520"][i]?).getD ""

/-- The kind of a fault: E event, S persisting state, L latch-gated (Table 24.2). -/
def faultKind (i : Nat) : String :=
  if i = 16 ∨ i = 17 ∨ i = 19 then "L"
  else if i = 1 ∨ i = 2 ∨ i = 3 ∨ i = 4 ∨ i = 5 ∨ i = 6 ∨ i = 18 ∨ i = 23 then "S"
  else "E"

/-- NOTE_FAULT. -/
def Hw.noteFault (h : Hw) : Word := h.note.evt[(27 : Fin 28)]

/-- Fault `i` is latched. -/
def Hw.latched (h : Hw) (i : Nat) : Bool := h.noteFault.getLsbD i

/-- Latch a fault, naming the source it came from (R492): the first latch keeps the time and raises `fault.latch`; a
further occurrence only counts. -/
def Hw.faultFrom (h : Hw) (i : Fin 24) (src : String) : Hw :=
  let h1 := { h with note := { h.note with faultCnt := h.note.faultCnt.set i (incSat h.note.faultCnt[i]) } }
  if h.latched i then h1
  else
    let h2 := { h1 with note := { h1.note with faultAt := h1.note.faultAt.set i h.time.axis, last := some i.val } }
    h2.notice 27 i "fault.latch" [("code", faultCode i), ("name", faultName i), ("src", src)]

/-- Latch a fault whose source is the catalogue's. -/
def Hw.fault (h : Hw) (i : Fin 24) : Hw := h.faultFrom i (faultSrc i)

/-! ## Store and the Keep window -/

/-- The size of Store, 8 GiB. -/
def storeSize : Nat := 8589934592
/-- The journal region of Table 3.4. -/
def journalBase : Nat := 0x80000000
def journalEnd : Nat := 0x180000000

/-- Read one byte of Store. -/
def Hw.peek (h : Hw) (a : Nat) : Byte := sparseGet 0 a h.store

/-- Read `n` bytes of Store from `a`. -/
def Hw.peekN (h : Hw) (a n : Nat) : List Byte := (List.range n).map (fun k => h.peek (a + k))

/-- Write bytes to a sparse byte list. -/
def pokeList (m : List (Nat × Byte)) (a : Nat) : List Byte → List (Nat × Byte)
  | [] => m
  | b :: r => pokeList (sparseSet 0 a b m) (a + 1) r

/-- Write bytes to Store. -/
def Hw.poke (h : Hw) (a : Nat) (l : List Byte) : Hw := { h with store := pokeList h.store a l }

/-- The canonical form of Store: addresses rising and no zero byte listed. -/
def Memory.wf (h : Hw) : Bool := sparseWf (0 : Byte) h.store

/-- A number as `n` bytes, most significant first (network order). -/
def beBytes : Nat → Nat → List Byte
  | 0, _ => []
  | n + 1, v => beBytes n (v / 256) ++ [BitVec.ofNat 8 v]

/-- A number as `n` bytes, least significant first. -/
def leBytes : Nat → Nat → List Byte
  | 0, _ => []
  | n + 1, v => BitVec.ofNat 8 v :: leBytes n (v / 256)

/-- The number a big-endian byte string spells. -/
def beNat (l : List Byte) : Nat := l.foldl (fun a b => a * 256 + b.toNat) 0

/-- The number a little-endian byte string spells. -/
def leNat : List Byte → Nat
  | [] => 0
  | b :: r => b.toNat + 256 * leNat r

/-- A byte string cut or zero-padded to `n` bytes. -/
def padTo (n : Nat) (l : List Byte) : List Byte := (l ++ List.replicate (n - l.length) 0).take n

/-- The bytes of an ASCII text. -/
def asciiBytes (s : String) : List Byte := s.toList.map (fun c => BitVec.ofNat 8 c.toNat)

/-! ## Identity (R312, R327) -/

/-- The identity public key, encoded as 0x04, X, Y. -/
def identityKey : List Byte := padTo 65 (0x04 :: (Config.publicKey 0 (Config.otpNat "identity")))

/-- The identity fingerprint. -/
def identityFp : BitVec 256 := Config.sha256 identityKey

/-- NODE_ID: the first 8 bytes of the fingerprint. -/
def nodeId : Nat := identityFp.toNat / 2 ^ 192

/-- A signing key's public key as R309 encodes it: 65 bytes for ES256, 32 for Ed25519. -/
def pubKey (alg key : Nat) : List Byte :=
  if alg = 0 then padTo 65 (0x04 :: Config.publicKey 0 key) else padTo 32 (Config.publicKey 1 key)

/-- kid: the first 8 bytes of the SHA-256 of the public key, as a number. -/
def keyKid (alg key : Nat) : Nat := (Config.sha256 (pubKey alg key)).toNat / 2 ^ 192

/-! ## The journal -/

/-- Journal slots (Table 3.4). -/
def journalSlots : Nat := 16777216
/-- The slots reserved for system records (R322). -/
def journalReserve : Nat := 65536

/-- Free slots under the policy in force (R322). -/
def Hw.freeSlots (h : Hw) : Nat :=
  let low := if h.effN .journalFull = 1 then h.sealU.ack else h.sealU.rel
  journalSlots - (h.sealU.next - low)

/-- NEXT - ACK (R320). -/
def Hw.jrnLevel (h : Hw) : Nat := h.sealU.next - h.sealU.ack

/-- R321: latch MARK on the upward crossing; re-arm below mark minus hysteresis once the latch is cleared. -/
def Hw.jrnMark (h : Hw) : Hw :=
  let mark := h.effN .journalMark
  let latched := (h.note.evt[(16 : Fin 28)]).getLsbD 1
  let armed := h.sealU.markArmed || (!latched && decide (h.jrnLevel + h.effN .journalHyst < mark))
  if armed && decide (mark ≤ h.jrnLevel) then
    let h := { h with sealU := { h.sealU with markArmed := false } }
    h.notice 16 1 "journal.mark" [("level", toString h.jrnLevel)]
  else { h with sealU := { h.sealU with markArmed := armed } }

/-- R322: latch FULL once per episode when free slots fall to the reserve. -/
def Hw.jrnFull (h : Hw) : Hw :=
  if h.freeSlots ≤ journalReserve then
    if h.sealU.fullEpisode then h
    else
      let h := { h with sealU := { h.sealU with fullEpisode := true } }
      h.notice 16 2 "journal.full" [("free", toString h.freeSlots)]
  else { h with sealU := { h.sealU with fullEpisode := false } }

/-- A journal record of Table 15.7 but its PREV and HASH: header, sample, 96-byte body and signature. -/
def recordHead (seq type : Nat) (s : Sample) (frac : Nat) : List Byte :=
  beBytes 8 seq ++ beBytes 1 type ++ beBytes 1 s.trust.code ++ beBytes 1 s.tql ++ beBytes 1 s.mode ++
  beBytes 6 (secOf s.axis) ++ beBytes 4 (nsOf s.axis) ++ beBytes 2 frac ++ beBytes 4 (min max32 (tokenUnc s.unc)) ++
  beBytes 4 0

/-- Bytes 0x00 to 0x9F of a record. -/
def recordBody (head : List Byte) (prev : BitVec 256) (body : List Byte) : List Byte :=
  head ++ beBytes 32 prev.toNat ++ padTo 96 body

/-- Write record `seq` to Store and move the head (R315, R316). -/
def Hw.writeRecord (h : Hw) (seq : Nat) (head body sig : List Byte) : Hw :=
  let b := recordBody head h.sealU.head body
  let hash := Config.sha256 b
  let h := h.poke (journalBase + 256 * (seq % journalSlots)) (b ++ padTo 64 sig ++ beBytes 32 hash.toNat)
  ({ h with sealU := { h.sealU with head := hash } }.tcount 9 6).tcount 16 2 4

/-- The SEQ a new record takes, with the crossing tests of R321 and R322. -/
def Hw.takeSeq (h : Hw) : Hw :=
  ({ h with sealU := { h.sealU with next := h.sealU.next + 1 } }).jrnMark.jrnFull

/-- Append one system record: it takes the next SEQ and is written at once, or after the tokens that still wait for
their signatures (R299). -/
def Hw.appendNow (h : Hw) (type : Nat) (body : List Byte) : Hw :=
  let seq := h.sealU.next
  let head := recordHead seq type h.sample h.frac
  let h' :=
    if h.sealU.pool.isEmpty then h.writeRecord seq head body []
    else { h with sealU := { h.sealU with pool := h.sealU.pool ++ [.sys seq head body] } }
  h'.takeSeq

/-- R323: the first append after lost records is a LOST record. -/
def Hw.appendLost (h : Hw) : Hw :=
  if h.sealU.lostPend = 0 then h
  else
    let h' := h.appendNow 0x1C (beBytes 4 h.sealU.lostPend ++ beBytes 1 h.sealU.lostType)
    { h' with sealU := { h'.sealU with lostPend := 0 } }

/-- A system record raised by the engine (R318): appended, or counted as lost with F401 when no slot is free (R323). -/
def Hw.journal (h : Hw) (type : Nat) (body : List Byte) : Hw :=
  if h.freeSlots = 0 then
    let n := h.sealU.lostPend
    let h := { h with sealU := { h.sealU with
      lostPend := n + 1, lostType := (if n = 0 then type else h.sealU.lostType),
      lostCnt := incSat h.sealU.lostCnt } }
    (h.notice 16 4 "journal.lost" [("count", toString (n + 1))]).fault 20
  else h.appendLost.appendNow type body

/-! ## Domains and islands -/

/-- The domain is up and released (PWR_DOMAINS). -/
def Hw.domUp (h : Hw) (d : Domain) : Bool := decide (h.pwr.dom[d.idx] = .up)

/-- The domain of an island (Table 3.1). -/
def islandDomain (n : Nat) : Domain :=
  if n = 0 then .ref else if n = 1 then .aon else if n = 2 then .keep else if n < 11 then .port
  else if n < 27 then .pipe else if n = 27 then .seal else if n < 32 then .lat else if n < 34 then .deck
  else if n < 36 then .ibex else if n < 42 then .ref else if n < 44 then .keep else if n < 46 then .store else .keep

/-- A stamp taken in island `n` is valid (R53, R55, R57). Island 0 is the source; island 1 has no wavefront. -/
def Hw.islandOk (h : Hw) (n : Fin 48) : Bool :=
  let i := h.wave.isl[n]
  if n = 0 then h.time.clockOn
  else if n = 1 then false
  else h.time.clockOn && h.domUp (islandDomain n) && i.anchored && i.measured && !i.outside && !i.slipped

/-- A sample taken in an island (R13, R54). -/
def Hw.sampleIn (h : Hw) (n : Fin 48) (sub : Nat) : Sample := { h.sampleAt sub with bad := !h.islandOk n }

/-- Raise a notice in `count` form at most: a notice with no keys. -/
def Hw.note0 (h : Hw) (s : Fin 28) (b : Nat) (stem : String) : Hw := h.notice s b stem []

/-- Message out through a logical port (latest first). -/
def Hw.send (h : Hw) (lp : Nat) (t : Nat) (m : Msg) : Hw := 
  { h with port := { h.port with sent := (lp, t, m) :: h.port.sent } }.tcount (portUnit (Fin.ofNat 4 (lp / 4))) 3

/-- Change one Lattice link. -/
def Hw.updLink (h : Hw) (n : Fin 4) (f : LatLink → LatLink) : Hw :=
  { h with lat := { h.lat with link := h.lat.link.set n (f h.lat.link[n]) } }

/-- Count one event of LAT_Ln_CNTk: 0 RX_BAD, 1 HELLO_MISS, 2 EXCH_REJ, 3 EXCH_LATE. -/
def Hw.latCount (h : Hw) (n : Nat) (k : Fin 4) : Hw :=
  if hn : n < 4 then
    (h.updLink ⟨n, hn⟩ (fun l => { l with cnt := l.cnt.set k (incSat l.cnt[k]) })).tcount 10
      (if k = 0 then 7 else if k = 2 then 5 else if k = 3 then 6 else 0)
  else h

/-! ## Event sources and inputs -/

/-- Raise an event source of Table 19.4; EVENT_ARRIVAL routes it (R418, R420). -/
def Hw.raiseEvent (h : Hw) (n : Nat) : Hw := { h with evt := { h.evt with raised := h.evt.raised ++ [n] } }

/-- Change one reference input. -/
def Hw.updRef (h : Hw) (i : Fin 20) (f : RefIn → RefIn) : Hw :=
  { h with ref := { h.ref with ins := h.ref.ins.set i (f h.ref.ins[i]) } }

/-- Change one session. -/
def Hw.updSes (h : Hw) (i : Fin 11) (f : Session → Session) : Hw :=
  { h with mywi := { h.mywi with sess := h.mywi.sess.set i (f h.mywi.sess[i]) } }

/-- The next state of a command that always completes: `f` is its effect on the hardware; the queue is untouched. -/
def State.on (s : State) (f : Hw → Hw) : Host.Outcome State Fault Refusal := .next { s with hw := f s.hw }

/-- A command's effect under the condition that makes its event arise; otherwise nothing changes. -/
def Hw.when (h : Hw) (c : Bool) (f : Hw → Hw) : Hw := if c then f h else h

end Sys2Proof.Machine
end

