-- ==== Sys2Proof/Machine/Islands.lean ====
section
/-!
DEFINITION. The wavefront and Store as the host reaches it (chapter 3): the wrap check and the echo calibration of each
island, BAR2 reads and writes with ECC, and the record of an isolated access (R52 to R65).
-/
set_option autoImplicit false

namespace Sys2Proof.Machine

/-! ## The wavefront -/

/-- Change one island. -/
def Hw.updIsl (h : Hw) (n : Fin 48) (f : Island → Island) : Hw :=
  { h with wave := { h.wave with isl := h.wave.isl.set n (f h.wave.isl[n]) } }

/-- An island that receives the wavefront: not the source, not AON (Table 3.1). -/
def receives (n : Nat) : Bool := decide (2 ≤ n)

/-- WAVE_SLIP (R53): `wave.slip`, and F120 at the third consecutive inconsistent anchor. -/
def Hw.waveSlip (h : Hw) (n : Fin 48) : Hw :=
  let run := (h.wave.isl[n]).badRun + 1
  let h := h.updIsl n (fun i => { i with slipped := true, badRun := run })
  let h := { h with wave := { h.wave with lastSlip := n } }
  let h := h.notice 5 0 "wave.slip" [("island", (islandNames[n.val]?).getD ""), ("run", toString run)]
  let h := h.tcount 0 5
  if run = 3 then h.fault 0 else h

/-- WAVEFRONT_WRAP (R53, R55): the island switches to the new anchor, which differs from its own extrapolation by
`diff` ps, and a waiting move of D takes effect. An island whose domain is not up takes none. -/
def execWavefrontWrap (n : Fin 48) (diff : Int) (s : State) : Host.Outcome State Fault Refusal :=
  s.on (fun h => h.when (receives n && h.time.clockOn && h.domUp (islandDomain n)) (fun h =>
    let h := h.updIsl n (fun i => { i with d := i.d + i.move, move := 0 })
    if (h.wave.isl[n]).anchored ∧ 800 < diff.natAbs then h.waveSlip n
    else h.updIsl n (fun i => { i with anchored := true, slipped := false, badRun := 0 })))

/-- ECHO_CALIBRATION (R55): the measured delay in ps, to a resolution of 50 ps, moves D by at most one step at the next
wrap; the first measurement since the domain powered up sets it. Outside 0 to 20,000 ps: F121. -/
def execEchoCalibration (n : Fin 48) (meas : Int) (s : State) : Host.Outcome State Fault Refusal :=
  s.on (fun h => h.when (receives n && h.time.clockOn && h.domUp (islandDomain n)) (fun h =>
    let i := h.wave.isl[n]
    let m := meas / 50 * 50
    if meas < 0 ∨ 20000 < meas then
      ((h.updIsl n (fun i => { i with outside := true })).setEvt 5 1).fault 1
    else if !i.measured then h.updIsl n (fun i => { i with measured := true, outside := false, d := m, move := 0 })
    else
      let mv : Int := if i.d < m then 50 else if m < i.d then -50 else 0
      h.updIsl n (fun i => { i with outside := false, move := mv })))

/-! ## Isolated accesses (R65) -/

/-- Record an access to an isolated block: `word` is BUS_ISO_ADDR; `bus.isolated` once per block and period. -/
def Hw.isolatedAccess (h : Hw) (block : Nat) (word : Word) : Hw :=
  let h := { h with sys := { h.sys with isoAddr := word } }
  if h.sys.isoRaised.contains block then h.setEvt 24 1
  else
    let h := { h with sys := { h.sys with isoRaised := block :: h.sys.isoRaised } }
    h.notice 24 1 "bus.isolated" [("addr", "0x" ++ hexPad 8 word.toNat)]

/-- A block by its first megabyte of Table 3.6: PRONG and the Keep window hold two. -/
def blockNo (off : Nat) : Nat :=
  let m := off / 0x100000
  if m = 9 then 8 else if m = 33 then 32 else m

/-- An access to an isolated BAR0 block at a byte offset. -/
def Hw.isoRecord (h : Hw) (off : Nat) : Hw := h.isolatedAccess (blockNo off) (BitVec.ofNat 32 off)

/-- A register write out of range leaves the register and raises `reg.range`. -/
def Hw.regRange (h : Hw) (off : Nat) : Hw := h.say "reg.range" [("off", "0x" ++ hexPad 8 off)]

/-- The words a host read returns. -/
def Hw.ret (h : Hw) (l : List Word) : Hw := { h with sys := { h.sys with rdata := l, poisoned := false } }

/-- A read request of the host to a BAR0 register; in D3hot it is an unsupported request and returns no data (R66). -/
def State.onRead (s : State) (f : Hw → Hw) : Host.Outcome State Fault Refusal :=
  s.on (fun h => if h.sys.d3hot then h.ret [] else f (h.tcount 17 1))

/-- A write request of the host to a BAR0 register; in D3hot it has no effect (R66). -/
def State.onWrite (s : State) (f : Hw → Hw) : Host.Outcome State Fault Refusal :=
  s.on (fun h => if h.sys.d3hot then h else f (h.tcount 17 2))

/-- The word a read of the lowest word captured for a higher word at `off`; none since the last reset (R7). -/
def Hw.shadowGet (h : Hw) (off : Nat) : Option Word := assoc off h.sys.shadow

/-- The word staged for `off`, or the word of the value in effect (R8). -/
def Hw.stageGet (h : Hw) (off : Nat) (cur : Word) : Word := (assoc off h.sys.staged).getD cur

/-- Stage a lower word of a wide value (R8). -/
def Hw.stagePut (h : Hw) (off : Nat) (v : Word) : Hw :=
  { h with sys := { h.sys with staged := reassoc off v h.sys.staged } }

/-- The offsets of a range of registers. -/
def inRegs (lo n off : Nat) : Bool := decide (lo ≤ off ∧ off < lo + n)

/-- The highest word of a wide value has been written: its lower words are no longer staged. -/
def Hw.stageDrop (h : Hw) (lo n : Nat) : Hw :=
  { h with sys := { h.sys with staged := h.sys.staged.filter (fun e => !inRegs lo n e.1) } }

/-- Registers are reset: their shadows and staging registers hold the reset values (R7, R8). -/
def Hw.regsFresh (h : Hw) (p : Nat → Bool) : Hw :=
  { h with sys := { h.sys with
      shadow := h.sys.shadow.filter (fun e => !p e.1), staged := h.sys.staged.filter (fun e => !p e.1) } }

/-- The domain of a BAR0 block (Table 3.6); none for a reserved range. The Keep window, the MSI-X table and its
pending bits are in KEEP. -/
def bar0Domain (off : Nat) : Option Domain :=
  if off < 0x100000 then some .keep
  else if off < 0x600000 then some .ref
  else if off < 0x700000 then some .port
  else if off < 0x800000 then none
  else if off < 0xA00000 then some .pipe
  else if off < 0xB00000 then some .seal
  else if off < 0xC00000 then some .lat
  else if off < 0xD00000 then some .deck
  else if off < 0xE00000 then some .ibex
  else if off < 0xF00000 then some .keep
  else if off < 0xF80000 then some .aon
  else if off < 0x1300000 then some .keep
  else if 0x2000000 ≤ off ∧ off < 0x2200000 then some .keep
  else if 0x3000000 ≤ off ∧ off < 0x3000400 then some .keep
  else if 0x3001000 ≤ off ∧ off < 0x3001008 then some .keep
  else none

/-- The block of a BAR0 offset is isolated, powered down or powering up (R65). -/
def Hw.bar0Isolated (h : Hw) (off : Nat) : Bool :=
  match bar0Domain off with
  | some d => !h.domUp d
  | none => false

/-! ## Store and its ECC (R62) -/

/-- Errors that have come about in Store since the last access: 64-bit words by BAR2 offset, uncorrectable or not. -/
def Hw.takeErrors (h : Hw) (errs : List (Nat × Bool)) : Hw :=
  errs.foldl (fun (h : Hw) e =>
    let w := e.1 / 8 * 8
    if e.2 || h.sys.ceWords.contains w then
      { h with sys := { h.sys with uceWords := w :: h.sys.uceWords.filter (· ≠ w),
                                   ceWords := h.sys.ceWords.filter (· ≠ w) } }
    else if h.sys.uceWords.contains w then h
    else { h with sys := { h.sys with ceWords := w :: h.sys.ceWords } }) h

/-- The SEQ of the record that lies at a BAR2 offset of the journal region: the latest one that slot has held. -/
def Hw.seqAt (h : Hw) (a : Nat) : Nat :=
  let slot := (a - journalBase) / 256
  let top := h.sealU.next
  if top = 0 then slot
  else
    let last := top - 1
    let d := (last % journalSlots + journalSlots - slot) % journalSlots
    last - d

/-- JOURNAL_DAMAGE (R324): F402, the SEQ, and one DAMAGE record for each damaged record. -/
def Hw.journalDamage (h : Hw) (a : Nat) : Hw :=
  let seq := h.seqAt a
  let h := { h with sealU := { h.sealU with uceSeq := seq } }
  let h := (h.notice 16 3 "journal.ecc" [("seq", toString seq)]).fault 21
  if h.sealU.damaged.contains seq then h
  else ({ h with sealU := { h.sealU with damaged := seq :: h.sealU.damaged } }).journal 0x1B (beBytes 8 seq)

/-- STORE_UCE (R62): the address, the count, `store.ecc`, F150; in the journal region also R324. -/
def Hw.storeUce (h : Hw) (w : Nat) : Hw :=
  let h := { h with sys := { h.sys with uceAddr := w, uceCnt := incSat h.sys.uceCnt } }.tcount 16 4
  let h := (h.notice 24 3 "store.ecc" [("addr", "0x" ++ hexPad 9 w)]).fault 8
  if journalBase ≤ w ∧ w < journalEnd then h.journalDamage w else h

/-- The 64-bit words an access of `n` bytes at `a` touches. -/
def wordsOf (a n : Nat) : List Nat := (List.range ((a + n + 7) / 8 - a / 8)).map (fun k => (a / 8 + k) * 8)

/-- The ECC work of a read of one word: whether it is uncorrectable. -/
def Hw.readWordEcc (h : Hw) (w : Nat) : Hw :=
  if h.sys.uceWords.contains w then h.storeUce w
  else if h.sys.ceWords.contains w then
    (({ h with sys := { h.sys with ceWords := h.sys.ceWords.filter (· ≠ w), ceCnt := incSat h.sys.ceCnt } }).setEvt 24 2).tcount 16 3
  else h

/-- The number of 64-byte lines an access of `n` bytes touches. -/
def linesOf (a n : Nat) : Nat := if n = 0 then 0 else (a + n - 1) / 64 - a / 64 + 1

/-- Some word of an access holds an uncorrectable error. -/
def Hw.poisonedAt (h : Hw) (a n : Nat) : Bool := (wordsOf a n).any (fun w => h.sys.uceWords.contains w)

/-- Read `n` bytes of Store with ECC: the bytes, and whether they are poisoned. -/
def Hw.readStore (h : Hw) (a n : Nat) : List Byte × Bool × Hw :=
  (h.peekN a n, h.poisonedAt a n, ((wordsOf a n).foldl (fun (h : Hw) w => h.readWordEcc w) h).tcount 16 1 (linesOf a n))

/-- Write the bytes of one 64-bit word: a whole word takes new ECC; a part is a read-modify-write, which an
uncorrectable error turns into no write at all (R62). -/
def Hw.writeWordEcc (h : Hw) (w : Nat) (l : List (Nat × Byte)) : Hw :=
  let mine := l.filter (fun p => decide (w ≤ p.1 ∧ p.1 < w + 8))
  let put := fun (h : Hw) => mine.foldl (fun (h : Hw) p => h.poke p.1 [p.2]) h
  if mine.length = 8 then
    put { h with sys := { h.sys with uceWords := h.sys.uceWords.filter (· ≠ w), ceWords := h.sys.ceWords.filter (· ≠ w) } }
  else if h.sys.uceWords.contains w then h.storeUce w
  else put (h.readWordEcc w)

/-- Write bytes to Store with ECC. -/
def Hw.writeStore (h : Hw) (a : Nat) (l : List Byte) : Hw :=
  let ps := (List.range l.length).zip l |>.map (fun p => (a + p.1, p.2))
  ((wordsOf a l.length).foldl (fun (h : Hw) w => h.writeWordEcc w ps) h).tcount 16 2 (linesOf a l.length)

/-- BUS_ISO_ADDR of a BAR2 access: SPACE 1 and the 64-byte line. -/
def isoLine (a : Nat) : Word := flag 31 true ||| BitVec.ofNat 32 (a / 64)

/-- BAR2_WRITE (R60, R61, R65): one write request of the host. An offset outside the 8 GiB of BAR2 does not exist. -/
def execBar2Write (a : Nat) (data : List Byte) (errs : List (Nat × Bool)) (s : State) :
    Host.Outcome State Fault Refusal :=
  if storeSize < a + data.length then .fault .noSuchAddress
  else s.on (fun h =>
    if data = [] then h
    else if h.sys.d3hot then h
    else
    let h := h.tcount 17 4
    if !h.domUp .store then h.isolatedAccess 100 (isoLine a)
    else if journalBase ≤ a ∧ a < journalEnd then h.notice 24 4 "store.journal_wr" [("addr", "0x" ++ hexPad 9 a)]
    else (h.takeErrors errs).writeStore a data)

/-- The words a read of bytes returns, lowest address first. -/
def bytesToWords : List Byte → List Word
  | a :: b :: c :: d :: r => BitVec.ofNat 32 (leNat [a, b, c, d]) :: bytesToWords r
  | [] => []
  | l => [BitVec.ofNat 32 (leNat l)]

/-- BAR2_READ (R62, R65): one read request of the host; the data and whether it is poisoned. -/
def execBar2Read (a n : Nat) (errs : List (Nat × Bool)) (s : State) : Host.Outcome State Fault Refusal :=
  if storeSize < a + n then .fault .noSuchAddress
  else s.on (fun h =>
    if h.sys.d3hot then h.ret []
    else
    let h := h.tcount 17 3
    if !h.domUp .store then
      let h := h.isolatedAccess 100 (isoLine a)
      { h with sys := { h.sys with rdata := List.replicate ((n + 3) / 4) 0, poisoned := false } }
    else
      let (l, p, h) := (h.takeErrors errs).readStore a n
      { h with sys := { h.sys with rdata := bytesToWords l, poisoned := p } })

end Sys2Proof.Machine
end

