-- ==== Sys2Proof/Machine/Caliper.lean ====
section
/-!
DEFINITION. The Caliper (chapter 11): front ends, queues and watermarks, intervals, frequency gates, statistics, the
compare window, and the two calibrations.
-/
set_option autoImplicit false

namespace Sys2Proof.Machine

/-- Change one channel. -/
def Hw.updCal (h : Hw) (c : Fin 40) (f : CalCh → CalCh) : Hw :=
  { h with cal := { h.cal with ch := h.cal.ch.set c (f h.cal.ch[c]) } }

/-- The name of a channel (R219). -/
def calName (c : Nat) : String := (chanNames[c]?).getD ""

/-- A notice of a channel's own event bit (Table 11.6). -/
def Hw.calNotice (h : Hw) (c : Fin 40) (b : Nat) (stem : String) (args : List (String × String)) : Hw :=
  (h.setCalEvt c b).deliver { stem := stem, args := ("ch", calName c) :: args }

/-- The settings of a channel in effect (Table 11.5). -/
def Hw.calEff (h : Hw) (c : Fin 40) : CalCfg :=
  { en := h.effB .calChEnable c, mode := h.effN .calChMode c, edge := h.effN .calChEdge c,
    divide := max 1 (h.effN .calChDivide c),
    stop := (match h.eff ⟨.calChStop, c, 0⟩ with | .nat n => n | _ => c.val),
    stopFall := decide (h.effN .calChStopEdge c = 1), signed := h.effB .calChSigned c, gate := h.effN .calChGate c,
    gateEvt := decide (h.effN .calChGateSrc c = 1), statOf := h.effN .calChStatOf c, statN := h.effN .calChStatN c,
    period := h.effN .calChStatPeriod c, delay := if c.val < 24 then h.effI .calChDelay c else 0 }

/-- The DLL and the island of a channel (Table 3.1, Table 11.7). -/
def calDll (c : Nat) : Fin 4 := if c < 8 then 0 else if c < 16 then 1 else if c < 24 then 2 else 3
def calIsland (c : Nat) : Fin 48 := if c < 8 then 36 else if c < 16 then 37 else if c < 24 then 38 else 39

/-! ## Queues (R226, R227) -/

/-- The latch re-arms once it is clear and the level is below the mark minus the hysteresis; a level at the mark or above
latches it. -/
def Hw.calMarkTest (h : Hw) (c : Fin 40) : Hw :=
  let ch := h.cal.ch[c]
  let lev := ch.queue.length
  let mark := h.effN .calChMark c
  let latched := (h.note.calEvt[c]).getLsbD 0
  let armed := ch.markArmed || (!latched && decide (lev + h.effN .calChHyst c < mark))
  if armed && decide (mark ≤ lev) then
    (h.updCal c (fun x => { x with markArmed := false })).calNotice c 0 "cal.mark" [("level", toString lev)]
  else h.updCal c (fun x => { x with markArmed := armed })

/-- A record lost: LOST, OVF, one `cal.ovf` per episode. -/
def Hw.calLose (h : Hw) (c : Fin 40) (n : Nat) : Hw :=
  let first := !(h.cal.ch[c]).queueEp
  let h := h.updCal c (fun x => { x with
    lost := BitVec.ofNat 32 (satAdd max32 x.lost.toNat n), ovf := true, queueEp := true })
  let h := (h.setCalEvt c 1).tcount 13 4 n
  if first then h.deliver { stem := "cal.ovf", args := [("ch", calName c), ("cause", "queue")] } else h

/-- Put records, admitted or dropped together, into a channel's queue; each takes its SEQ. -/
def Hw.calPut (h : Hw) (c : Fin 40) (recs : List CalRec) : Hw :=
  let ch := h.cal.ch[c]
  let n := recs.length
  let h := h.updCal c (fun x => { x with seq := (x.seq + n) % 32768 })
  if 4096 < ch.queue.length + n then h.calLose c n
  else
    let numbered := (List.range n).zip recs |>.map (fun p =>
      { p.2 with
        w0 := p.2.w0 ||| flag 11 (ch.ovf && decide (p.1 = 0))
        w3 := p.2.w3 ||| fld 17 ((ch.seq + p.1) % 32768) })
    (h.updCal c (fun x => { x with queue := x.queue ++ numbered, ovf := false, queueEp := false })).calMarkTest c

/-- Word 0 of a record but OVF_BEFORE. -/
def calW0 (c type : Nat) (falling bad subres order timeout dead : Bool) (hi : Nat) : Word :=
  fld 0 c ||| flag 6 falling ||| fld 7 type ||| flag 10 bad ||| flag 12 subres ||| flag 13 order ||| flag 14 timeout |||
  flag 15 dead ||| fld 16 hi

/-- A TYPE 0 record. -/
def stampRec (c : Nat) (s : CalStamp) : CalRec :=
  let t := s.t.toNat
  { w0 := calW0 c 0 s.falling s.bad false false false s.dead (fracOf t), w1 := fld 0 (nsOf t), w2 := lo32 (secOf t),
    w3 := fld 0 (secOf t / 4294967296 % 65536) ||| flag 16 s.uncal }

/-- A record with a 64-bit value. -/
def valueRec (w0 : Word) (v : Int) (sec : Nat) (uncal : Bool) : CalRec :=
  { w0 := w0, w1 := lo32 (twos64 v), w2 := hi32 (twos64 v), w3 := fld 0 (sec % 65536) ||| flag 16 uncal }

/-! ## Compare (R240) -/

/-- A value in units of 2^-16 ns as the notice shows it. -/
def showFracNs (v : Int) : String := showPs 1 (v * 1000 / 65536)

/-- Test a value, or a TIMEOUT, against the channel's window. -/
def Hw.calCmp (h : Hw) (c : Fin 40) (v : Option Int) : Hw :=
  if !h.effB .calChCmp c then h
  else
    let hit := match v with
      | none => true
      | some v => decide (v * 1000 < h.effI .calChCmpLo c * 65536 ∨ h.effI .calChCmpHi c * 65536 < v * 1000)
    if hit then
      (h.raiseEvent (48 + c.val)).calNotice c 3 "cal.cmp"
        [("value", match v with | some v => showFracNs v | none => "timeout")]
    else h

/-! ## Statistics (R239) -/

/-- Rounded to the nearest integer. -/
def nearest (a : Int) (n : Nat) : Int := (2 * a + n) / (2 * n)

/-- The division of the spec's reals, rounded by the free value that stands for its unstated rounding. -/
def Hw.roundDiv (h : Hw) (num : Nat) (den : Nat) : Nat × Hw :=
  if Config.roundUp h.free then (ceilDiv num den, { h with free := h.free + 1 })
  else (num / den, { h with free := h.free + 1 })

/-- A square root over `n` in whole units, rounded in the same way: `lo` is the rounding down. -/
def Hw.roundRoot (h : Hw) (v n : Nat) : Nat × Hw :=
  let lo := Nat.sqrt v / n
  (if (lo * n) * (lo * n) ≠ v ∧ Config.roundUp h.free then lo + 1 else lo, { h with free := h.free + 1 })

/-- The four records of a closed block. -/
def Hw.closeBlock (h : Hw) (c : Fin 40) (b : CalBlock) : Hw :=
  let n := b.vals.length
  let sum := b.vals.foldl (· + ·) 0
  let sq := b.vals.foldl (fun a v => a + v * v) (0 : Int)
  let (sd, h) := h.roundRoot (((n : Int) * sq - sum * sum).toNat) n
  let mn := b.vals.foldl min (b.vals.headD 0)
  let mx := b.vals.foldl max (b.vals.headD 0)
  let mean := nearest sum n
  let sec := h.sec
  let w := fun ty hi => calW0 c ty false b.bad false false false b.dead hi
  let h := h.updCal c (fun x => { x with block := {} })
  let h := h.calPut c [valueRec (w 3 (n % 65536)) mean sec b.uncal, valueRec (w 4 (min 65535 b.timeouts)) sd sec b.uncal,
    valueRec (w 5 0) mn sec b.uncal, valueRec (w 6 0) mx sec b.uncal]
  h.calCmp c (some mean)

/-- One value for the channel's block; a block of N values closes. -/
def Hw.statValue (h : Hw) (c : Fin 40) (v : Int) (bad dead uncal : Bool) : Hw :=
  let b := (h.cal.ch[c]).block
  let b := { b with vals := b.vals ++ [v], bad := b.bad || bad, dead := b.dead || dead, uncal := b.uncal || uncal }
  let h := h.updCal c (fun x => { x with block := b })
  if (h.cal.ch[c]).cfg.statN ≤ b.vals.length then h.closeBlock c b else h

/-- An interval result goes to the queue, or into the statistics block (R230, R239). -/
def Hw.intervalResult (h : Hw) (c : Fin 40) (v : Int) (start : CalStamp) (bad subres order timeout dead uncal : Bool) : Hw :=
  let cfg := (h.cal.ch[c]).cfg
  if cfg.mode = 3 then
    if timeout then h.updCal c (fun x => { x with block := { x.block with timeouts := x.block.timeouts + 1 } })
    else h.statValue c v bad dead uncal
  else
    let h := h.calPut c [valueRec (calW0 c 1 start.falling bad subres order timeout dead 0) v (secOf start.t.toNat) uncal]
    h.calCmp c (if timeout then none else some v)

/-! ## Settings (R241) -/

/-- Two settings of a channel differ in more than the input delay: a change under R241. -/
def CalCfg.changes (a b : CalCfg) : Bool := decide (({ a with delay := 0 } : CalCfg) ≠ { b with delay := 0 })

/-- The settings a channel works by (R223, R241); the others apply where they are used. -/
def calWorks : PathId → Bool
  | .calChEnable | .calChMode | .calChEdge | .calChDivide | .calChStop | .calChStopEdge | .calChSigned | .calChGate
  | .calChGateSrc | .calChStatOf | .calChStatN | .calChStatPeriod | .calChDelay => true
  | _ => false

/-- A disabled channel is flushed, its records counted in LOST. -/
def CalCh.flush (x : CalCh) (cfg : CalCfg) : CalCh :=
  if cfg.en then x else { x with lost := BitVec.ofNat 32 (satAdd max32 x.lost.toNat x.queue.length), queue := [] }

/-- What an enabled channel's change of settings discards; ABORT. -/
def Hw.calDiscard (h : Hw) (c : Fin 40) : Hw :=
  (h.updCal c (fun x => { x with start := none, gate := none, block := {}, prev := none })).setCalEvt c 2

/-- A setting of the channel has changed. -/
def Hw.calTouch (h : Hw) (c : Fin 40) : Hw :=
  let cfg := h.calEff c
  let discard := (h.cal.ch[c]).cfg.en && (h.cal.ch[c]).cfg.changes cfg
  let h := h.updCal c (fun x => ({ x with changeAt := some h.time.axis } : CalCh).flush cfg)
  if discard then h.calDiscard c else h

/-- The settings are taken over at an edge at least 1 us after the change; a new delay alone (R223) discards nothing. -/
def Hw.calTake (h : Hw) (c : Fin 40) (t : Nat) : Hw :=
  match (h.cal.ch[c]).changeAt with
  | none => h
  | some at_ =>
    if at_ + auPerUs ≤ t then
      let cfg := h.calEff c
      h.updCal c (fun x =>
        if x.cfg.changes cfg then
          ({ x with
            cfg := cfg, changeAt := none, divCnt := 0, start := none, gate := none, block := {}, prev := none,
            hist := [], misses := [], after := none } : CalCh).flush cfg
        else { x with cfg := cfg, changeAt := none })
    else h

/-! ## Edges (R221 to R224, R229) -/

/-- The interval of the stamp bus: 240 M records/s, rounded down to model units. -/
def busSlot : Nat := 34133333

/-- The next channel in round-robin order, after `last`, of the `n` channels from `lo` with a stamp waiting at `t`. -/
def StampBus.pick (b : StampBus) (lo n last t : Nat) : Option (Fin 40) :=
  (((List.range n).map (fun k => (⟨(lo + (last - lo + 1 + k) % n) % 40, Nat.mod_lt _ (by decide)⟩ : Fin 40))).find?
    (fun c => b.front[c].any (fun a => decide (a ≤ t))))

/-- The bus serves, up to `t`, what waits: taps first, then external inputs (R224). A stamp leaves its front buffer when its
transfer ends. -/
def StampBus.run : Nat → Nat → StampBus → StampBus
  | 0, _, b => b
  | f + 1, t, b =>
    match (b.front.toList.filterMap (fun l => l.head?)).min? with
    | none => b
    | some e =>
      let s := max b.free e
      if t < s + busSlot then b
      else match b.pick 24 16 b.tap s, b.pick 0 24 b.ext s with
        | some c, _ => StampBus.run f t { b with front := b.front.set c b.front[c].tail, free := s + busSlot, tap := c.val }
        | none, some c => StampBus.run f t { b with front := b.front.set c b.front[c].tail, free := s + busSlot, ext := c.val }
        | none, none => b

/-- The bus as a stamp taken at `t` finds it: at most 160 stamps wait. -/
def Hw.busNow (h : Hw) (t : Nat) : StampBus := h.cal.bus.run 160 t

/-- A stamp passes its front buffer of 4 records onto the bus; a full buffer loses it (R224). A lost stamp of stream mode is
a record the channel generated. -/
def Hw.calBus (h : Hw) (c : Fin 40) (t : Nat) (put : Hw → Hw) : Hw :=
  let b := h.busNow t
  let h := { h with cal := { h.cal with bus := b } }
  if 4 ≤ b.front[c].length then
    let first := !(h.cal.ch[c]).busEp
    let h := h.updCal c (fun x => { x with
      lost := incSat x.lost, ovf := true, busEp := true
      seq := if x.cfg.en ∧ x.cfg.mode = 0 then (x.seq + 1) % 32768 else x.seq })
    let h := h.tcount 13 3
    if first then (h.notice 9 2 "cal.ovf" [("ch", calName c), ("cause", "bus")]) else h
  else
    let h := { h with cal := { h.cal with bus := { b with front := b.front.set c (b.front[c] ++ [t]) } } }
    put (h.updCal c (fun x => { x with busEp := x.busEp && !b.front[c].isEmpty }))

/-- A stamp joins an open gate (R237). -/
def CalGate.add (g : CalGate) (s : CalStamp) (k : Nat) : CalGate :=
  let t := s.t - g.t0
  { g with
    n := g.n + 1, sk := g.sk + k, skk := g.skk + (k : Int) * k, st := g.st + t, skt := g.skt + k * t, stt := g.stt + t * t
    uncal := g.uncal || s.uncal }

/-- A passed edge in an open gate: every passed edge takes an index; stamps marked DEAD or INVALID stay out of the fit. -/
def Hw.gateEdge (h : Hw) (c : Fin 40) (s : Option CalStamp) : Hw :=
  h.updCal c (fun x => { x with gate := x.gate.map (fun g =>
    let g' := match s with
      | some s => if s.dead || s.bad then { g with dead := g.dead || s.dead, bad := g.bad || s.bad } else g.add s g.k
      | none => { g with dead := true }
    { g' with k := g.k + 1 }) })

/-- A phase value of R239: the stamp modulo P, wrapped into (-P/2, P/2], in units of 2^-16 ns. -/
def phaseOf (t : Int) (pps : Nat) : Int :=
  let p : Int := psAu pps
  let m := t % p
  (if p < 2 * m then m - p else m) / auPerFrac

/-- No pair of R230 to R236 at `t` looks further back: the longest timeout and the longest lookback, and a second. -/
def pairAge (t : Int) : Int := t - 1002 * (auPerSec : Int)

/-- What a mode does with a stamp. -/
def Hw.calStamp (h : Hw) (c : Fin 40) (s : CalStamp) : Hw :=
  let cfg := (h.cal.ch[c]).cfg
  let h := (h.updCal c (fun x => { x with
    hist := x.hist.filter (fun y => decide (pairAge s.t ≤ y.t)) ++ [s], misses := x.misses.filter (fun y => decide (pairAge s.t ≤ y)) })).tcount 13 1
  if !cfg.en then h
  else if cfg.mode = 0 then h.calPut c [stampRec c s]
  else if cfg.mode = 2 then h.gateEdge c (some s)
  else if cfg.mode = 3 ∧ cfg.statOf = 1 then
    let prev := (h.cal.ch[c]).prev
    let h := h.updCal c (fun x => { x with prev := some s })
    match prev with
    | some p => h.statValue c ((s.t - p.t) / auPerFrac) (s.bad || p.bad) s.dead (s.uncal || p.uncal)
    | none => h
  else if cfg.mode = 3 ∧ cfg.statOf = 2 then h.statValue c (phaseOf s.t cfg.period) s.bad s.dead s.uncal
  else h

/-- CALIPER_EDGE (R221): an edge at a channel's input, `sub` model units after the tick. -/
def execCaliperEdge (c : Fin 40) (falling : Bool) (sub : Nat) (s : State) : Host.Outcome State Fault Refusal :=
  s.on (fun h => h.when (h.time.clockOn && h.domUp .ref) (fun h =>
    let t := h.time.axis + sub
    let h := h.calTake c t
    let x := h.cal.ch[c]
    let cfg := x.cfg
    let picked := decide (cfg.edge = 2 ∨ (cfg.edge = 1) = (falling = true))
    if !(picked && (cfg.en || h.cal.ch.toList.any (fun y => y.cfg.en && decide (y.cfg.stop = c.val)))) then h
    else if x.divCnt + 1 < cfg.divide then h.updCal c (fun x => { x with divCnt := x.divCnt + 1 })
    else
      let h := h.updCal c (fun x => { x with divCnt := 0 })
      let blind := match x.lastStamp with
        | some l => decide ((t : Int) < l + 40 * (auPerNs : Int))
        | none => false
      if blind then
        let h := (h.tcount 13 2).updCal c (fun x => { x with deadPend := true, misses := ((t : Int) - cfg.delay * auPerPs) :: x.misses })
        if cfg.mode = 2 then h.gateEdge c none else h
      else
        let bad := !h.islandOk (calIsland c) || !h.cal.dll[calDll c]
        let st : CalStamp := { t := (t : Int) - cfg.delay * auPerPs, falling := falling, bad := bad,
                               uncal := h.cal.tables[c].isEmpty, dead := x.deadPend }
        (h.updCal c (fun x => { x with lastStamp := some t, deadPend := false })).calBus c t (fun h => h.calStamp c st)))

/-! ## Intervals (R230 to R236) -/

/-- A channel measures intervals. -/
def CalCfg.intervals (g : CalCfg) : Bool := g.en && (g.mode = 1 || (g.mode = 3 && g.statOf = 0))

/-- The start that waits, or the first stamp after the last interval. -/
def CalCh.nextStart (x : CalCh) : Option CalStamp :=
  match x.start with
  | some s => some s
  | none => x.hist.find? (fun s => match x.after with | some a => decide (a < s.t) | none => true)

/-- |stop - start| lies below 0.98 ps (R231). -/
def subRes (d : Int) : Bool := decide (d.natAbs * 100 < 98 * auPerPs)

/-- The stop of a start: with the sign on, the latest unpaired one within the lookback; else the first at or after it. -/
def findStop (signed : Bool) (lookback : Nat) (start : Int) (own : Bool) (hist : List CalStamp) : Option CalStamp :=
  let free := hist.filter (fun s => !s.paired)
  let back := free.filter (fun s => decide (s.t < start ∧ start ≤ s.t + lookback) || (subRes (s.t - start) && decide (s.t < start)))
  let fwd := free.find? (fun s => if own then decide (start < s.t) else decide (start ≤ s.t))
  let near := (free.filter (fun s => !own && decide (s.t < start) && subRes (s.t - start))).getLast?
  match near with
  | some n => some n
  | none => if signed && decide (0 < lookback) && !own then (match back.getLast? with | some b => some b | none => fwd) else fwd

/-- A dead miss of either channel lies between two instants (R236). -/
def Hw.deadBetween (h : Hw) (a b : Fin 40) (x y : Int) : Bool :=
  let lo := min x y
  let hi := max x y
  ((h.cal.ch[a]).misses ++ (h.cal.ch[b]).misses).any (fun t => decide (lo < t ∧ t < hi))

/-- Mark a stop as paired. -/
def markPaired (t : Int) : List CalStamp → List CalStamp
  | [] => []
  | s :: r => if s.t = t ∧ ¬ s.paired then { s with paired := true } :: r else s :: markPaired t r

/-- The stop channel of a channel. -/
def CalCfg.stopCh (g : CalCfg) : Fin 40 := ⟨g.stop % 40, Nat.mod_lt _ (by decide)⟩

/-- INTERVAL_PAIR (R230): both stampers have passed the later stamp by 100 ns. -/
def execIntervalPair (c : Fin 40) (s : State) : Host.Outcome State Fault Refusal :=
  s.on (fun h =>
    let x := h.cal.ch[c]
    let g := x.cfg
    if !g.intervals then h
    else
      let d := g.stopCh
      let stopEdgeOk := fun (y : CalStamp) => decide (y.falling = g.stopFall)
      let own := decide (d = c) && decide (g.edge = 2 ∨ (g.edge = 1) = (g.stopFall = true))
      match x.nextStart with
      | none => h
      | some st =>
        match findStop g.signed (psAu (h.effN .calChLookback c)) st.t (decide (d = c)) ((h.cal.ch[d]).hist.filter stopEdgeOk) with
        | none => h.updCal c (fun x => { x with start := some st })
        | some p =>
          let later := max st.t p.t
          if (h.time.axis + auPerTick : Int) < later + 100 * (auPerNs : Int) ∨ st.t + psAu (h.effN .calChTimeout c) < p.t then h
          else
            let diff := p.t - st.t
            let sub := subRes diff
            let order := decide (diff < 0) && !sub
            let v := if sub then 0 else diff / auPerFrac
            let dead := h.deadBetween c d st.t p.t
            let h := h.updCal d (fun x => { x with hist := markPaired p.t x.hist })
            let h := h.updCal c (fun x => { x with
              start := if own then some { p with paired := false } else none, after := some later })
            h.intervalResult c v st (st.bad || p.bad) sub order false dead (st.uncal || p.uncal))

/-- INTERVAL_TIMEOUT (R234): no stop at or before start + timeout. -/
def execIntervalTimeout (c : Fin 40) (s : State) : Host.Outcome State Fault Refusal :=
  s.on (fun h =>
    let x := h.cal.ch[c]
    let g := x.cfg
    match x.nextStart with
    | none => h
    | some st =>
      let limit := st.t + psAu (h.effN .calChTimeout c)
      let stops := ((h.cal.ch[g.stopCh]).hist.filter (fun y => decide (y.falling = g.stopFall)))
      let has := match findStop g.signed (psAu (h.effN .calChLookback c)) st.t (decide (g.stopCh = c)) stops with
        | some p => decide (p.t ≤ limit)
        | none => false
      h.when (g.intervals && !has && decide (limit + 100 * (auPerNs : Int) ≤ (h.time.axis + auPerTick : Int))) (fun h =>
        let dead := h.deadBetween c g.stopCh st.t limit
        let h := h.updCal c (fun x => { x with start := none, after := some limit })
        h.intervalResult c 0 st st.bad false false true dead st.uncal))

/-! ## Gates (R237, R238) -/

/-- GATE_START (R238): a free-running boundary, or the gate task has run. -/
def execGateStart (c : Fin 40) (s : State) : Host.Outcome State Fault Refusal :=
  s.on (fun h =>
    let h := h.calTake c h.time.axis
    let x := h.cal.ch[c]
    let g := x.cfg
    let len := psAu g.gate
    if !(g.en && g.mode = 2) then h
    else if g.gateEvt then
      h.when (x.gateReq && x.gate.isNone) (fun h =>
        h.updCal c (fun x => { x with gateReq := false, gate := some { t0 := h.time.axis } }))
    else
      h.when (x.gate.isNone && decide (0 < len ∧ h.time.axis % len < auPerTick)) (fun h =>
        h.updCal c (fun x => { x with gate := some { t0 := (h.time.axis / len * len : Nat) } })))

/-- The gate task runs (R238): while a gate is open it is ignored and sets ABORT. -/
def Hw.gateTask (h : Hw) (c : Fin 40) : Hw :=
  let x := h.cal.ch[c]
  if !(x.cfg.en && x.cfg.mode = 2 && x.cfg.gateEvt) then h
  else if x.gate.isSome then h.setCalEvt c 2
  else h.updCal c (fun x => { x with gateReq := true })

/-- GATE_END (R237): the least-squares fit and its TYPE 2 record. -/
def execGateEnd (c : Fin 40) (s : State) : Host.Outcome State Fault Refusal :=
  s.on (fun h =>
    let x := h.cal.ch[c]
    match x.gate with
    | none => h
    | some g =>
      h.when (decide (g.t0 + psAu x.cfg.gate ≤ (h.time.axis + auPerTick : Int))) (fun h =>
        let h := h.updCal c (fun x => { x with gate := none })
        let den := g.n * g.skk - g.sk * g.sk
        let num := g.n * g.skt - g.sk * g.st
        if g.n < 3 ∨ den ≤ 0 ∨ num ≤ 0 then
          h.calPut c [valueRec (calW0 c 2 false g.bad false false true g.dead 0) 0 0 g.uncal]
        else
          let (f, h) := h.roundDiv (x.cfg.divide * auPerSec * 4294967296 * den.toNat) num.toNat
          let ss := ((g.n * g.stt - g.st * g.st) * den - num * num).toNat / (g.n * g.n * den).toNat
          let (res, h) := h.roundDiv (Nat.sqrt ss * 10) auPerPs
          h.calPut c [{ w0 := calW0 c 2 false g.bad false false false g.dead 0, w1 := lo32 f, w2 := hi32 f,
                        w3 := fld 0 (min 65535 res) ||| flag 16 g.uncal }]))

/-! ## A step of Axis time -/

/-- A channel's stamps, pairs and gate keep their distance from the present through a step: `d` in model units. -/
def CalCh.step (d : Int) (x : CalCh) : CalCh :=
  let sh := fun (s : CalStamp) => { s with t := s.t + d }
  { x with
    changeAt := x.changeAt.map (fun t => ((t : Int) + d).toNat), lastStamp := x.lastStamp.map (· + d),
    hist := x.hist.map sh, misses := x.misses.map (· + d), start := x.start.map sh, after := x.after.map (· + d),
    gate := x.gate.map (fun g => { g with t0 := g.t0 + d }), prev := x.prev.map sh }

/-- The bus through a step. -/
def StampBus.step (d : Int) (b : StampBus) : StampBus :=
  { b with front := b.front.map (fun l => l.map (fun (t : Nat) => ((t : Int) + d).toNat)), free := ((b.free : Int) + d).toNat }

/-- The Caliper through a step of Axis time. -/
def Hw.calStep (h : Hw) (d : Int) : Hw :=
  { h with cal := { h.cal with ch := h.cal.ch.map (CalCh.step d), bus := h.cal.bus.step d } }

/-! ## Calibration (R242 to R244) -/

/-- CAL_DLL (R242): the DLL of cal0, cal1, cal2 or caltap has been out of lock for more than 1 us. -/
def execCalDll (i : Fin 4) (s : State) : Host.Outcome State Fault Refusal :=
  s.on (fun h => h.when h.cal.dll[i] (fun h =>
    let h := { h with cal := { h.cal with dll := h.cal.dll.set i false } }
    (h.notice 9 0 "cal.dll" [("island", (islandNames[36 + i.val]?).getD "")]).fault 6))

/-- DLL_RELOCK (R242). -/
def execDllRelock (i : Fin 4) (s : State) : Host.Outcome State Fault Refusal :=
  s.on (fun h => h.when (h.time.clockOn && h.domUp .ref) (fun h =>
    { h with cal := { h.cal with dll := h.cal.dll.set i true } }))

/-- The line after one. -/
def nextLine (c : Nat) : Nat := (c + 1) % 40

/-- The three tests of R243: their names, or none when all hold. -/
def cdCheck (hits : List Nat) : Option String :=
  let sum := hits.foldl (· + ·) 0
  let used := (hits.filter (fun x => decide (0 < x))).length
  let trimmed := hits.reverse.dropWhile (· = 0)
  if used < 780 ∨ 860 < used then some "count"
  else if hits.any (fun x => decide (4 * sum < 800 * x)) then some "width"
  else if trimmed.any (· = 0) then some "gap"
  else none

/-- CODE_DENSITY_TABLE (R243): a line's hit counts after 2^22 hits. -/
def execCodeDensityTable (c : Fin 40) (hits : List Nat) (s : State) : Host.Outcome State Fault Refusal :=
  s.on (fun h => h.when (h.time.clockOn && h.domUp .ref && decide (hits.foldl (· + ·) 0 = 4194304)) (fun h =>
    let h := { h with cal := { h.cal with cdLine := nextLine c } }
    match cdCheck hits with
    | some name => (h.notice 9 1 "cal.cd" [("ch", calName c), ("check", name)]).fault 7
    | none =>
      let tab := hits.map (fun x => 800000 * x / 4194304)
      let h := { h with cal := { h.cal with tables := h.cal.tables.set c tab } }
      { h with cal := { h.cal with firstDone := h.cal.firstDone || h.cal.tables.toList.all (fun t => !t.isEmpty) } }))

/-- CD_SLOW (R243): a line not filled within 10 s keeps its table; the test moves on. -/
def execCdSlow (c : Fin 40) (s : State) : Host.Outcome State Fault Refusal :=
  s.on (fun h => h.when (h.time.clockOn && h.domUp .ref && decide (h.cal.cdLine = c.val)) (fun h =>
    ({ h with cal := { h.cal with cdLine := nextLine c } }).setEvt 9 3))

/-- The table in use of a line: the linear one of R244 while none is accepted. -/
def Hw.lineTable (h : Hw) (c : Fin 40) : List Nat :=
  if h.cal.tables[c].isEmpty then List.replicate 816 980 else h.cal.tables[c]

/-! ## Register events -/

/-- Capture the chosen line's table; a line above 39 is out of range (R243). -/
def Hw.calCdSel (h : Hw) (line : Nat) : Hw :=
  if p : line < 40 then { h with cal := { h.cal with cdSel := line, cdTab := h.lineTable ⟨line, p⟩ } }
  else h.regRange 0x500010

/-- CAL_CD_SEL_WRITE. -/
def execCalCdSelWrite (line : Nat) (s : State) : Host.Outcome State Fault Refusal :=
  s.onWrite (fun h => if !h.domUp .ref then h.isoRecord 0x500010 else h.calCdSel line)

/-- Remove the head record and capture its four words; an empty queue answers TYPE 7 (R228). -/
def Hw.calPop (h : Hw) (c : Fin 40) : Word × Hw :=
  match (h.cal.ch[c]).queue with
  | [] => (CalRec.empty.w0, h.updCal c (fun x => { x with popped := CalRec.empty }))
  | r :: rest => (r.w0, (h.updCal c (fun x => { x with queue := rest, popped := r })).calMarkTest c)

/-- CAL_POP0_READ. -/
def execCalPop0Read (c : Fin 40) (s : State) : Host.Outcome State Fault Refusal :=
  s.onRead (fun h =>
    if !h.domUp .ref then (h.isoRecord (0x500130 + 0x40 * c.val)).ret [0]
    else
      let (w, h) := h.calPop c
      h.ret [w])

end Sys2Proof.Machine
end

