-- ==== Sys2Proof/Machine/Utc.lean ====
section
/-!
DEFINITION. UTC as a label on Axis time (R30 to R34, R513, R514): the TAI-UTC offset and its sources, the calendar, the
armed leap and the smear window; and the commands LEAP_TAKES_EFFECT and SMEAR_WINDOW_START.
-/
set_option autoImplicit false

namespace Sys2Proof.Machine

/-! ## The calendar -/

/-- The civil date (year, month, day) of a day number counted from 1970-01-01 (proleptic Gregorian calendar). -/
def civil (days : Nat) : Nat × Nat × Nat :=
  let z := days + 719468
  let era := z / 146097
  let doe := z % 146097
  let yoe := (doe - doe / 1460 + doe / 36524 - doe / 146096) / 365
  let doy := doe - (365 * yoe + yoe / 4 - yoe / 100)
  let mp := (5 * doy + 2) / 153
  let d := doy - (153 * mp + 2) / 5 + 1
  let m := if mp < 10 then mp + 3 else mp - 9
  (yoe + era * 400 + (if m ≤ 2 then 1 else 0), m, d)

/-- The day number of a civil date from 1970 on. -/
def dayNumber (y m d : Nat) : Nat :=
  let y' := if m ≤ 2 then y - 1 else y
  let era := y' / 400
  let yoe := y' % 400
  let mp := if m ≤ 2 then m + 9 else m - 3
  let doy := (153 * mp + 2) / 5 + d - 1
  let doe := yoe * 365 + yoe / 4 - yoe / 100 + doy
  era * 146097 + doe - 719468

/-- The date names a calendar day. -/
def validDate (y m d : Nat) : Bool :=
  1970 ≤ y && 1 ≤ m && m ≤ 12 && 1 ≤ d && decide (civil (dayNumber y m d) = (y, m, d))

/-- The day is the last of its month. -/
def lastOfMonth (day : Nat) : Bool := (civil (day + 1)).2.2 = 1

/-! ## The TAI-UTC offset (R30, R513) -/

/-- The setting's offset in seconds: the value moved by a leap while it stands, else `utc.offset` (held in ps). -/
def Hw.settingOff (h : Hw) : Option Int :=
  match h.time.movedSetting with
  | some v => some v
  | none =>
    match h.eff ⟨.utcOffset, 0, 0⟩ with
    | .nat n => some (n / 1000000000000)
    | .int z => some (z / 1000000000000)
    | _ => none

/-- The steering reference's offset, while it carries a valid one. -/
def Hw.refOff (h : Hw) : Option Int :=
  match h.ref.sel with
  | some i => (h.ref.ins[i]).utcHeld
  | none => none

/-- The offset in use and its source: 2 reference, 1 setting, 0 factory. -/
def Hw.offSrc (h : Hw) : Int × Nat :=
  match h.refOff with
  | some v => (v, 2)
  | none =>
    match h.settingOff with
    | some v => (v, 1)
    | none => (h.time.factoryOff, 0)

/-- TAI-UTC in use. -/
def Hw.taiUtc (h : Hw) : Int := h.offSrc.1

/-- R30: raise `utc.conflict` once per change when the setting and the steering reference disagree. -/
def Hw.offConflictTest (h : Hw) : Hw :=
  match h.settingOff, h.refOff with
  | some a, some b =>
    if a = b then h
    else if h.time.offConflict = some (a, b) then h
    else
      let h := { h with time := { h.time with offConflict := some (a, b) } }
      h.notice 4 4 "utc.conflict" [("setting", toString a), ("reference", toString b)]
  | _, _ => h

/-- A reference reports its offset, or none: a report different from the one before the leap gives a new value
(R513). -/
def Hw.reportOff (h : Hw) (i : Fin 20) (v : Option Int) : Hw :=
  let r := h.ref.ins[i]
  let held := match v with
    | none => none
    | some x => if r.utcSaid = some x ∧ r.utcHeld.isSome then r.utcHeld else some x
  (h.updRef i (fun r => { r with utcSaid := v, utcHeld := held })).offConflictTest

/-! ## Leaps (R31 to R33) -/

/-- UTC seconds of an Axis second under an offset. -/
def utcSec (sec : Nat) (off : Int) : Int := (sec : Int) - off

/-- The move a leap makes: +1 for an insertion, -1 for a deletion. -/
def Leap.move (l : Leap) : Int := if l.insert then 1 else -1

/-- The first Axis second that is 23:59:00 UTC or later on the leap day: 61 s (insertion) or 59 s before LEAP_AT. -/
def leapLimit (insert : Bool) (at_ : Nat) : Nat := if insert then at_ - 61 else at_ - 59

/-- LEAP_AT of a leap at the end of UTC day `day`: the UTC seconds of the instant plus the offset after the leap. -/
def leapAt (h : Hw) (insert : Bool) (day : Nat) : Nat :=
  (((day + 1 : Nat) : Int) * 86400 + h.taiUtc + (if insert then 1 else -1)).toNat

/-- The UTC day in progress. -/
def Hw.utcDay (h : Hw) : Nat := (utcSec h.sec h.taiUtc / 86400).toNat

/-- The start of the smear window of the armed leap in model units, when smear is on. -/
def smearStart (windowPs at_ : Nat) : Nat := at_ * auPerSec - psAu windowPs

/-- R33: a leap armed, or a smear set, after the window's start is served unsmeared. -/
def Hw.lateSmearTest (h : Hw) : Hw :=
  match h.time.leap with
  | none => h
  | some l =>
    if h.effB .utcSmear && h.time.smear.isNone && !h.time.noSmear &&
        decide (smearStart (h.effN .utcSmearWindow) l.at_ < h.time.axis) then
      let h := { h with time := { h.time with noSmear := true } }
      h.notice 4 2 "utc.leap" [("late_smear", "1")]
    else h

/-- Arm a leap (R31): past announcements are ignored, late ones raise `utc.leap` with `late=1`; a lower source never
replaces an armed leap but raises `utc.conflict`. -/
def Hw.armLeap (h : Hw) (insert : Bool) (at_ : Nat) (src : LeapSrc) : Hw :=
  if at_ ≤ h.sec then h
  else if h.time.leap.any (fun l => decide (l.insert = insert ∧ l.at_ = at_)) then h
  else if leapLimit insert at_ ≤ h.sec then h.notice 4 2 "utc.leap" [("late", "1")]
  else
    let lower := match src, h.time.leap with
      | .table, some ⟨_, _, .ref _⟩ => true
      | _, _ => false
    if lower then
      let key := (at_, match h.time.leap with | some l => l.at_ | none => 0)
      if h.time.leapConflict = some key then h
      else
        let h := { h with time := { h.time with leapConflict := some key } }
        h.notice 4 4 "utc.conflict" [("armed", toString key.2), ("announced", toString at_)]
    else
      let h := { h with time := { h.time with leap := some ⟨insert, at_, src⟩, noSmear := false } }
      (h.notice 4 2 "utc.leap" [("armed", if insert then "+1" else "-1"), ("at", toString at_)]).lateSmearTest

/-- Withdraw the armed leap (R31), before 23:59:00 UTC on the leap day. -/
def Hw.withdrawLeap (h : Hw) : Hw :=
  match h.time.leap with
  | none => h
  | some l =>
    if leapLimit l.insert l.at_ ≤ h.sec then h
    else
      let h := { h with time := { h.time with leap := none, smear := none, noSmear := false } }
      h.notice 4 2 "utc.leap" [("withdrawn", "1")]

/-- The flags or LEAP field of the steering reference (R31): 0 none, 1 insertion, 2 deletion, for the end of the UTC
day in progress (`at_` none) or at a given LEAP_AT. None withdraws only on the leap day itself. -/
def Hw.refLeap (h : Hw) (i : Fin 20) (dir : Nat) (at_ : Option Nat) : Hw :=
  if h.ref.sel ≠ some i then h
  else if dir = 0 then
    match h.time.leap with
    | some l =>
      if l.src = .ref i.val ∧ h.utcDay * 86400 + 86400 = (utcSec l.at_ (h.taiUtc + l.move)).toNat then h.withdrawLeap
      else h
    | none => h
  else
    match at_ with
    | some a => h.armLeap (dir = 1) a (.ref i.val)
    | none => if lastOfMonth h.utcDay then h.armLeap (dir = 1) (leapAt h (dir = 1) h.utcDay) (.ref i.val) else h

/-- The `utc.leap` table (R514): pairs of a day number and a direction (1 insertion, 0 deletion), in date order. -/
def leapTable (l : List Nat) : List (Nat × Bool) :=
  match l with
  | d :: s :: r => (d, s = 1) :: leapTable r
  | _ => []

/-- Arm the earliest entry of the table that lies ahead, once the engine has left COLD (R31). -/
def Hw.tableLeap (h : Hw) : Hw :=
  if h.time.trust = .cold then h
  else
    match (leapTable (h.effL .utcLeap)).find? (fun e => decide (h.sec < leapAt h e.2 e.1)) with
    | some (d, ins) => h.armLeap ins (leapAt h ins d) .table
    | none => h

/-- The armed leap takes effect (R513): every held source value moves by one second and LEAP_DONE is set. -/
def Hw.doLeap (h : Hw) : Hw :=
  match h.time.leap with
  | none => h
  | some l =>
    let m := l.move
    let setting := h.settingOff
    let ins := h.ref.ins.map (fun r => { r with utcHeld := r.utcHeld.map (· + m) })
    let h := { h with
      ref := { h.ref with ins := ins }
      time := { h.time with leap := none, smear := none, noSmear := false, factoryOff := h.time.factoryOff + m,
                            movedSetting := setting.map (· + m) } }
    (h.setEvt 4 3).tableLeap

/-- The next tick boundary lies beyond the start of AXIS_SEC `t`. -/
def Hw.reaches (h : Hw) (t : Nat) : Bool := decide (t * auPerSec < h.time.axis + auPerTick)

/-- LEAP_TAKES_EFFECT (R513): at the armed leap's instant. -/
def execLeapTakesEffect (s : State) : Host.Outcome State Fault Refusal :=
  s.on (fun h => h.when (match h.time.leap with | some l => h.reaches l.at_ | none => false) Hw.doLeap)

/-- SMEAR_WINDOW_START (R33): the window's start has come, smear is on and a leap is armed on time; the window keeps
its own length from then on. -/
def execSmearWindowStart (s : State) : Host.Outcome State Fault Refusal :=
  s.on (fun h => h.when
    (match h.time.leap with
     | some l => h.effB .utcSmear && h.time.smear.isNone && !h.time.noSmear &&
         decide (smearStart (h.effN .utcSmearWindow) l.at_ < h.time.axis + auPerTick)
     | none => false)
    (fun h => { h with time := { h.time with smear := some (h.effN .utcSmearWindow) } }))

/-- Smeared UTC at time `t` (R33): linear over the window, equal to UTC after the leap from the instant on. Answers the
label TAI-UTC in model units. -/
def Hw.smearedOff (h : Hw) (t : Nat) : Int :=
  match h.time.smear, h.time.leap with
  | some w, some l =>
    let len : Int := psAu w
    let start : Int := (l.at_ * auPerSec : Int) - len
    let into : Int := max 0 (min len ((t : Int) - start))
    h.taiUtc * auPerSec + l.move * auPerSec * into / len
  | _, _ => h.taiUtc * auPerSec

/-- The leap indicator of NTP replies (R32, R33): 1 or 2 on the UTC day of an armed leap, 0 while it is smeared. -/
def Hw.leapInd (h : Hw) : Nat :=
  match h.time.leap with
  | none => 0
  | some l =>
    if h.effB .utcSmear ∧ h.time.noSmear = false ∨ h.time.smear.isSome then 0
    else if l.at_ ≤ h.sec + (if l.insert then 86401 else 86399) then (if l.insert then 1 else 2)
    else 0

end Sys2Proof.Machine
end

