-- ==== Sys2Proof/Machine/Steering.lean ====
section
/-!
DEFINITION. The steering loop and the Tangent model (chapter 9): bandwidths and the acquisition schedule, the loop
update, lock and its loss, the slew, the least-squares fit, U_HOLD and the prediction, and their commands.
-/
set_option autoImplicit false

namespace Sys2Proof.Machine

/-! ## Rounding left open -/

/-- `num / den`, exact when it is whole; otherwise the spec gives no rounding and the result is the floor or the
ceiling, which of the two is a free value. -/
def Hw.rnd (h : Hw) (num : Int) (den : Nat) : Int × Hw :=
  if num % den = 0 then (num / den, h)
  else (num / den + (if Config.roundUp h.free then 1 else 0), { h with free := h.free + 1 })

/-! ## Bandwidths (R180, R181) -/

/-- Table 9.1 in microhertz, by code. -/
def bwTable : List Nat :=
  [1000, 3000, 10000, 30000, 100000, 300000, 1000000, 3000000, 10000000, 30000000, 100000000, 300000000, 1000000000,
   4000000000]

/-- 8 time constants in ps at a bandwidth of `b` nanohertz: 8 / (2 pi b). -/
def tau8 (b : Nat) : Nat := 1273239544735162686151 / b

/-- The widest value of Table 9.1, in nHz, at or below one tenth of an update rate in Hz. -/
def widestFor (rate : Nat) : Nat :=
  match (bwTable.reverse.find? (fun b => decide (b * 10 ≤ rate * 1000000))) with
  | some b => b * 1000
  | none => 1000000

/-- The code of Table 9.1 nearest at or above a bandwidth in nHz (STEER_STATUS.BW_NOW). -/
def bwCode (b : Nat) : Nat := (bwTable.findIdx? (fun t => decide (b ≤ t * 1000))).getD 13

/-- TRACK_BW and ACQ_BW in nHz, before the clamp. -/
def Hw.trackBw (h : Hw) : Nat := h.effN .steerTrackBw * 1000
def Hw.acqBw (h : Hw) : Nat := h.effN .steerAcqBw * 1000

/-- The update rate of the selected reference in Hz (Table 9.2). -/
def Hw.selRate (h : Hw) : Nat :=
  match h.ref.sel with
  | some i =>
    if i.val < 6 then 1
    else if i.val < 10 then 40000
    else if i.val < 14 then (h.ref.ins[i]).rate
    else if i.val < 18 then 64 else 100
  | none => 1

/-- A bandwidth the loop may run at: never wider than one tenth of the update rate (R181). -/
def Hw.clampBw (h : Hw) (b : Nat) : Nat := min b (widestFor h.selRate)

/-- The bandwidth of schedule step `k` from `a` nHz: a * 10^(-k/3) (R183). -/
def schedBw (a k : Nat) : Nat :=
  let f := if k % 3 = 0 then 100000000000 else if k % 3 = 1 then 46415888336 else 21544346900
  a * f / 100000000000 / 10 ^ (k / 3)

/-! ## Oscillator properties (Table 9.4) -/

/-- c_prior in 10^-18 per K. -/
def cPrior (kind : Nat) : Nat := if kind = 0 then 10000000 else if kind = 1 then 5000000 else 1000000
/-- The default floor in 10^-18. -/
def floorDefault (kind : Nat) : Nat := if kind = 0 then 10000000 else if kind = 1 then 1000000 else 500000
/-- The default window in ps. -/
def windowDefault (kind : Nat) : Nat := if kind = 0 then 86400000000000000 else 259200000000000000

/-- The window N in samples (R191). -/
def Hw.windowN (h : Hw) : Nat :=
  (match assoc ⟨.steerTangentWindow, 0, 0⟩ h.sett.mywi, assoc ⟨.steerTangentWindow, 0, 0⟩ h.sett.profile.reverse with
   | none, none => windowDefault h.steer.oscKind
   | _, _ => h.effN .steerTangentWindow) / 64000000000000

/-! ## U_HOLD and the prediction (R196, R197) -/

/-- U_HOLD in ps for a duration and the two integrals of R197, from coefficients held; all ones when none are held
(R515). Rounded up. -/
def uHoldOf (st : SteerSt) (d dev out : Nat) : Nat :=
  match st.fit with
  | none => uncMax
  | some f =>
    let s := auPerSec
    let num := 3 * (f.sigY + st.oscFloor) * d * 17280000 * s + 300 * f.sigA * (d * d) +
      (3 * f.sigC * dev + cPrior st.oscKind * out) * 172800 * s
    min uncMax (ceilDiv num (17280000 * 1000000 * s * s))

/-- The holdover duration d: the time since LOCKED was left. -/
def Hw.holdDur (h : Hw) : Nat := h.time.up - h.time.leftAt

/-- U_HOLD(d) now. -/
def Hw.uHold (h : Hw) : Nat := uHoldOf h.steer h.holdDur h.steer.intDev h.steer.intOut

/-- The distance of a temperature from the learned span. -/
def tempOut (f : TFit) (t : Int) : Nat := if t < f.tmin then (f.tmin - t).toNat else if f.tmax < t then (t - f.tmax).toNat else 0

/-- The frozen model's prediction now, in 10^-18 (R196); with no coefficients held it is 0 (R183). -/
def Hw.yPred (h : Hw) : Int × Hw :=
  match h.steer.fit with
  | none => (0, h)
  | some f =>
    let dt : Int := (h.sec : Int) - h.steer.te
    h.rnd (h.steer.ye * 8640000 + f.a * dt * 100 + f.c * (h.steer.temp - h.steer.tempE) * 86400) 8640000

/-- The fitted model's value now, in 10^-18, while it is not frozen (R178, R183). -/
def Hw.yModel (h : Hw) : Int × Hw :=
  match h.steer.fit with
  | none => (0, h)
  | some f =>
    if h.steer.frozen then h.yPred
    else h.rnd (f.y0 * 8640000 + f.a * ((h.sec : Int) - f.tref) * 100 + f.c * (h.steer.temp - f.tempRef) * 86400) 8640000

/-- Freeze the model at the departure from LOCKED (R196). -/
def Hw.freeze (h : Hw) : Hw :=
  let (y, h) := h.yModel
  { h with steer := { h.steer with
      frozen := true, te := h.sec, tempE := h.steer.temp, ye := y, intDev := 0, intOut := 0 } }

/-- Change MODEL_VALID, raising `tangent.valid` on a change (R193). -/
def Hw.setValid (h : Hw) (v : Bool) (cause : String) : Hw :=
  if h.steer.valid = v then h
  else ({ h with steer := { h.steer with valid := v } }).notice 7 5 "tangent.valid" [("valid", show01 v), ("cause", cause)]

/-! ## Lock -/

/-- The loop reports loss of lock (R184). -/
def Hw.loopUnlock (h : Hw) (cause : String) : Hw :=
  if !h.steer.lock then h
  else
    let h := { h with
      steer := { h.steer with lock := false, smallAt := none }
      time := { h.time with lockLost := true } }
    h.notice 7 1 "steer.unlock" [("cause", cause)]

/-- Hold a called-for frequency to the pull range of 100 ppm: F131 latches and lock is lost (R188). -/
def Hw.pull (h : Hw) (y : Int) : Int × Hw :=
  let lim : Int := 100000000000000
  if -lim ≤ y ∧ y ≤ lim then (y, { h with steer := { h.steer with pullLimit := false } })
  else
    let y' := if y < 0 then -lim else lim
    let h := { h with steer := { h.steer with pullLimit := true } }
    let h := h.notice 7 3 "steer.range" [("freq", fixedDecI 9 y ++ "ppb")]
    (y', (h.fault 3).loopUnlock "range")

/-- Set the bandwidth in use at this instant; R181's clamp raises `steer.bw_clamp` once per selection. -/
def Hw.enterBw (h : Hw) (want step : Nat) : Hw :=
  let used := h.clampBw want
  let narrowed := decide (used < want)
  let h' := { h with steer := { h.steer with bw := used, bwAt := h.time.up, step := step, clamp := narrowed,
                                             smallAt := none } }
  if narrowed && !h.steer.clamp then
    h'.notice 7 2 "steer.bw_clamp" [("set", fixedDec 9 want ++ "Hz"), ("used", fixedDec 9 used ++ "Hz")]
  else h'

/-- Start the acquisition schedule from ACQ_BW with the integrator preloaded (R183). -/
def Hw.startAcquire (h : Hw) : Hw :=
  let (y, h) := h.yModel
  let h := { h with steer := { h.steer with
    integ := y, acquiring := true, lock := false, errs := [], lastUpd := none, predict := false, clamp := false,
    fll := false } }
  h.enterBw h.acqBw 0

/-- R200: the loop runs directly at TRACK_BW; from HOLDOVER (FREE) the integrator is preloaded with y_pred. -/
def Hw.startTrack (h : Hw) (free : Bool) : Hw :=
  let (y, h) := h.yPred
  let h := { h with steer := { h.steer with
    integ := (if free then y else h.steer.integ), acquiring := false, lock := false, lastUpd := none,
    predict := false, clamp := false,
    fll := (match h.ref.sel with | some i => decide (6 ≤ i.val ∧ i.val < 10) | none => false) } }
  h.enterBw h.trackBw 0

/-- Book a measured offset as the amount to slew, replacing the one booked (R186). -/
def Hw.book (h : Hw) (o : Int) : Hw :=
  let d := o * (auPerPs * 1000000000 : Nat)
  { h with steer := { h.steer with delta := d, slewing := decide (d ≠ 0) } }

/-- The booked offset in ps. -/
def Hw.deltaPs (h : Hw) : Int := h.steer.delta / (auPerPs * 1000000000 : Nat)

/-- The magnitude of the booked offset in ps, rounded up. -/
def Hw.deltaAbs (h : Hw) : Nat := ceilDiv h.steer.delta.natAbs (auPerPs * 1000000000)

/-- R186: one trust tick of the slew ramp, at exactly the phase-slope limit, ending at 0. -/
def Hw.rampTick (h : Hw) : Hw :=
  let m : Int := h.steer.slope * auPerTick
  let d := h.steer.delta
  let d' := if 0 < d then max 0 (d - m) else min 0 (d + m)
  { h with steer := { h.steer with delta := d' } }

/-- The new phase-slope limit applies at once while no slew is in progress (R187, R15). -/
def Hw.takeSlope (h : Hw) : Hw :=
  if h.steer.slewing then h
  else { h with steer := { h.steer with slope := h.effN .steerSlope / 1000000000 } }

/-- SLEW_COMPLETE (R186): the ramp has brought the booked offset to 0; a new limit applies from here (R15). -/
def execSlewComplete (s : State) : Host.Outcome State Fault Refusal :=
  s.on (fun h => h.when (h.steer.slewing && decide (h.steer.delta = 0))
    (fun h => ({ h with steer := { h.steer with slewing := false } }).takeSlope))

/-- Keep the phase errors of the last 8 time constants, and of not less than 1 s (Table 1.2, U_LOOP). -/
def Hw.noteErr (h : Hw) (e : Nat) : Hw :=
  let span := psAu (max (tau8 h.steer.bw) 1000000000000)
  let l := ((h.time.up, e) :: h.steer.errs).filter (fun p => decide (h.time.up ≤ p.1 + span))
  { h with steer := { h.steer with errs := l, uloop := l.foldl (fun m p => max m p.2) 0 } }

/-- R183: the loop reports lock after 8 time constants at TRACK_BW with the error small over them and over 1 s. -/
def Hw.lockTest (h : Hw) : Hw :=
  let at_track := !h.steer.acquiring && decide (h.steer.bw = h.clampBw h.trackBw)
  if !h.steer.lock && at_track && h.passed h.steer.bwAt (tau8 h.steer.bw) &&
      h.passedO h.steer.smallAt (max (tau8 h.steer.bw) 1000000000000) then
    let h := { h with steer := { h.steer with lock := true } }
    h.notice 7 0 "steer.lock" [("bw", fixedDec 9 h.steer.bw ++ "Hz")]
  else h

/-- One update of the type-2 loop with damping 1 (R180): the integrator gains omega^2 e dt, with omega = 2 pi B; a
frequency-only reference drives it by its frequency difference, with a gain the spec does not state (R182). The proportional
part and the ramp are held to the slope limit (R187). -/
def Hw.loopStep (h : Hw) (e : Int) (dt : Nat) (fdiff : Int) : Hw :=
  let b := h.steer.bw
  let (inc, h) :=
    if h.steer.fll then
      let (g, h) := h.fresh
      h.rnd (fdiff * g) 1000000000000000000
    else h.rnd (e * (39478417604357434475 * b * b * dt : Nat)) (1000000000000000000 * 1000000000000 * auPerSec)
  let (y, h) := h.pull (h.steer.integ + inc)
  let ramp : Int := if 0 < h.steer.delta then h.steer.slope else if h.steer.delta < 0 then -(h.steer.slope : Int) else 0
  let unit : Int := 1000000000000000000 * 1000000000000
  let prop : Int := if h.steer.fll then 0 else e * (12566370614359172953 * b : Nat)
  { h with steer := { h.steer with
      integ := y, lastUpd := some h.time.up, slopeClamp := decide (h.steer.slope * unit < ((ramp * unit + prop).natAbs : Int)) } }.tcount 0 2

/-- LOOP_UPDATE (R180): the selected reference has delivered a new offset and is not in hold-off. `fdiff` is a
frequency-only reference's frequency minus the Axis clock, in 10^-18. -/
def execLoopUpdate (fdiff : Int) (s : State) : Host.Outcome State Fault Refusal :=
  s.on (fun h =>
    match h.ref.sel with
    | none => h
    | some i =>
      let r := h.ref.ins[i]
      let isNew := match r.ofsAt, h.steer.lastUpd with
        | some t, some u => decide (u < t)
        | some _, none => true
        | none, _ => h.steer.fll
      if !h.time.clockOn || r.st = .holdoff || !(isNew || h.steer.fll) then h
      else
        let e := r.ofs - h.deltaPs
        let dt := match h.steer.lastUpd with
          | some u => h.time.up - u
          | none => auPerSec / h.selRate
        let h := if h.steer.acquiring then h
          else if h.steer.bw = h.clampBw h.trackBw then h else h.enterBw h.trackBw 0
        let h := (h.loopStep e dt fdiff).noteErr e.natAbs
        let lim := h.effN .steerLockErr
        let small := decide (e.natAbs ≤ lim)
        let h := { h with steer := { h.steer with
          smallAt := if small then (match h.steer.smallAt with | some t => some t | none => some h.time.up) else none } }
        if !h.steer.fll && decide (4 * lim < e.natAbs) then h.loopUnlock "error" else h.lockTest)

/-- LOOP_OFFSETS_MISSING (R184): no offset for 8 time constants at TRACK_BW, outside a hold-off. -/
def execLoopOffsetsMissing (s : State) : Host.Outcome State Fault Refusal :=
  s.on (fun h =>
    match h.ref.sel with
    | none => h
    | some i =>
      let r := h.ref.ins[i]
      h.when (decide (r.st ≠ .holdoff) && h.passedO h.steer.lastUpd (tau8 (h.clampBw h.trackBw)))
        (fun h => h.loopUnlock "offsets"))

/-- ACQUISITION_STEP (R183): after 8 time constants at a bandwidth the schedule narrows toward TRACK_BW. -/
def execAcquisitionStep (s : State) : Host.Outcome State Fault Refusal :=
  s.on (fun h => h.when (h.steer.acquiring && h.passed h.steer.bwAt (tau8 h.steer.bw)) (fun h =>
    let k := h.steer.step + 1
    let next := schedBw h.acqBw k
    if h.clampBw h.acqBw ≤ h.trackBw || next ≤ h.trackBw then
      let h := h.enterBw h.trackBw k
      { h with steer := { h.steer with acquiring := false } }
    else h.enterBw next k))

/-! ## The Tangent fit (R191 to R194) -/

/-- The sums of the least-squares fit, relative to the newest sample. -/
structure FitSums where
  n : Int := 0
  t : Int := 0
  u : Int := 0
  tt : Int := 0
  tu : Int := 0
  uu : Int := 0
  y : Int := 0
  yt : Int := 0
  yu : Int := 0
  yy : Int := 0
deriving DecidableEq, Repr

/-- Add one sample at time offset `t` (s) and temperature offset `u` (0.01 K). -/
def FitSums.add (a : FitSums) (t u y : Int) : FitSums :=
  { n := a.n + 1, t := a.t + t, u := a.u + u, tt := a.tt + t * t, tu := a.tu + t * u, uu := a.uu + u * u,
    y := a.y + y, yt := a.yt + y * t, yu := a.yu + y * u, yy := a.yy + y * y }

/-- The square root of a non-negative quotient, exact where it is whole and else rounded as `Hw.rnd` rounds. -/
def Hw.rndSqrt (h : Hw) (num : Int) (den : Int) : Nat × Hw :=
  let r := Nat.sqrt (num / den).toNat
  if (r * r : Int) * den = num then (r, h)
  else (r + (if Config.roundUp h.free then 1 else 0), { h with free := h.free + 1 })

/-- The least-squares fit of R192 over a window, newest sample last. With c estimated it solves the three normal
equations, otherwise two with c = 0 and sigma_c = c_prior. Where the equations are singular or leave no degree of
freedom the spec states no result and the coefficients are free values. -/
def Hw.fitWindow (h : Hw) (l : List TSample) (constT : Bool) : TFit × Hw :=
  match l.getLast? with
  | none => ({}, h)
  | some z =>
    let s := l.foldl (fun (a : FitSums) p => a.add (p.t - z.t) (p.temp - z.temp) p.y) {}
    let tmin := l.foldl (fun m p => min m p.temp) z.temp
    let tmax := l.foldl (fun m p => max m p.temp) z.temp
    let est := !constT && decide (200 ≤ tmax - tmin)
    let c0 := s.tt * s.uu - s.tu * s.tu
    let c1 := s.tu * s.u - s.t * s.uu
    let c2 := s.t * s.tu - s.tt * s.u
    let d3 := s.n * c0 + s.t * c1 + s.u * c2
    let d2 := s.n * s.tt - s.t * s.t
    if est ∧ 0 < d3 ∧ 3 < s.n then
      let k11 := s.n * s.uu - s.u * s.u
      let k12 := s.t * s.u - s.n * s.tu
      let k22 := s.n * s.tt - s.t * s.t
      let b0 := c0 * s.y + c1 * s.yt + c2 * s.yu
      let b1 := c1 * s.y + k11 * s.yt + k12 * s.yu
      let b2 := c2 * s.y + k12 * s.yt + k22 * s.yu
      let ssr := s.yy * d3 - b0 * s.y - b1 * s.yt - b2 * s.yu
      let (y0, h) := h.rnd b0 d3.toNat
      let (a, h) := h.rnd (b1 * 86400) d3.toNat
      let (c, h) := h.rnd (b2 * 100) d3.toNat
      let (sy, h) := h.rndSqrt ssr (d3 * s.n)
      let (sa, h) := h.rndSqrt (ssr * k11 * 86400 * 86400) (d3 * d3 * (s.n - 3))
      let (sc, h) := h.rndSqrt (ssr * k22 * 10000) (d3 * d3 * (s.n - 3))
      ({ y0 := y0, a := a, c := c, sigY := sy, sigA := sa, sigC := sc,
         tmin := tmin, tmax := tmax, tref := z.t, tempRef := z.temp, tcEst := true }, h)
    else if 0 < d2 ∧ 2 < s.n then
      let b0 := s.tt * s.y - s.t * s.yt
      let b1 := s.n * s.yt - s.t * s.y
      let ssr := s.yy * d2 - b0 * s.y - b1 * s.yt
      let (y0, h) := h.rnd b0 d2.toNat
      let (a, h) := h.rnd (b1 * 86400) d2.toNat
      let (sy, h) := h.rndSqrt ssr (d2 * s.n)
      let (sa, h) := h.rndSqrt (ssr * s.n * 86400 * 86400) (d2 * d2 * (s.n - 2))
      ({ y0 := y0, a := a, c := 0, sigY := sy, sigA := sa, sigC := cPrior h.steer.oscKind,
         tmin := tmin, tmax := tmax, tref := z.t, tempRef := z.temp, tcEst := false }, h)
    else
      let (y0, h) := h.fresh
      let (a, h) := h.fresh
      let (sa, h) := h.fresh
      ({ y0 := y0, a := a, c := 0, sigY := 0, sigA := sa, sigC := cPrior h.steer.oscKind,
         tmin := tmin, tmax := tmax, tref := z.t, tempRef := z.temp, tcEst := false }, h)

/-- R193: MODEL_VALID from its conditions. -/
def Hw.modelOk (h : Hw) (n : Nat) (f : TFit) : Bool :=
  decide (h.windowN ≤ n) && decide (f.sigY ≤ h.effN .steerTangentResidMax) && !h.steer.freeRun &&
  decide (h.steer.oscSince + (n - 1) * 64 * auPerSec ≤ h.time.up)

/-- The conditions of R191 hold now. -/
def Hw.tangentCond (h : Hw) : Bool :=
  match h.ref.sel with
  | none => false
  | some i =>
    let r := h.ref.ins[i]
    decide (h.time.trust = .locked) && decide (h.effN .steerTangentMinTql ≤ r.tql) && decide (r.st ≠ .holdoff) &&
      !h.latched 3

/-- R191: each second's T and integrator add to the 64 s interval in progress; a condition that fails ends it. -/
def Hw.tangentAccum (h : Hw) : Hw :=
  if !h.tangentCond then { h with steer := { h.steer with intStart := none, sumY := 0, sumT := 0, sumN := 0 } }
  else
    let start := match h.steer.intStart with
      | some t => t
      | none => h.time.up
    { h with steer := { h.steer with
        intStart := some start, sumY := h.steer.sumY + h.steer.integ, sumT := h.steer.sumT + h.steer.temp,
        sumN := h.steer.sumN + 1 } }

/-- TANGENT_SAMPLE (R191, R192): a whole 64 s interval has met the conditions; a sample is taken and the window is
fitted anew. -/
def execTangentSample (s : State) : Host.Outcome State Fault Refusal :=
  s.on (fun h => h.when (h.tangentCond && h.passedO h.steer.intStart 64000000000000 && decide (0 < h.steer.sumN)) (fun h =>
    let (y, h) := h.rnd h.steer.sumY h.steer.sumN
    let (t, h) := h.rnd h.steer.sumT h.steer.sumN
    let all := h.steer.samples ++ [{ y := y, temp := t, t := (h.sec : Int) - 32 }]
    let l := all.drop (all.length - h.windowN)
    let (f, h) := h.fitWindow l (decide (h.steer.tempSrc = 2))
    let h := { h with steer := { h.steer with
      samples := l, fit := some f, intStart := some h.time.up, sumY := 0, sumT := 0, sumN := 0 } }
    h.setValid (h.modelOk l.length f) "fit"))

/-- HOLDOVER_PREDICT (R196): once per second with no steering reference the synthesiser follows y_pred. -/
def execHoldoverPredict (s : State) : Host.Outcome State Fault Refusal :=
  s.on (fun h => h.when (h.ref.sel.isNone && h.steer.frozen && h.steer.oscOk) (fun h =>
    let (y, h) := h.yPred
    let (y, h) := h.pull y
    { h with steer := { h.steer with predict := true, ypred := y } }))

/-- A change of temperature source empties the window (R195). -/
def Hw.emptyWindow (h : Hw) : Hw :=
  ({ h with steer := { h.steer with samples := [], intStart := none, sumY := 0, sumT := 0, sumN := 0 } }).setValid false
    "source"

/-- Read T from its source (R195): `die` is the on-die sensor, `pmb` the regulator's READ_TEMPERATURE_1 or none when the
read fails; both in 0.01 K. -/
def Hw.readTemp (h : Hw) (die : Int) (pmb : Option Int) : Hw :=
  let src := h.effN .steerTempSource
  let h := if src = h.steer.tempSrc then h
    else ({ h with steer := { h.steer with tempSrc := src, fallback := false } }).emptyWindow
  if src = 2 then h
  else if src = 0 then { h with steer := { h.steer with temp := die } }
  else
    match (if h.latched 16 then none else pmb) with
    | some t =>
      let h := if h.steer.fallback then
          (({ h with steer := { h.steer with fallback := false } }).emptyWindow).notice 7 6 "steer.temp"
            [("source", "pmb")]
        else h
      { h with steer := { h.steer with temp := t } }
    | none =>
      let h := if h.steer.fallback then h
        else (({ h with steer := { h.steer with fallback := true } }).emptyWindow).notice 7 6 "steer.temp"
          [("fallback", "die")]
      { h with steer := { h.steer with temp := die } }

/-- TEMP_READ (R195): once per second. -/
def execTempRead (die : Int) (pmb : Option Int) (s : State) : Host.Outcome State Fault Refusal :=
  s.on (fun h => (h.readTemp die pmb).tangentAccum)

/-- OSC_LOST (R190): OSC_IN has missed 8 cycles while the Axis clock runs. -/
def execOscLost (s : State) : Host.Outcome State Fault Refusal :=
  s.on (fun h => h.when (h.time.clockOn && h.steer.oscOk) (fun h =>
    let h := { h with
      steer := { h.steer with oscOk := false, freeRun := true, samples := [] }
      time := { h.time with unc := uncMax, lost132 := true } }
    ((h.setValid false "osc_lost").notice 7 4 "steer.osc_lost" []).fault 4))

/-- OSC_RETURN (R190): OSC_IN is back and the synthesiser relocks to it without a step. -/
def execOscReturn (s : State) : Host.Outcome State Fault Refusal :=
  s.on (fun h => h.when (h.time.clockOn && !h.steer.oscOk) (fun h =>
    { h with steer := { h.steer with oscOk := true, freeRun := false, oscSince := h.time.up } }))

end Sys2Proof.Machine
end

