-- ==== Sys2Proof/Machine/References.lean ====
section
/-!
DEFINITION. The reference inputs (chapter 8): qualification, loss and hold-off (R166, R167), the quality mappings (R169 to
R173), selection (R174), the cross-check with its demotions (R176 to R179), and their commands.
-/
set_option autoImplicit false

namespace Sys2Proof.Machine

/-! ## Kinds -/

/-- The kinds of Table 8.1. -/
inductive RefKind where
  | gnss | atom | synce | ptp | lat | deck
deriving DecidableEq, Repr

/-- The kind of an input by its index. -/
def refKind (i : Nat) : RefKind :=
  if i < 4 then .gnss else if i < 6 then .atom else if i < 10 then .synce else if i < 14 then .ptp
  else if i < 18 then .lat else .deck

/-- The input carries no time of day (R165; REF_INn_STATUS.FREQ_ONLY). -/
def freqOnly (i : Nat) : Bool := decide (refKind i = .atom ∨ refKind i = .synce)

/-- R165: such an input may be selected only in LOCKED or HOLDOVER. -/
def Hw.kindAllowed (h : Hw) (i : Fin 20) : Bool :=
  !freqOnly i || decide (h.time.trust = .locked ∨ h.time.trust = .holdover)

/-- The input may take part: enabled, and blocks released (R108). -/
def Hw.refOn (h : Hw) (i : Fin 20) : Bool := h.sys.released && h.effB .refInEnable i

/-- A candidate, or one whose hold-off keeps its state (R167). -/
def Hw.isCand (h : Hw) (i : Fin 20) : Bool :=
  let r := h.ref.ins[i]
  (r.st = .candidate || r.st = .holdoff) && decide (1 ≤ r.tql) && h.kindAllowed i && h.refOn i

/-! ## The quality mappings -/

/-- One entry of a GNSS mapping table (R169): conditions on quality, satellites, fix mode and PDOP (tenths), TQL and
U_REF in ps. -/
structure MapEntry where
  q : Option (List Nat) := none
  sats : Option Nat := none
  fix : Option Nat := none
  pdop : Option Nat := none
  tql : Nat := 0
  uref : Nat := 0
deriving DecidableEq, Repr

/-- Split a text at a character. -/
def splitAt (c : Char) : List Char → List (List Char)
  | [] => [[]]
  | x :: r =>
    if x = c then [] :: splitAt c r
    else match splitAt c r with
      | [] => [[x]]
      | w :: ws => (x :: w) :: ws

/-- A decimal number of digits only, at least one. -/
def decNat? (l : List Char) : Option Nat :=
  if l.isEmpty then none
  else l.foldl (fun a c => match a with
    | some n => if c.isDigit then some (n * 10 + (c.toNat - 48)) else none
    | none => none) (some 0)

/-- A decimal number in tenths, with at most one fraction digit. -/
def tenths? (l : List Char) : Option Nat :=
  match splitAt '.' l with
  | [a] => (decNat? a).map (· * 10)
  | [a, [d]] => match decNat? a, decNat? [d] with | some x, some y => some (x * 10 + y) | _, _ => none
  | _ => none

/-- Drop a prefix of a text, when it has it. -/
def dropPre? (p : String) (l : List Char) : Option (List Char) :=
  if p.toList.isPrefixOf l then some (l.drop p.length) else none

/-- The multiplier of a time unit in ps (Table 7.3). -/
def timeUnitPs (u : List Char) : Option Nat :=
  if u = ['p', 's'] then some 1 else if u = ['n', 's'] then some 1000 else if u = ['u', 's'] then some 1000000
  else if u = ['m', 's'] then some 1000000000 else if u = ['s'] then some 1000000000000 else none

/-- An unsigned decimal quantity `digits[.digits]` as numerator and power of ten, with the text after it. -/
def decFrac? (l : List Char) : Option (Nat × Nat × List Char) :=
  let a := l.takeWhile Char.isDigit
  let r := l.drop a.length
  match decNat? a with
  | none => none
  | some x =>
    match r with
    | '.' :: r' =>
      let f := r'.takeWhile Char.isDigit
      match decNat? f with
      | some y => some (x * 10 ^ f.length + y, f.length, r'.drop f.length)
      | none => none
    | _ => some (x, 0, r)

/-- A time quantity in ps, when it is a whole number of them (Table 7.2). -/
def timePs? (l : List Char) : Option Nat :=
  match decFrac? l with
  | some (n, d, u) =>
    match timeUnitPs u with
    | some m => if n * m % 10 ^ d = 0 then some (n * m / 10 ^ d) else none
    | none => none
  | none => none

/-- One condition of Table 8.3 added to an entry. -/
def mapCond (e : MapEntry) (l : List Char) : Option MapEntry :=
  match dropPre? "q=" l with
  | some r =>
    let ns := (splitAt ',' r).map decNat?
    if ns.all Option.isSome then some { e with q := some (ns.filterMap id) } else none
  | none =>
    match dropPre? "sats>=" l with
    | some r => (decNat? r).bind (fun n => if n ≤ 12 then some { e with sats := some n } else none)
    | none =>
      match dropPre? "fix=" l with
      | some r => (decNat? r).bind (fun n => if n = 2 ∨ n = 3 then some { e with fix := some n } else none)
      | none =>
        match dropPre? "pdop<=" l with
        | some r => (tenths? r).bind (fun n => if 5 ≤ n ∧ n ≤ 999 then some { e with pdop := some n } else none)
        | none => none

/-- One entry `<conditions>:<tql>/<u_ref>`. -/
def mapEntry? (l : List Char) : Option MapEntry :=
  match splitAt ':' l with
  | [c, r] =>
    match splitAt '/' r with
    | [t, u] =>
      match decNat? t, timePs? u with
      | some tql, some ps =>
        let conds := if c.isEmpty then [] else splitAt '&' c
        if 15 < tql then none
        else (conds.foldl (fun e x => e.bind (fun e => mapCond e x)) (some {})).map
          (fun e => { e with tql := tql, uref := ps })
      | _, _ => none
    | _ => none
  | _ => none

/-- A whole mapping table, up to 8 entries. -/
def mapTable? (s : String) : Option (List MapEntry) :=
  let es := (splitAt ';' s.toList).map mapEntry?
  if es.length ≤ 8 && es.all Option.isSome then some (es.filterMap id) else none

/-- A sentence received within 3 s. -/
def Hw.fresh3 (h : Hw) (t : Option Nat) : Bool :=
  match t with
  | some t => decide (h.time.up ≤ t + 3 * auPerSec)
  | none => false

/-- All conditions of an entry hold on the latest GGA and GSA (R169). -/
def Hw.entryHolds (h : Hw) (f : GnssFix) (e : MapEntry) : Bool :=
  (match e.q with | some l => h.fresh3 f.ggaAt && l.contains f.q | none => true) &&
  (match e.sats with | some n => h.fresh3 f.ggaAt && decide (n ≤ f.sats) | none => true) &&
  (match e.fix with | some n => h.fresh3 f.gsaAt && decide (f.fix = n) | none => true) &&
  (match e.pdop with | some x => h.fresh3 f.gsaAt && decide (f.pdop ≤ x) | none => true)

/-- The TQL and U_REF of a GNSS input by its table (R169). -/
def Hw.gnssMap (h : Hw) (i : Fin 4) : Nat × Nat :=
  match mapTable? (h.effS .refGnssMap i) with
  | some t =>
    match t.find? (fun e => h.entryHolds (h.ref.ins[(⟨i.val, by omega⟩ : Fin 20)]).fixd e) with
    | some e => (e.tql, e.uref)
    | none => (0, 0)
  | none => (0, 0)

/-- Table 8.5: the TQL and F (ps per 1000 s) of an SSM code under option 1 or 2, or of the extended code. -/
def esmcMap (opt2 : Bool) (ssm : Nat) (ext : Option Nat) : Nat × Nat :=
  match ext with
  | some e =>
    if e = 0x20 ∨ e = 0x21 ∨ e = 0x23 then (9, 1000) else if e = 0x22 then (3, 4600000) else (0, 0)
  | none =>
    if opt2 then
      if ssm = 0x1 then (8, 10000) else if ssm = 0x4 then (5, 1000000) else if ssm = 0x7 then (6, 100000)
      else if ssm = 0xD then (4, 2000000) else if ssm = 0xA ∨ ssm = 0xE then (3, 4600000) else (0, 0)
    else
      if ssm = 0x2 then (8, 10000) else if ssm = 0x4 then (6, 100000) else if ssm = 0x8 then (5, 1000000)
      else if ssm = 0xB then (3, 4600000) else (0, 0)

/-- Table 8.6. -/
def classTql (c : Nat) : Nat :=
  if c = 6 then 11 else if c = 7 ∨ c = 135 then 9 else if c = 13 then 8 else if c = 14 ∨ c = 140 then 7
  else if c = 150 ∨ c = 160 then 5 else 0

/-- The upper bound in ps of a PTP clockAccuracy 0x17 to 0x30 (IEEE 1588-2019 Table 5). -/
def accuracyPs (a : Nat) : Option Nat :=
  if a < 0x17 then none
  else [1, 2, 10, 25, 100, 250, 1000, 2500, 10000, 25000, 100000, 250000, 1000000, 2500000, 10000000, 25000000,
   100000000, 250000000, 1000000000, 2500000000, 10000000000, 25000000000, 100000000000, 250000000000, 1000000000000,
   10000000000000][a - 0x17]?

/-! ## Uncertainty of an input -/

/-- U_PATH of an input in ps: the pin term of Table 11.4 and 100 ps, or 500 ps while the line is UNCAL, for the inputs whose
edges the Caliper stamps (R246); 0 for Lattice and Deckline (R340, R372); for SyncE and PTP the spec states none: free. -/
def Hw.uPath (h : Hw) (i : Fin 20) : Nat :=
  let cal := fun (c : Nat) => if (h.cal.tables.toList.getD c []).isEmpty then 500 else 100
  if i.val < 4 then 2000 + cal (29 + i.val) else if i.val < 6 then 1100 + cal (29 + i.val)
  else if i.val < 14 then Config.pathUnc i.val else 0

/-- U_REF of an input other than SyncE: in a hold-off the last mapped U_REF plus U_HOLD since the last good offset (R167). -/
def Hw.uRef (h : Hw) (i : Fin 20) : Nat :=
  let r := h.ref.ins[i]
  match r.ofsAt with
  | some t => if r.st = .holdoff then r.uref + uHoldOf h.steer (h.time.up - t) h.steer.hoDev h.steer.hoOut else r.uref
  | none => r.uref

/-- U_REF + U_PATH, saturated, as AXIS_UNC and REF_INn_UNC use it; for SyncE U_REF is U_SEL + t F (R171). -/
def Hw.refUnc (h : Hw) (i : Fin 20) : Nat :=
  let r := h.ref.ins[i]
  if refKind i = .synce then
    if h.ref.sel = some i then
      min uncMax (r.selUnc + ceilDiv ((h.time.up - r.selAt) * r.fRate) (1000 * auPerSec) + h.uPath i)
    else uncMax
  else min uncMax (h.uRef i + h.uPath i)

/-! ## Selection (R174) -/

/-- The order of selection: higher TQL, then lower priority, then lower index. -/
def Hw.better (h : Hw) (i j : Fin 20) : Bool :=
  let a := h.ref.ins[i]
  let b := h.ref.ins[j]
  if a.tql ≠ b.tql then decide (b.tql < a.tql)
  else if h.effN .refInPrio i ≠ h.effN .refInPrio j then decide (h.effN .refInPrio i < h.effN .refInPrio j)
  else decide (i < j)

/-- The winner among the candidates. -/
def Hw.winner (h : Hw) : Option (Fin 20) :=
  (List.finRange 20).foldl (fun w i =>
    if !h.isCand i then w
    else match w with
      | none => some i
      | some j => if h.better i j then some i else some j) none

/-- An input's effective TQL rises to its mapped TQL at a selection (R167). -/
def Hw.riseTql (h : Hw) (i : Fin 20) : Hw :=
  let r := h.ref.ins[i]
  if r.st = .candidate ∧ r.tql < r.mapped then
    (h.updRef i (fun r => { r with tql := r.mapped })).notice 6 4 "ref.tql"
      [("in", (refNames[i.val]?).getD ""), ("old", toString r.tql), ("new", toString r.mapped)]
  else h

/-- The name of an optional input. -/
def refName (i : Option (Fin 20)) : String :=
  match i with
  | some i => (refNames[i.val]?).getD ""
  | none => "none"

/-- Publish a selection: `ref.select`, and the change waits for the next trust tick. -/
def Hw.select (h : Hw) (old new : Option (Fin 20)) (lost : Bool) : Hw :=
  let h := { h with ref := { h.ref with sel := new } }
  let h := match new with
    | some i => h.updRef i (fun r => { r with selUnc := h.time.unc, selAt := h.time.up })
    | none => h
  if old = new ∧ ¬ lost then h
  else
    let h := { h with time := { h.time with selChanged := true } }
    let t := match new with | some i => (h.ref.ins[i]).tql | none => 0
    (h.notice 6 2 "ref.select" [("old", refName old), ("new", refName new), ("tql", toString t)]).offConflictTest

/-- Selection (R174). `lost`: the selected input has just been lost or demoted, so that even its own return is a
change. Without an Axis clock nothing is selected (R104). -/
def Hw.runSelection (h : Hw) (old : Option (Fin 20)) (lost : Bool) : Hw :=
  if !h.time.clockOn then h
  else
    let h := (List.finRange 20).foldl (fun h i => h.riseTql i) h
    let keep := match old with
      | some i => !h.effB .refRevertive && h.isCand i && !lost
      | none => false
    let new := if keep then old else h.winner
    if new = old ∧ ¬ lost then h else h.select old new lost

/-! ## Qualification and loss -/

/-- Enough events for Table 8.2. -/
def Hw.qualified (h : Hw) (i : Fin 20) : Bool :=
  let r := h.ref.ins[i]
  match refKind i with
  | .gnss => decide (3 ≤ r.qual)
  | .atom => r.frefOk && r.alock && decide (3 ≤ r.qual)
  | .synce => r.alive && r.lastMsg.isSome && decide (r.freq.natAbs ≤ 4600000000000)
  | .ptp => decide (3 ≤ r.qual) && decide (16 ≤ r.qual2)
  | .lat => r.alive && decide (3 ≤ r.qual)
  | .deck => r.alive && decide (3 ≤ r.qual)

/-- An event is overdue: nothing for `ps` since the last one. -/
def Hw.overdue (h : Hw) (t : Option Nat) (ps : Nat) : Bool :=
  match t with
  | some t => h.passed t ps
  | none => true

/-- The loss condition of Table 8.2 that holds now, if any. -/
def Hw.lossCause (h : Hw) (i : Fin 20) : Option DownCause :=
  let r := h.ref.ins[i]
  if !h.effB .refInEnable i then some .disabled
  else match refKind i with
  | .gnss =>
    if h.overdue r.lastEv 2000100000000 then some .edges
    else if h.overdue r.lastMsg 3000000000000 then some .message
    else if r.mapped = 0 then some .tql else none
  | .atom =>
    if !r.frefOk then some .fref else if !r.alock then some .alock
    else if h.overdue r.lastEv 2000100000000 then some .edges else none
  | .synce =>
    if !r.alive then some .link else if h.overdue r.lastMsg 5000000000000 then some .esmc
    else if r.mapped = 0 then some .tql else none
  | .ptp =>
    if r.qual = 0 then some .parent
    else if h.overdue r.lastMsg (3 * r.annInt) then some .announce
    else if h.overdue r.lastSync (3 * r.syncInt) then some .sync
    else if r.mapped = 0 then some .tql else none
  | .lat =>
    if !r.alive then some .hello else if r.mapped = 0 then some .tql else none
  | .deck =>
    if !r.alive then some .left else if h.overdue r.lastEv 30000000000 then some .beacon
    else if r.mapped = 0 then some .tql else none

/-- A loss condition, or a fall of the mapped TQL below the effective one (not ATOM's fall from 15, R170). -/
def Hw.downCause (h : Hw) (i : Fin 20) : Option DownCause :=
  match h.lossCause i with
  | some c => some c
  | none => if (h.ref.ins[i]).mapped < (h.ref.ins[i]).tql ∧ refKind i ≠ .atom then some .fall else none

/-- An input becomes a candidate: `ref.up` (R166). -/
def Hw.becomeCand (h : Hw) (i : Fin 20) : Hw :=
  let h := h.updRef i (fun r => { r with
    st := .candidate, tql := r.mapped, been := true, wtrAt := none, agreeAt := none, hold := none })
  let r := h.ref.ins[i]
  h.notice 6 0 "ref.up" [("in", refName (some i)), ("tql", toString r.tql), ("unc", showPs 1 (r.uref + h.uPath i))]

/-- R166: a qualifying input with TQL of at least 1 becomes a candidate at once when it has not been one since release,
else it starts its wait-to-restore. -/
def Hw.tryQualify (h : Hw) (i : Fin 20) : Hw :=
  let r := h.ref.ins[i]
  if h.refOn i && (r.st = .absent || r.st = .qualifying) then
    if h.qualified i && decide (1 ≤ r.mapped) && h.kindAllowed i then
      if r.been then h.updRef i (fun r => { r with st := .wtr, wtrAt := some h.time.up }) else h.becomeCand i
    else h.updRef i (fun r => { r with st := .qualifying })
  else h

/-- A loss takes effect (R167): the input must qualify anew. -/
def Hw.loseRef (h : Hw) (i : Fin 20) (c : DownCause) : Hw :=
  let h := h.updRef i (fun r => { r with
    st := (if c = .disabled then .disabled else .absent), tql := 0, qual := 0, qual2 := 0, hold := none, wtrAt := none,
    agreeAt := none })
  let h := h.notice 6 1 "ref.down" [("in", refName (some i)), ("cause", c.name)]
  if h.ref.sel = some i then { h with ref := { h.ref with sel := none } } else h

/-- A loss with selection at once (hold-off expiry; R175, R179). -/
def Hw.loseNow (h : Hw) (i : Fin 20) (c : DownCause) : Hw :=
  let old := h.ref.sel
  (h.loseRef i c).runSelection old (decide (old = some i))

/-- A good offset has been delivered: the condition of a hold-off has cleared when no cause is left (R167). -/
def Hw.deliverOffset (h : Hw) (i : Fin 20) (o : Int) : Hw :=
  let h := h.updRef i (fun r => { r with ofs := o, ofsAt := some h.time.up })
  let r := h.ref.ins[i]
  let h := if r.st = .holdoff ∧ h.downCause i = none then
      h.updRef i (fun r => { r with st := .candidate, hold := none })
    else h
  h.tryQualify i

/-- The steps of Table 8.2 for one on-time edge 1 s after the previous one, within 100 us. -/
def Hw.countEdge (h : Hw) (i : Fin 20) (now : Nat) : Hw :=
  h.updRef i (fun r =>
    let ok := match r.lastEv with
      | some t => decide (t + auPerSec ≤ now + 100 * auPerUs ∧ now ≤ t + auPerSec + 100 * auPerUs)
      | none => false
    { r with lastEv := some now, qual := (if ok then r.qual + 1 else 1) })

/-! ## GNSS (R168, R169) -/

/-- The index of a GNSS input among all. -/
def gnssIn (i : Fin 4) : Fin 20 := ⟨i.val, by omega⟩

/-- The quality mapping is evaluated anew. -/
def Hw.remapGnss (h : Hw) (i : Fin 4) : Hw :=
  let (t, u) := h.gnssMap i
  h.updRef (gnssIn i) (fun r => { r with mapped := t, uref := (if t = 0 then r.uref else u) })

/-- An edge with its label: the offset is the labelled TAI second minus the edge's Axis stamp, after the declared delay
(R21, R176). -/
def Hw.labelled (h : Hw) (i : Fin 4) (now stamp utc : Nat) : Hw :=
  let h := h.countEdge (gnssIn i) now
  let ps : Int := (((utc : Int) + h.taiUtc) * auPerSec - (stamp : Int)) / (auPerPs : Int)
  (h.remapGnss i).deliverOffset (gnssIn i) (ps + h.effI .refGnssDelay i)

/-- GNSS_PPS_EDGE (R168): an on-time edge on GPPSn, `sub` model units after the tick. With `before` a label waits for
it; with `after` it waits for its label. -/
def execGnssPpsEdge (i : Fin 4) (sub : Nat) (s : State) : Host.Outcome State Fault Refusal :=
  s.on (fun h => h.when (h.refOn (gnssIn i) && h.time.clockOn) (fun h =>
    let now := h.time.up + sub
    let stamp := h.time.axis + sub
    if h.effN .refGnssLabel i = 1 then
      match (h.ref.ins[gnssIn i]).label with
      | some (u, t) =>
        let h := h.updRef (gnssIn i) (fun r => { r with label := none })
        if now ≤ t + 900 * auPerMs then h.labelled i now stamp u else h.tryQualify (gnssIn i)
      | none => h.tryQualify (gnssIn i)
    else (h.updRef (gnssIn i) (fun r => { r with edge := some (now, stamp) })).tryQualify (gnssIn i)))

/-- The value of a hexadecimal digit. -/
def hexVal? (c : Char) : Option Nat :=
  if c.isDigit then some (c.toNat - 48)
  else if 'A' ≤ c ∧ c ≤ 'F' then some (c.toNat - 55)
  else if 'a' ≤ c ∧ c ≤ 'f' then some (c.toNat - 87) else none

/-- The fields of an NMEA sentence `$<fields>*<checksum>` of at most 82 characters whose checksum holds (R168). -/
def nmeaFields? (l : List Char) : Option (List (List Char)) :=
  match l with
  | '$' :: r =>
    let body := r.takeWhile (· ≠ '*')
    match r.drop body.length with
    | ['*', a, b] =>
      let x := body.foldl (fun n c => Nat.xor n c.toNat) 0
      match hexVal? a, hexVal? b with
      | some p, some q => if l.length ≤ 82 ∧ p * 16 + q = x then some (splitAt ',' body) else none
      | _, _ => none
    | _ => none
  | _ => none

/-- Two digits at a position of a field. -/
def two? (l : List Char) (k : Nat) : Option Nat := decNat? ((l.drop k).take 2)

/-- The UTC second of `hhmmss[.ss]` on a date. -/
def utcOf? (t : List Char) (y m d : Nat) : Option Nat :=
  match two? t 0, two? t 2, two? t 4 with
  | some hh, some mm, some ss =>
    if validDate y m d ∧ hh < 24 ∧ mm < 60 ∧ ss ≤ 60 then some (dayNumber y m d * 86400 + hh * 3600 + mm * 60 + ss) else none
  | _, _, _ => none

/-- What a sentence gives: a time message's UTC second, GGA or GSA data, or nothing. -/
inductive NmeaMsg where
  | time (utc : Nat)
  | gga (q sats : Nat)
  | gsa (fix pdop : Nat)
  | other
deriving DecidableEq, Repr

/-- Read a checked sentence (R168): ZDA, RMC with status A, GGA, GSA, any talker. -/
def nmeaMsg (f : List (List Char)) : NmeaMsg :=
  let g := fun k => (f[k]?).getD []
  let kind := (g 0).drop 2
  if (g 0).length ≠ 5 then .other
  else if kind = ['Z', 'D', 'A'] then
    match decNat? (g 2), decNat? (g 3), decNat? (g 4) with
    | some d, some m, some y => match utcOf? (g 1) y m d with | some u => .time u | none => .other
    | _, _, _ => .other
  else if kind = ['R', 'M', 'C'] then
    match two? (g 9) 0, two? (g 9) 2, two? (g 9) 4 with
    | some d, some m, some y =>
      if g 2 = ['A'] then match utcOf? (g 1) (2000 + y) m d with | some u => .time u | none => .other else .other
    | _, _, _ => .other
  else if kind = ['G', 'G', 'A'] then
    match decNat? (g 6), decNat? (g 7) with
    | some q, some n => .gga q n
    | _, _ => .other
  else if kind = ['G', 'S', 'A'] then
    match decNat? (g 2) with
    | some x => .gsa x ((tenths? ((splitAt '.' (g 15)).head?.getD [] ++ ['.'] ++
        (((splitAt '.' (g 15)).drop 1).head?.getD ['0']).take 1)).getD 999)
    | none => .other
  else .other

/-- NMEA_SENTENCE (R168): a sentence from GSERn that completes now. A bad one is counted; a time message labels the edge
that waits, or waits for its edge. -/
def execNmeaSentence (i : Fin 4) (text : List Byte) (s : State) : Host.Outcome State Fault Refusal :=
  s.on (fun h => h.when h.sys.released (fun h =>
    match nmeaFields? (text.map (fun b => Char.ofNat b.toNat)) with
    | none => h.updRef (gnssIn i) (fun r => { r with nmeaErr := incSat r.nmeaErr })
    | some f =>
      match nmeaMsg f with
      | .other => h
      | .gga q n => (h.updRef (gnssIn i) (fun r => { r with fixd := { r.fixd with q := q, sats := n, ggaAt := some h.time.up } })).remapGnss i
      | .gsa x p => (h.updRef (gnssIn i) (fun r => { r with fixd := { r.fixd with fix := x, pdop := p, gsaAt := some h.time.up } })).remapGnss i
      | .time u =>
        let h := h.updRef (gnssIn i) (fun r => { r with lastMsg := some h.time.up })
        if h.effN .refGnssLabel i = 1 then h.updRef (gnssIn i) (fun r => { r with label := some (u, h.time.up) })
        else
          match (h.ref.ins[gnssIn i]).edge with
          | some (t, stamp) =>
            let h := h.updRef (gnssIn i) (fun r => { r with edge := none })
            if h.refOn (gnssIn i) ∧ h.time.up ≤ t + 900 * auPerMs then h.labelled i t stamp u else h
          | none => h))

/-! ## ATOM (R170) -/

/-- The index of an ATOM input among all. -/
def atomIn (i : Fin 2) : Fin 20 := ⟨4 + i.val, by omega⟩

/-- ATOM_EDGE (R170): an APPS edge `sub` units after the tick; FREF's frequency over 1 s in units of 10^-9 from 10 MHz, or
FREF missing for 100 cycles (none); or a level of ALOCK. -/
def execAtomEdge (i : Fin 2) (ev : AtomEvent) (s : State) : Host.Outcome State Fault Refusal :=
  s.on (fun h => h.when (h.refOn (atomIn i) && h.time.clockOn) (fun h =>
    match ev with
    | .apps sub =>
      let now := h.time.up + sub
      let h := h.countEdge (atomIn i) now
      let base := h.effN .refAtomTql i
      let h := h.updRef (atomIn i) (fun r => { r with
        mapped := (if r.mapped = 15 then 15 else base), uref := h.effN .refAtomUnc i })
      let stamp : Int := ((h.time.axis + sub : Nat) : Int) / (auPerPs : Int) - h.effI .refAtomDelay i
      let p : Int := stamp % 1000000000000
      h.deliverOffset (atomIn i) (if p ≤ 500000000000 then -p else 1000000000000 - p)
    | .fref none => (h.updRef (atomIn i) (fun r => { r with frefOk := false })).tryQualify (atomIn i)
    | .fref (some d) => (h.updRef (atomIn i) (fun r => { r with frefOk := decide (d.natAbs ≤ 10000) })).tryQualify (atomIn i)
    | .alock lvl =>
      (h.updRef (atomIn i) (fun r => { r with alock := (lvl == decide (h.effN .refAtomLockPol i = 0)) })).tryQualify (atomIn i)))

/-! ## SyncE (R171) and PTP clients (R172) -/

/-- The index of a SyncE input among all. -/
def synceIn (p : Fin 4) : Fin 20 := ⟨6 + p.val, by omega⟩
/-- The index of a PTP client input among all. -/
def ptpIn (p : Fin 4) : Fin 20 := ⟨10 + p.val, by omega⟩

/-- ESMC_PDU (R171): the SSM code and the extended code when the TLV is present; the extended one decides. -/
def execEsmcPdu (p : Fin 4) (ssm : Nat) (ext : Option Nat) (s : State) : Host.Outcome State Fault Refusal :=
  s.on (fun h => h.when h.sys.released (fun h =>
    let (t, f) := esmcMap (h.effB .refSynceOption p) ssm ext
    (h.updRef (synceIn p) (fun r => { r with mapped := t, fRate := f, lastMsg := some h.time.up })).tryQualify (synceIn p)))

/-- PTP_CLIENT_MESSAGE (R172): an Announce of the best master, a Sync, or a completed delay exchange with its offset. -/
def execPtpClientMessage (p : Fin 4) (m : PtpMsg) (s : State) : Host.Outcome State Fault Refusal :=
  s.on (fun h => h.when (h.sys.released && h.time.clockOn) (fun h =>
    let i := ptpIn p
    match m with
    | .announce a =>
      let r := h.ref.ins[i]
      let same := decide (r.parent = some a.parent)
      let t := if (accuracyPs a.accuracy).isSome then classTql a.clockClass else 0
      let u := (accuracyPs a.accuracy).getD 0 + h.effN .refPtpAsymUnc p
      let h := h.updRef i (fun r => { r with
        parent := some a.parent, mapped := t, uref := u, lastMsg := some h.time.up, annInt := a.annInt,
        syncInt := a.syncInt, rate := max 1 (1000000000000 / a.syncInt),
        qual := (if same then r.qual + 1 else if r.parent.isNone then 1 else 0), qual2 := (if same then r.qual2 else 0) })
      let h := h.reportOff i a.utc
      let h := h.refLeap i (if a.leap61 then 1 else if a.leap59 then 2 else 0) none
      h.tryQualify i
    | .sync => h.updRef i (fun r => { r with lastSync := some h.time.up })
    | .exchange o =>
      let h := h.updRef i (fun r => { r with qual2 := r.qual2 + 1, lastEv := some h.time.up })
      h.deliverOffset i o))

/-! ## Loss, hold-off and wait-to-restore -/

/-- REF_DOWN (R167): an input's loss condition or TQL fall is detected and its hold-off starts. -/
def execRefDown (i : Fin 20) (s : State) : Host.Outcome State Fault Refusal :=
  s.on (fun h =>
    match h.downCause i with
    | none => h
    | some c =>
      let r := h.ref.ins[i]
      if r.st = .candidate then
        if c = .disabled then h.loseNow i c
        else
          let h := h.updRef i (fun r => { r with st := .holdoff, hold := some (h.time.up, c) })
          if h.ref.sel = some i then
            { h with steer := { h.steer with hoTemp := h.steer.temp, hoDev := 0, hoOut := 0 } }
          else h
      else if r.st = .wtr then h.updRef i (fun r => { r with st := .absent, qual := 0, qual2 := 0, wtrAt := none })
      else if r.st = .absent ∨ r.st = .qualifying then
        h.updRef i (fun r => { r with st := (if c = .disabled then .disabled else .absent), qual := 0, qual2 := 0 })
      else h)

/-- HOLD_OFF_EXPIRY (R167): the condition is tested first; when it still holds the loss or the fall takes effect and
selection runs at once. -/
def execHoldOffExpiry (i : Fin 20) (s : State) : Host.Outcome State Fault Refusal :=
  s.on (fun h =>
    let r := h.ref.ins[i]
    match r.hold with
    | none => h
    | some (t, _) =>
      h.when (decide (r.st = .holdoff) && h.passed t (h.effN .refInHoldoff i)) (fun h =>
        match h.downCause i with
        | none => h.updRef i (fun r => { r with st := .candidate, hold := none })
        | some .fall =>
          let old := r.tql
          let h := h.updRef i (fun r => { r with st := .candidate, hold := none, tql := r.mapped })
          let h := h.notice 6 4 "ref.tql"
            [("in", refName (some i)), ("old", toString old), ("new", toString r.mapped)]
          h.runSelection h.ref.sel false
        | some c => h.loseNow i c))

/-- WAIT_TO_RESTORE_EXPIRY (R166, R177): a lost input has met its condition, or a demoted one has agreed, for its
wait-to-restore (a demoted one for at least 10 s). -/
def execWaitToRestoreExpiry (i : Fin 20) (s : State) : Host.Outcome State Fault Refusal :=
  s.on (fun h =>
    let r := h.ref.ins[i]
    let w := h.effN .refInWtr i
    h.when ((decide (r.st = .wtr) && h.passedO r.wtrAt w && h.qualified i && decide (1 ≤ r.mapped) && h.kindAllowed i) ||
        (decide (r.st = .demoted) && h.passedO r.agreeAt (max w 10000000000000) && decide (1 ≤ r.mapped) &&
          h.kindAllowed i))
      (fun h => h.becomeCand i))

/-! ## The cross-check (R176 to R179) -/

/-- A voter: an input, or Axis time (none), with its offset and uncertainty. -/
structure Voter where
  who : Option (Fin 20)
  o : Int
  u : Nat
deriving DecidableEq, Repr

/-- The voters (R176). -/
def Hw.voters (h : Hw) : List Voter :=
  let axis := if h.time.trust = .locked ∨ h.time.trust = .holdover then [⟨none, 0, h.time.unc⟩] else []
  axis ++ (List.finRange 20).filterMap (fun i =>
    let r := h.ref.ins[i]
    if h.isCand i && decide (refKind i ≠ .synce) && h.fresh3 (r.ofsAt.map (· + auPerSec))
    then some ⟨some i, r.ofs, h.uRef i + h.uPath i⟩ else none)

/-- Two voters agree. -/
def agrees (lim : Nat) (a b : Voter) : Bool := decide ((a.o - b.o).natAbs ≤ lim + a.u + b.u)

/-- S(v): the voters that agree with v. -/
def agreeSet (lim : Nat) (vs : List Voter) (v : Voter) : List Voter := vs.filter (fun w => w.who = v.who || agrees lim v w)

/-- The winner of R176: Axis time, else the selected input, else a single voter, with the largest set. -/
def xchkWinner (lim : Nat) (sel : Option (Fin 20)) (vs : List Voter) : Option Voter :=
  let size := fun v => (agreeSet lim vs v).length
  let n := vs.foldl (fun m v => max m (size v)) 0
  let top := vs.filter (fun v => size v = n)
  match top.find? (fun v => v.who.isNone) with
  | some v => some v
  | none =>
    match top.find? (fun v => v.who.isSome && v.who = sel) with
    | some v => some v
    | none => match top with | [v] => some v | _ => none

/-- A demotion (R177): TQL 0, state DEMOTED, `ref.xchk`. -/
def Hw.demote (h : Hw) (i : Fin 20) (reason : Nat) (winner : String) (nomajority : Bool) : Hw :=
  let r := h.ref.ins[i]
  let h := h.updRef i (fun r => { r with st := .demoted, tql := 0, reason := reason, agreeAt := none, hold := none })
  let name := if reason = 1 then "phase" else if reason = 2 then "freq" else "seconds"
  let h := h.notice 6 3 "ref.xchk" ([("in", refName (some i)), ("off", showPs 1 r.ofs), ("winner", winner),
    ("reason", name)] ++ (if nomajority then [("nomajority", "1")] else []))
  if h.ref.sel = some i then { h with ref := { h.ref with sel := none } } else h

/-- The name of a winner. -/
def winnerName (w : Option Voter) : String :=
  match w with
  | some ⟨none, _, _⟩ => "axis"
  | some ⟨some i, _, _⟩ => refName (some i)
  | none => "none"

/-- The phase demotions of one cross-check. -/
def Hw.phaseDemotions (h : Hw) : Hw :=
  let lim := h.effN .refXchkLimit
  let vs := h.voters
  let w := xchkWinner lim h.ref.sel vs
  vs.foldl (fun h v =>
    match v.who with
    | none => h
    | some i =>
      match w with
      | some x => if x.who = v.who || agrees lim x v then h else h.demote i 1 (winnerName w) false
      | none => if (agreeSet lim vs v).length = vs.length then h else h.demote i 1 "none" true) h

/-- Demoted inputs go on being measured against the winner (R177). -/
def Hw.agreeTimers (h : Hw) (w : Option Voter) : Hw :=
  let lim := h.effN .refXchkLimit
  (List.finRange 20).foldl (fun (h : Hw) (i : Fin 20) =>
    let r := h.ref.ins[i]
    if r.st ≠ .demoted then h
    else
      let ok := match w with
        | some x => agrees lim x ⟨some i, r.ofs, h.uRef i + h.uPath i⟩ && h.fresh3 (r.ofsAt.map (· + auPerSec))
        | none => false
      h.updRef i (fun r => { r with
        agreeAt := if ok then (match r.agreeAt with | some t => some t | none => some h.time.up) else none })) h

/-- R170: an ATOM input that agrees with a GNSS candidate of TQL 10 or more for 600 s has TQL 15; it falls back at the
first cross-check without one, with no hold-off. -/
def Hw.atomQuality (h : Hw) (i : Fin 2) : Hw :=
  let a := atomIn i
  let r := h.ref.ins[a]
  let lim := h.effN .refXchkLimit
  let va : Voter := ⟨some a, r.ofs, h.uRef a + h.uPath a⟩
  let ok := h.isCand a && (List.finRange 4).any (fun g =>
    let q := h.ref.ins[gnssIn g]
    h.isCand (gnssIn g) && decide (10 ≤ q.tql) && agrees lim va ⟨some (gnssIn g), q.ofs, h.uRef (gnssIn g) + h.uPath (gnssIn g)⟩)
  if ok then
    let since := match r.goodSince with | some t => t | none => h.time.up
    h.updRef a (fun r => { r with
      goodSince := some since, mapped := (if h.passed since 600000000000000 then 15 else r.mapped) })
  else
    let base := h.effN .refAtomTql i
    let h' := h.updRef a (fun r => { r with
      goodSince := none, mapped := (if r.mapped = 15 then base else r.mapped),
      tql := (if r.tql = 15 then base else r.tql) })
    if r.tql = 15 then
      h'.notice 6 4 "ref.tql" [("in", refName (some a)), ("old", "15"), ("new", toString base)]
    else h'

/-- The integrator's history of the last 100 s, one value a second (R178). -/
def Hw.noteFreq (h : Hw) : Hw :=
  { h with steer := { h.steer with freqs := ((h.time.up, h.steer.integ) :: h.steer.freqs).take 100 } }

/-- R178: the frequency demotions. `synce` gives each SyncE candidate's 100 s mean against the Axis clock, in 10^-18. -/
def Hw.freqDemotions (h : Hw) (synce : List (Option Int)) : Hw :=
  let lim := h.effN .refXchkFreq
  let h := (List.finRange 4).foldl (fun h p =>
    match (synce[p.val]?).getD none with
    | some f => if h.isCand (synceIn p) ∧ lim < f.natAbs then h.demote (synceIn p) 2 "axis" false else h
    | none => h) h
  match h.ref.sel with
  | none => h
  | some i =>
    if h.steer.valid ∧ h.steer.freqs.length = 100 then
      let mean := (h.steer.freqs.foldl (fun a p => a + p.2) (0 : Int)) / 100
      let (y, h) := h.yModel
      if lim < (mean - y).natAbs then h.demote i 2 "axis" false else h
    else h

/-- R177 and R21: a UTC-only input whose whole seconds differ from Axis time, once Axis time is set. -/
def Hw.secondsDemotions (h : Hw) : Hw :=
  if h.time.trust = .locked ∨ h.time.trust = .holdover then
    (List.finRange 4).foldl (fun h g =>
      if h.isCand (gnssIn g) ∧ 500000000000 ≤ (h.ref.ins[gnssIn g]).ofs.natAbs then h.demote (gnssIn g) 3 "axis" false
      else h) h
  else h

/-- A disabled input is lost without hold-off at the next selection (R175); one that the trust state does not allow
keeps qualifying (R165). -/
def Hw.dropDisallowed (h : Hw) : Hw :=
  (List.finRange 20).foldl (fun (h : Hw) (i : Fin 20) =>
    let r := h.ref.ins[i]
    if r.st = .candidate ∨ r.st = .holdoff then
      if !h.effB .refInEnable i then h.loseRef i .disabled
      else if !h.kindAllowed i then
        (if h.ref.sel = some i then h.loseRef i .cold
         else h.updRef i (fun r => { r with st := .qualifying, been := false, hold := none }))
      else h
    else if !h.effB .refInEnable i then h.updRef i (fun r => { r with st := .disabled, tql := 0, qual := 0, qual2 := 0 })
    else if r.st = .disabled then h.updRef i (fun r => { r with st := .absent })
    else h) h

/-- AXIS_NS passes 500,000,000 within the coming tick. -/
def Hw.atHalf (h : Hw) : Bool :=
  let p := h.time.axis % auPerSec
  decide (p ≤ auPerSec / 2 ∧ auPerSec / 2 < p + auPerTick)

/-- CROSS_CHECK (R176): at AXIS_NS = 500,000,000 the cross-check, its demotions, then selection (R179). -/
def execCrossCheck (synce : List (Option Int)) (s : State) : Host.Outcome State Fault Refusal :=
  s.on (fun h => h.when (h.time.clockOn && h.sys.released && h.atHalf) (fun h =>
    let old := h.ref.sel
    let h := h.dropDisallowed.noteFreq
    let w := xchkWinner (h.effN .refXchkLimit) h.ref.sel h.voters
    let h := h.agreeTimers w
    let h := (h.secondsDemotions.phaseDemotions).freqDemotions synce
    let h := (h.atomQuality 0).atomQuality 1
    h.runSelection old (decide (old.isSome ∧ h.ref.sel = none))))

end Sys2Proof.Machine
end

