-- ==== Sys2Proof/Machine/Ports.lean ====
section
/-!
DEFINITION. Ethernet ports (chapter 12): modes, lanes and links, time stamps at the MDI, the launch scheduler and the
release of frames, what a port does with a received frame, PTP announce data and ESMC.
-/
set_option autoImplicit false

namespace Sys2Proof.Machine

/-! ## Modes (Table 12.1) -/

/-- Byte time in ps, launch grid in ps, T_EGRESS in ns and the ingress time A of Table 14.3 in ns of a mode (position in
`portModeNames`). Chapter 14 gives A for 100G, 25G and 10G; the two other rates take the next of them. -/
structure ModeRow where
  lanes : List (List Nat)
  bytePs : Nat
  gridPs : Nat
  egress : Nat
  ingress : Nat
deriving DecidableEq, Repr

/-- The lanes of each logical port, by first lane, and the timing of a mode. -/
def modeRow (m : Nat) : ModeRow :=
  let each := [[0], [1], [2], [3]]
  if m = 0 then ⟨[[0, 1, 2, 3]], 80, 640, 96, 153⟩
  else if m = 1 then ⟨[[0, 1], [2, 3]], 160, 1280, 120, 297⟩
  else if m = 2 then ⟨[[0]], 320, 2560, 180, 297⟩
  else if m = 3 then ⟨each, 320, 2560, 180, 297⟩
  else if m = 4 then ⟨[[0]], 800, 6400, 410, 567⟩
  else if m = 5 then ⟨each, 800, 6400, 410, 567⟩
  else if m = 6 then ⟨[[0]], 8000, 16000, 1600, 567⟩
  else if m = 7 then ⟨each, 8000, 16000, 1600, 567⟩
  else ⟨[], 8000, 16000, 1600, 567⟩

/-- The lanes of logical port `k` under a mode; empty when the mode does not provide it. -/
def lpLanes (m k : Nat) : List Nat := ((modeRow m).lanes.find? (fun l => l.head? = some k)).getD []

/-- The mode provides the logical port (R266). -/
def lpExists (m k : Nat) : Bool := decide (lpLanes m k ≠ [])

/-- The logical port that uses a lane. -/
def lpOfLane (m lane : Nat) : Option Nat := ((modeRow m).lanes.find? (fun l => l.contains lane)).bind (·.head?)

/-- The port and the first lane of a logical port number 4 N + K. -/
def lpPort (l : Fin 16) : Fin 4 := ⟨l.val / 4, by omega⟩
def lpLane (l : Fin 16) : Fin 4 := ⟨l.val % 4, by omega⟩

/-- Change one port, one lane, one logical port. -/
def Hw.updPort (h : Hw) (p : Fin 4) (f : Port → Port) : Hw :=
  { h with port := { h.port with p := h.port.p.set p (f h.port.p[p]) } }
def Hw.updLane (h : Hw) (p k : Fin 4) (f : Lane → Lane) : Hw :=
  h.updPort p (fun q => { q with lanes := q.lanes.set k (f q.lanes[k]) })
def Hw.updLp (h : Hw) (l : Fin 16) (f : LPort → LPort) : Hw :=
  h.updPort (lpPort l) (fun q => { q with lps := q.lps.set (lpLane l) (f q.lps[lpLane l]) })

/-- A logical port. -/
def Hw.lp (h : Hw) (l : Fin 16) : LPort := (h.port.p[lpPort l]).lps[lpLane l]
/-- The timing of its mode. -/
def Hw.lpRow (h : Hw) (l : Fin 16) : ModeRow := modeRow (h.port.p[lpPort l]).mode

/-- The notice source of a port (Table 24.1: 11 to 14). -/
def portSrc (p : Fin 4) : Fin 28 := ⟨11 + p.val, by omega⟩

/-- `port.link` (Table 12.7). -/
def Hw.portLink (h : Hw) (p : Fin 4) (lane : Nat) (state : String) : Hw :=
  h.notice (portSrc p) 0 "port.link" [("port", "p" ++ toString p.val), ("lane", toString lane), ("state", state)]

/-- The receive and the transmit island of a port (Table 3.1). -/
def rxIsland (p : Fin 4) : Fin 48 := ⟨4 + 2 * p.val, by omega⟩
def txIsland (p : Fin 4) : Fin 48 := ⟨3 + 2 * p.val, by omega⟩

/-! ## Links (R256, R264) -/

/-- Every lane of a logical port is up. -/
def Port.lpUp (q : Port) (k : Nat) : Bool :=
  decide (lpLanes q.mode k ≠ []) && (lpLanes q.mode k).all (fun n => match q.lanes.toList[n]? with
    | some l => decide (l.st = .up)
    | none => false)

/-- A lane is in use: its port is released, not off and not changing its mode. -/
def Hw.laneUsed (h : Hw) (p k : Fin 4) : Bool :=
  let q := h.port.p[p]
  h.sys.released && h.domUp .port && (lpOfLane q.mode k).isSome

/-- SIGNAL_DETECT (R264). -/
def execSignalDetect (p k : Fin 4) (s : State) : Host.Outcome State Fault Refusal :=
  s.on (fun h => h.when (h.laneUsed p k && decide (((h.port.p[p]).lanes[k]).st = .down)) (fun h =>
    (h.updLane p k (fun l => { l with st := .signal })).portLink p k "signal"))

/-- The recovered clock of a SyncE input comes from its lane: its link's state is the input's (R171). -/
def Hw.synceLink (h : Hw) (p k : Fin 4) (up : Bool) : Hw :=
  if h.effN .refSynceLane p = k.val then h.updRef (synceIn p) (fun r => { r with alive := up, lastMsg := none }) else h

/-- LINK_UP (R264): the lane's deskew in ps and the phase of its transmit block boundaries in model units are measured
anew; its markers start over. -/
def execLinkUp (p k : Fin 4) (skew phase : Nat) (s : State) : Host.Outcome State Fault Refusal :=
  s.on (fun h => h.when (h.laneUsed p k && decide (((h.port.p[p]).lanes[k]).st = .signal)) (fun h =>
    let h := h.updLane p k (fun l => { l with
      st := .up, retries := 0, skew := skew, phase := phase, rxMarks := [], txMarks := [], markAt := none })
    ((h.portLink p k "up").synceLink p k true).tryQualify (synceIn p)))

/-- A logical port loses its link or its readiness: what waits in its launch queue is dropped as PORT_LINK_DROP (R258),
preemption must be verified anew. -/
def Hw.lpDrop (h : Hw) (l : Fin 16) : Hw :=
  let q := h.lp l
  let n := q.books.length + q.plain.length
  let h := h.updPort (lpPort l) (fun r => { r with
    preemptOk := false, linkDrop := BitVec.ofNat 32 (satAdd max32 r.linkDrop.toNat n) })
  let h := h.tcount (portUnit (lpPort l)) 10 n
  h.updLp l (fun q => { q with ready := false, books := [], plain := [], busy := 0 })

/-- The logical port number of port `p`, first lane `k`. -/
def lpNo (p : Fin 4) (k : Nat) : Fin 16 := ⟨4 * p.val + k % 4, by omega⟩

/-- The PTP client of a port is on a logical port that is ready for time stamps. -/
def Hw.clientReady (h : Hw) (p : Fin 4) : Bool :=
  (List.finRange 4).any (fun k => decide (h.effN .lpPtpRole p k = 1) && ((h.port.p[p]).lps[k]).ready)

/-- A link drops on a lane. -/
def Hw.laneDown (h : Hw) (p k : Fin 4) : Hw :=
  let m := (h.port.p[p]).mode
  let h := h.updLane p k (fun l => { l with st := .down, rxMarks := [], txMarks := [], markAt := none })
  let h := match lpOfLane m k with
    | some n => h.lpDrop (lpNo p n)
    | none => h
  (h.portLink p k "down").synceLink p k false

/-- LINK_DOWN (R258). -/
def execLinkDown (p k : Fin 4) (s : State) : Host.Outcome State Fault Refusal :=
  s.on (fun h => h.when (decide (((h.port.p[p]).lanes[k]).st = .up)) (fun h => h.laneDown p k))

/-- LINK_RETRY (R264): a lane that is not up starts over, every 1 s. -/
def execLinkRetry (p k : Fin 4) (s : State) : Host.Outcome State Fault Refusal :=
  s.on (fun h => h.when (h.laneUsed p k && decide (((h.port.p[p]).lanes[k]).st ≠ .up)) (fun h =>
    let old := ((h.port.p[p]).lanes[k]).st
    let h := h.updLane p k (fun l => { l with st := .down, retries := l.retries + 1 })
    if old = .down then h else h.portLink p k "down"))

/-- The 256 refinement samples of both streams of a lane, taken since link-up (R255, R256). -/
def Lane.refined (l : Lane) : Bool := decide (256 ≤ l.rxMarks.length ∧ 256 ≤ l.txMarks.length)

/-- TS_READY (R256): link, deskew, refinement samples and islands are all there. -/
def execTsReady (l : Fin 16) (s : State) : Host.Outcome State Fault Refusal :=
  s.on (fun h =>
    let q := h.port.p[lpPort l]
    let k := lpLane l
    h.when (h.domUp .port && !(h.lp l).ready && q.lpUp k && h.islandOk (rxIsland (lpPort l)) &&
        h.islandOk (txIsland (lpPort l)) &&
        (lpLanes q.mode k).all (fun n => match q.lanes.toList[n]? with | some x => x.refined | none => false))
      (fun h => (h.updLp l (fun q => { q with ready := true })).portLink (lpPort l) k "ts_ready"))

/-- PCS_MARKER (R247): `diff` is the Caliper stamp minus the island's own stamp of the marker, in ps; a stamp marked
INVALID (R242) is not used. The refinement value is the mean of the receive stream's last 256. -/
def execPcsMarker (p k : Fin 4) (tx : Bool) (diff : Int) (s : State) : Host.Outcome State Fault Refusal :=
  s.on (fun h => h.when (decide (((h.port.p[p]).lanes[k]).st = .up) && h.islandOk 39 && h.cal.dll.toList[3]?.getD false)
    (fun h =>
      let h := h.updLane p k (fun l =>
        if tx then { l with txMarks := (diff :: l.txMarks).take 256, markAt := some h.time.up }
        else { l with rxMarks := (diff :: l.rxMarks).take 256, markAt := some h.time.up })
      if tx then h
      else
        let m := ((h.port.p[p]).lanes[k]).rxMarks
        let (r, h) := h.rnd (m.foldl (· + ·) 0) m.length
        h.updLane p k (fun l => { l with refine := r })))

/-- PORT_REFINE (R256): a lane without markers for 1 s takes its logical port out of TS_READY. -/
def execPortRefine (p k : Fin 4) (s : State) : Host.Outcome State Fault Refusal :=
  s.on (fun h =>
    let q := h.port.p[p]
    match lpOfLane q.mode k with
    | none => h
    | some n =>
      h.when ((h.lp (lpNo p n)).ready && h.overdue (q.lanes[k]).markAt 1000000000000) (fun h =>
        (h.updLp (lpNo p n) (fun q => { q with ready := false })).notice (portSrc p) 2 "port.refine"
          [("port", "p" ++ toString p.val), ("lane", toString k.val)]))

/-! ## Time stamps at the MDI (R253) -/

/-- otp_rx + skew_rx + rx_delay in ps. -/
def Hw.planeRx (h : Hw) (p k : Fin 4) : Nat :=
  let q := h.port.p[p]
  Config.otpNat ("otp_rx." ++ toString q.mode ++ "." ++ toString k.val) + (q.lanes[k]).skew +
    h.effN .lpRxDelay p ((lpOfLane q.mode k).getD 0)

/-- otp_tx + tx_delay in ps. -/
def Hw.planeTx (h : Hw) (p k : Fin 4) : Nat :=
  let q := h.port.p[p]
  Config.otpNat ("otp_tx." ++ toString q.mode ++ "." ++ toString k.val) +
    h.effN .lpTxDelay p ((lpOfLane q.mode k).getD 0)

/-- The MDI receive stamp, in model units of Axis time, of an island stamp. -/
def Hw.mdiRx (h : Hw) (p k : Fin 4) (stamp : Nat) : Int :=
  (stamp : Int) + (((h.port.p[p]).lanes[k]).refine - (h.planeRx p k : Int)) * auPerPs

/-- A PTP time as whole nanoseconds and the remainder in units of 2^-16 ns (R261). -/
def ptpSplit (t : Nat) : Nat × Nat := (t / auPerNs, t % auPerNs / auPerFrac)

/-! ## The launch scheduler (R257, R291) -/

/-- The first point of the grid `phase + k g` at or after `e`. -/
def gridUp (phase g e : Nat) : Nat :=
  if g = 0 then e
  else if e ≤ phase then phase - (phase - e) / g * g
  else phase + ceilDiv (e - phase) g * g

/-- The earliest grid point from which an interval of length `dur` keeps clear of all `taken` (start, end), with `m` on
either side. -/
def placeFrame (phase g dur m : Nat) (taken : List (Nat × Nat)) : Nat → Nat → Nat
  | 0, e => gridUp phase g e
  | n + 1, e =>
    let t := gridUp phase g e
    match taken.find? (fun b => decide (t < b.2 + m ∧ b.1 < t + dur + m)) with
    | none => t
    | some b => placeFrame phase g dur m taken n (b.2 + m)

/-- Book a frame of `len` bytes at or after `e` on a logical port (R257, R291): its instant. -/
def Hw.reserve (h : Hw) (l : Fin 16) (e len : Nat) (urgent : Bool) : Nat :=
  let r := h.lpRow l
  let q := h.lp l
  let phase := ((h.port.p[lpPort l]).lanes[lpLane l]).phase
  let m := if urgent then 0 else psAu (148 * r.bytePs)
  let taken := q.books.map (fun b => (b.at_, b.at_ + b.dur))
  placeFrame phase (psAu r.gridPs) (psAu ((len + 20) * r.bytePs)) m taken (taken.length + 1) (max e q.busy)

/-- Put a booking into a port's list. -/
def Hw.bookOn (h : Hw) (l : Fin 16) (b : Booking) : Hw := h.updLp l (fun q => { q with books := q.books ++ [b] })

/-- The booking with the earliest instant. -/
def firstBook (l : List Booking) : Option Booking :=
  l.foldl (fun m b => match m with
    | none => some b
    | some a => if b.at_ < a.at_ then some b else some a) none

/-- Preemption is active (R259). -/
def Hw.preemptActive (h : Hw) (p : Fin 4) : Bool := h.effB .portPPreempt p && (h.port.p[p]).preemptOk

/-- R259: the frames without a reservation that may start now are sent. -/
def Hw.drainPlain (h : Hw) (l : Fin 16) : Nat → Hw
  | 0 => h
  | n + 1 =>
    let q := h.lp l
    match q.plain with
    | [] => h
    | (len, m) :: rest =>
      let dur := psAu ((len + 20) * (h.lpRow l).bytePs)
      let start := max h.time.axis q.busy
      let fits := match firstBook q.books with
        | some b => decide (start + dur ≤ b.at_)
        | none => true
      if fits || h.preemptActive (lpPort l) then
        (((h.updLp l (fun q => { q with plain := rest, busy := start + (if fits then dur else 0) })).send l start m).tcount
          (portUnit (lpPort l)) 4 len).drainPlain l n
      else h

/-- Send a frame without a reservation. -/
def Hw.sendPlain (h : Hw) (l : Fin 16) (len : Nat) (m : Msg) : Hw :=
  let h := h.updLp l (fun q => { q with plain := q.plain ++ [(len, m)] })
  h.drainPlain l (h.lp l).plain.length

/-- PREEMPT_VERIFY (R259). -/
def execPreemptVerify (p : Fin 4) (ok : Bool) (s : State) : Host.Outcome State Fault Refusal :=
  s.on (fun h => h.when (h.domUp .port && h.effB .portPPreempt p) (fun h =>
    (h.updPort p (fun q => { q with preemptOk := ok })).notice (portSrc p) 3 "port.preempt"
      [("port", "p" ++ toString p.val), ("verified", show01 ok)]))

/-! ## Mode changes (R265) -/

/-- A port is changing its mode. -/
def Hw.portChanging (h : Hw) : Bool := h.port.p.toList.any (fun q => q.change.isSome)

/-- Steps 3 and 4 of R265: the link drops, the lanes are reconfigured. -/
def Hw.startMode (h : Hw) (p : Fin 4) (m : Nat) : Hw :=
  let h := (List.finRange 4).foldl (fun (h : Hw) (k : Fin 4) =>
    if ((h.port.p[p]).lanes[k]).st = .up then h.laneDown p k else h.lpDrop (lpNo p k)) h
  h.updPort p (fun q => { q with
    mode := m, change := some (m, h.time.up), lanes := Vector.replicate 4 {} })

/-- PORT_MODE (R265): the port is ready, or its training has given up after 10 retries. A port turned off is done at
once. -/
def execPortMode (p : Fin 4) (s : State) : Host.Outcome State Fault Refusal :=
  s.on (fun h =>
    let q := h.port.p[p]
    let ready := (modeRow q.mode).lanes.all (fun l => match l.head? with
      | some k => (q.lps.toList[k]?.map (fun x => x.ready)).getD false
      | none => true)
    let gaveUp := q.lanes.toList.any (fun l => decide (10 ≤ l.retries))
    h.when (q.change.isSome && (ready || gaveUp)) (fun h =>
      (h.updPort p (fun q => { q with change := none })).notice (portSrc p) 1 "port.mode"
        [("port", "p" ++ toString p.val), ("mode", (portModeNames[q.mode]?).getD "off"),
         ("result", if ready then "ok" else "failed")]))

/-! ## Announce data and ESMC (R262, R263) -/

/-- The clock class of Table 1.5 and of Table 12.4. -/
def Hw.clockClass (h : Hw) (profile : Nat) : Nat :=
  if profile = 0 then
    match h.time.trust with
    | .locked => 6 | .holdover => 7 | .adrift => 187 | _ => 248
  else
    match h.time.trust with
    | .locked => 6
    | .holdover => if h.time.unc ≤ h.effN .portPtpHoldoverSpec then 7 else 140
    | _ => 248

/-- The smallest clockAccuracy that bounds AXIS_UNC. -/
def clockAccuracy (unc : Nat) : Nat :=
  match (List.range 26).find? (fun k => match accuracyPs (0x17 + k) with
    | some b => decide (unc ≤ b)
    | none => false) with
  | some k => 0x17 + k
  | none => 0xFE

/-- The flag of the armed leap is shown from 12:00:00 UTC of its day. -/
def Hw.leapFlag (h : Hw) (insert : Bool) : Bool :=
  match h.time.leap with
  | some l => decide (l.insert = insert) && decide (l.at_ ≤ h.sec + (if insert then 43201 else 43199))
  | none => false

/-- Table 12.4 for a profile, at this trust tick. -/
def Hw.announceData (h : Hw) (profile : Nat) : AnnounceOut :=
  let good := decide (h.time.trust = .locked ∨ h.time.trust = .holdover)
  { clockClass := h.clockClass profile, accuracy := clockAccuracy h.time.unc,
    variance := if h.time.trust = .locked then 0x4E5D else 0xFFFF,
    prio1 := h.effN .portPtpPriority1, prio2 := h.effN .portPtpPriority2,
    timeSource := (match h.ref.sel with
      | some i => (match refKind i with | .gnss => 0x20 | .atom => 0x10 | .ptp => 0x40 | _ => 0x90)
      | none => 0xA0),
    traceable := good, utc := h.taiUtc, utcValid := decide (h.offSrc.2 ≠ 0) && good,
    leap61 := h.leapFlag true, leap59 := h.leapFlag false }

/-- Table 12.5: the QL a port sends, and its extended QL. -/
def Hw.qlOf (h : Hw) (p : Fin 4) : Nat × Option Nat :=
  let opt2 := decide (h.effN .refSynceOption p = 1)
  let dnu : Nat × Option Nat := (0xF, none)
  if h.ref.sel = some (synceIn p) then dnu
  else match h.time.trust with
    | .locked =>
      if 12 ≤ h.activeTql then ((if opt2 then 0x1 else 0x2), some 0x20)
      else if 8 ≤ h.activeTql then ((if opt2 then 0x1 else 0x2), none)
      else ((if opt2 then 0xA else 0xB), none)
    | .holdover => ((if opt2 then 0xA else 0xB), none)
    | _ => dnu

/-- Send an ESMC PDU on the port's first logical port. -/
def Hw.sendEsmc (h : Hw) (p : Fin 4) (event : Bool) : Hw :=
  let q := h.qlOf p
  (h.updPort p (fun r => { r with ql := some q })).sendPlain (lpNo p 0) 64 (.esmc event q.1 q.2)

/-- The port sends ESMC: SyncE transmission is on and its link is up. -/
def Hw.esmcOn (h : Hw) (p : Fin 4) : Bool := h.domUp .port && h.effB .portPSynceTx p && (h.port.p[p]).lpUp 0

/-- ESMC_INFORMATION_PDU (R263): once per second. -/
def execEsmcInformationPdu (p : Fin 4) (s : State) : Host.Outcome State Fault Refusal :=
  s.on (fun h => h.when (h.esmcOn p) (fun h => h.sendEsmc p false))

/-- ESMC_EVENT_PDU (R263): an event PDU for each port whose QL has changed. -/
def Hw.esmcEvents (h : Hw) : Hw :=
  (List.finRange 4).foldl (fun (h : Hw) (p : Fin 4) =>
    if h.esmcOn p && decide ((h.port.p[p]).ql ≠ some (h.qlOf p)) then h.sendEsmc p true else h) h

/-! ## Received frames (R249, R251) -/

/-- A big-endian number of `n` bytes at offset `o` of a frame. -/
def beAt (f : List Byte) (o n : Nat) : Nat := beNat ((f.drop o).take n)

/-- A logical port holds an IPv4 or IPv6 address (settings are stored as address, prefix length, ...). -/
def everyOther : List Nat → List Nat
  | a :: _ :: r => a :: everyOther r
  | l => l
def Hw.holds4 (h : Hw) (l : Fin 16) (a : Nat) : Bool := (everyOther (h.effL .lpIpv4 (lpPort l) (lpLane l))).contains a
def Hw.holds6 (h : Hw) (l : Fin 16) (a : Nat) : Bool := (everyOther (h.effL .lpIpv6 (lpPort l) (lpLane l))).contains a

/-- The tags of a frame: the VLAN ID if any, and the offset of the EtherType; none for a tagging the port does not
take. -/
def frameTags (f : List Byte) : Option (Option Nat × Nat) :=
  if beAt f 12 2 = 0x8100 then some (some (beAt f 14 2 % 4096), 16)
  else if beAt f 12 2 = 0x88A8 then
    (if beAt f 16 2 = 0x8100 then some (some (beAt f 18 2 % 4096), 20) else none)
  else some (none, 12)

/-- The VLAN is one the logical port takes. -/
def Hw.vlanOk (h : Hw) (l : Fin 16) (v : Option Nat) : Bool :=
  match v with
  | none => true
  | some v => (h.effL .lpVlan (lpPort l) (lpLane l)).contains v

/-- A tunnelled Lattice link uses this logical port and VLAN (R345; `lat.lN.via` is port, lane, VID). -/
def Hw.tunnelOf (h : Hw) (l : Fin 16) (v : Option Nat) : Bool :=
  (List.range 4).any (fun n => match h.effL .latLVia n with
    | [p, k, vid] => decide (p = (lpPort l).val ∧ k = (lpLane l).val ∧ v = some vid)
    | _ => false)

/-- The PTP multicast addresses of IEEE 1588-2019 Annexes C and D, which a logical port with a PTP role receives (R260). -/
def ptpGroup4 (a : Nat) : Bool := decide (a = 0xE0000181 ∨ a = 0xE000006B)
def ptpGroup6 (a : Nat) : Bool :=
  decide (a / 2 ^ 116 = 0xFF0 ∧ a % 2 ^ 112 = 0x181 ∨ a = 0xFF02 * 2 ^ 112 + 0x6B)
def Hw.ptpHears (h : Hw) (l : Fin 16) (proto dport : Nat) : Bool :=
  decide (h.effN .lpPtpRole (lpPort l) (lpLane l) ≠ 2 ∧ proto = 17 ∧ (dport = 319 ∨ dport = 320))

/-- Where an IP packet for the port's address goes: `proto`, the destination port, and for ICMP the type. -/
def ipDest (proto dport icmp : Nat) : RxDest :=
  if proto = 17 then
    (if dport = 123 ∨ dport = 319 ∨ dport = 320 then .pronghorn else if dport = 4862 then .seal else .none)
  else if proto = 6 then (if dport = 4460 then .warden else .none)
  else if proto = 1 then (if icmp = 8 then .slow else .none)
  else if proto = 58 then (if icmp = 128 ∨ icmp = 135 then .slow else .none)
  else .none

/-- The classification of R251: where a frame goes, `none` for a discard that PORT_PARSE_DROP counts. -/
def Hw.classify (h : Hw) (l : Fin 16) (f : List Byte) : RxDest :=
  match frameTags f with
  | none => .none
  | some (v, o) =>
    if !h.vlanOk l v then .none
    else
      let ty := beAt f o 2
      let b := o + 2
      if ty = 0x0800 then
        if beAt f b 1 ≠ 0x45 then .none
        else if beAt f (b + 6) 2 % 16384 ≠ 0 then .none
        else if !(h.holds4 l (beAt f (b + 16) 4) ||
          (ptpGroup4 (beAt f (b + 16) 4) && h.ptpHears l (beAt f (b + 9) 1) (beAt f (b + 22) 2))) then .none
        else ipDest (beAt f (b + 9) 1) (beAt f (b + 22) 2) (beAt f (b + 20) 1)
      else if ty = 0x86DD then
        let nh := beAt f (b + 6) 1
        if nh ≠ 17 ∧ nh ≠ 6 ∧ nh ≠ 58 then .none
        else
          let icmp := beAt f (b + 40) 1
          let target := if nh = 58 ∧ icmp = 135 then beAt f (b + 48) 16 else beAt f (b + 24) 16
          if !(h.holds6 l target || (ptpGroup6 target && h.ptpHears l nh (beAt f (b + 42) 2))) then .none else ipDest nh (beAt f (b + 42) 2) icmp
      else if ty = 0x0806 then (if h.holds4 l (beAt f (b + 24) 4) then .slow else .none)
      else if ty = 0x88F7 then (if beAt f b 1 % 16 = 13 then .none else .pronghorn)
      else if ty = 0x8809 then .warden
      else if ty = 0x88B5 ∧ h.tunnelOf l v then .tunnel
      else .none

/-- FRAME_RECEIVE (R249, R251, R253): a frame whose timestamp point was stamped in the receive island `sub` model units
after the tick. A frame with an uncorrectable codeword or an FCS error is discarded before any consumer sees it; pause
frames are discarded. -/
def execFrameReceive (l : Fin 16) (f : List Byte) (sub : Nat) (fecOk fcsOk : Bool) (s : State) :
    Host.Outcome State Fault Refusal :=
  s.on (fun h =>
    let p := lpPort l
    if !(h.domUp .port && (h.port.p[p]).lpUp (lpLane l)) then h
    else if !fecOk then (h.updPort p (fun q => { q with fecUncorr := incSat q.fecUncorr })).tcount (portUnit p) 6
    else if !fcsOk then (h.updPort p (fun q => { q with fcsErr := incSat q.fcsErr })).tcount (portUnit p) 5
    else if beAt f 12 2 = 0x8808 then h
    else
      let h := (h.tcount (portUnit p) 1).tcount (portUnit p) 2 f.length
      let rx := h.mdiRx p (lpLane l) (h.time.axis + sub)
      let big := decide (f.length < 64 ∨ 9216 < f.length)
      let d := if big then RxDest.none else h.classify l f
      let h := { h with port := { h.port with rx := some (l.val, d, rx) } }
      match d with
      | .none => (h.updPort p (fun q => { q with parseDrop := incSat q.parseDrop })).tcount (portUnit p) 7
      | .slow => h.sendPlain l f.length (.slow (beAt f 12 2))
      | _ => h)

end Sys2Proof.Machine
end

