-- ==== Sys2Proof/Machine/Pronghorn.lean ====
section
/-!
DEFINITION. Pronghorn (chapters 13 and 14): distribution, admission, the client table and its rate limits, NTP and NTS
replies, PTP responses and unicast grants, caches, policy banks and the NTS key ring, and the release of replies.
-/
set_option autoImplicit false

namespace Sys2Proof.Machine

/-! ## Settings of the policy banks (R287) -/

/-- A policy setting as a request stamped at `t` sees it: the staged bank from its switch instant on. -/
def Hw.polN (h : Hw) (t : Nat) (p : PathId) (i : Nat := 0) : Nat :=
  match h.prong.switch with
  | some (at_, ch) =>
    if at_ ≤ t then (match assoc ⟨p, i, 0⟩ ch with | some (.nat n) => n | _ => h.effN p i) else h.effN p i
  | none => h.effN p i

/-- A prefix rule as a request stamped at `t` sees it: family, address, length, class. -/
def Hw.polRule (h : Hw) (t : Nat) (i : Nat) : List Nat :=
  match h.prong.switch with
  | some (at_, ch) =>
    if at_ ≤ t then (match assoc ⟨.prongRule, i, 0⟩ ch with | some (.nats l) => l | some _ => [] | none => h.effL .prongRule i)
    else h.effL .prongRule i
  | none => h.effL .prongRule i

/-! ## Addresses and distribution (R267) -/

/-- A client's key and family (R281). -/
def addrKey : Addr → Option (Bool × Nat)
  | .v4 a => some (false, a)
  | .v6 a => some (true, a / 18446744073709551616)
  | .mac _ => none

/-- The bytes of an address. -/
def addrBytes : Addr → List Byte
  | .v4 a => beBytes 4 a
  | .v6 a => beBytes 16 a
  | .mac a => beBytes 6 a

/-- The IP header of an address family. -/
def addrIpLen : Addr → Nat
  | .v4 _ => 20
  | .v6 _ => 40
  | .mac _ => 0

/-- A group serves a request stamped at `t`: it is in `prong.groups` and not being reloaded. -/
def Hw.groupServes (h : Hw) (t : Nat) (g : Nat) : Bool :=
  (h.effL .prongGroups).contains g &&
    (match h.prong.reload with
     | some (r, at_) => decide (r.val ≠ g ∨ t < at_)
     | none => true)

/-- The pipelines in service for a request stamped at `t`. -/
def Hw.pipesAt (h : Hw) (t : Nat) : List (Fin 16) := (List.finRange 16).filter (fun q => h.groupServes t (q.val / 4))

/-- The pipeline of a distribution bucket: its own, or, while that is out of service, round-robin over the pipelines in
service. -/
def Hw.bucketPipe (h : Hw) (t : Nat) (b : Nat) : Option (Fin 16) :=
  let home : Fin 16 := ⟨b % 16, Nat.mod_lt _ (by decide)⟩
  let l := h.pipesAt t
  if l.contains home then some home
  else
    let rank := ((List.range b).filter (fun c => !l.any (fun q => q.val = c % 16))).length
    l[rank % l.length]?

/-- The pipeline of a request. -/
def Hw.pipeOf (h : Hw) (t : Nat) (a : Addr) (udp : Nat) : Option (Fin 16) :=
  h.bucketPipe t (Config.spreadHash 0 (addrBytes a ++ beBytes 2 udp) % 256)

/-- Change one pipeline. -/
def Hw.updPipe (h : Hw) (q : Fin 16) (f : Pipe → Pipe) : Hw :=
  { h with prong := { h.prong with pipes := h.prong.pipes.set q (f h.prong.pipes[q]) } }

/-- Count one event of Table 13.7 in a group. -/
def Hw.pcount (h : Hw) (g : Fin 4) (k : Fin 18) : Hw :=
  { h with prong := { h.prong with
      cnt := h.prong.cnt.set g ((h.prong.cnt[g]).set k (incSat (h.prong.cnt[g])[k])) } }.tcount (grpUnit g) (k.val + 1)

/-- The group of a pipeline; of the grant scheduler's messages, the lowest group in service. -/
def Hw.groupOf (h : Hw) (q : Option (Fin 16)) : Fin 4 :=
  match q with
  | some q => ⟨q.val / 4, by omega⟩
  | none => match (h.pipesAt h.time.axis).head? with
    | some q => ⟨q.val / 4, by omega⟩
    | none => 0

/-- Requests of a pipeline in flight at `t` (R268): admitted and not yet handed over. -/
def Hw.inflight (h : Hw) (q : Fin 16) (t : Nat) : Nat :=
  (h.port.p.toList.map (fun (p : Port) => (p.lps.toList.map (fun (l : LPort) =>
    (l.books.filter (fun b => decide (b.pipe = some q ∧ t < b.handAt))).length)).sum)).sum

/-! ## The client table (R281 to R284) -/

/-- An entry of Table 13.4. -/
structure ClientEntry where
  key : Nat := 0
  flags : Nat := 0
  cls : Nat := 0
  tokens : Nat := 0
  last : Nat := 0
  kodUntil : Nat := 0
  crp : Nat := 0
  cnt : Nat := 0
deriving DecidableEq, Repr

def ClientEntry.bytes (e : ClientEntry) : List Byte :=
  leBytes 8 e.key ++ leBytes 1 e.flags ++ leBytes 1 e.cls ++ leBytes 2 0 ++ leBytes 4 e.tokens ++ leBytes 4 e.last ++
  leBytes 4 e.kodUntil ++ leBytes 4 e.crp ++ leBytes 4 e.cnt

def ClientEntry.ofBytes (l : List Byte) : ClientEntry :=
  let at_ := fun o n => leNat ((l.drop o).take n)
  { key := at_ 0 8, flags := at_ 8 1, cls := at_ 9 1 % 64, tokens := at_ 12 4, last := at_ 16 4, kodUntil := at_ 20 4,
    crp := at_ 24 4, cnt := at_ 28 4 }

def ClientEntry.valid (e : ClientEntry) : Bool := e.flags % 2 = 1
def ClientEntry.af (e : ClientEntry) : Bool := e.flags / 2 % 2 = 1
def ClientEntry.static (e : ClientEntry) : Bool := e.flags / 4 % 2 = 1

/-- The bucket of a key (PRONG_HASH): 25 bits. -/
def Hw.bucketOf (h : Hw) (af : Bool) (key : Nat) : Nat :=
  Config.bucketHash h.prong.hashKey af (leBytes 8 key) % 33554432

/-- The offset of a way. -/
def wayAt (b w : Nat) : Nat := 64 * b + 32 * w

/-- The entry in a way; one with an uncorrectable error counts as absent (R62). -/
def Hw.entryAt (h : Hw) (a : Nat) : ClientEntry :=
  if h.poisonedAt a 32 then {} else ClientEntry.ofBytes (h.peekN a 32)

/-- The offset of the entry of a key, if the table holds one. -/
def Hw.findClient (h : Hw) (af : Bool) (key : Nat) : Option Nat :=
  let b := h.bucketOf af key
  [wayAt b 0, wayAt b 1].find? (fun a =>
    let e := h.entryAt a
    e.valid && decide (e.af = af ∧ e.key = key))

/-- Times of the table: units of 1,024 ns, modulo 2^32. -/
def tableTime (t : Nat) : Nat := t / (1024 * auPerNs) % 4294967296
/-- `a - b` modulo 2^32. -/
def tableSince (a b : Nat) : Nat := (a + 4294967296 - b % 4294967296) % 4294967296

/-- The way a transient entry takes (R282): one that is not VALID or cannot be read, else the non-STATIC way with the
older LAST; none when both are STATIC. -/
def Hw.victim (h : Hw) (af : Bool) (key t : Nat) : Option Nat :=
  let b := h.bucketOf af key
  let a0 := wayAt b 0
  let a1 := wayAt b 1
  let e0 := h.entryAt a0
  let e1 := h.entryAt a1
  if !e0.valid then some a0
  else if !e1.valid then some a1
  else if e0.static then (if e1.static then none else some a1)
  else if e1.static then some a0
  else if tableSince (tableTime t) e0.last < tableSince (tableTime t) e1.last then some a1 else some a0

/-- Write an entry in one atomic operation. -/
def Hw.putEntry (h : Hw) (a : Nat) (e : ClientEntry) : Hw := (h.writeStore a e.bytes).tcount 16 5

/-- The class of the longest matching prefix rule, else 0 (R282). -/
def Hw.ruleClass (h : Hw) (t : Nat) (a : Addr) : Nat :=
  let m := (List.range 64).foldl (fun (m : Option (Nat × Nat)) i =>
    match h.polRule t i with
    | [af, p, len, c] =>
      let hit := match a with
        | .v4 x => decide (af = 0 ∧ x / 2 ^ (32 - len) = p / 2 ^ (32 - len))
        | .v6 x => decide (af = 1 ∧ x / 2 ^ (128 - len) = p / 2 ^ (128 - len))
        | .mac _ => false
      if hit then (match m with
        | some (l, _) => if l < len then some (len, c) else m
        | none => some (len, c)) else m
    | _ => m) none
  match m with
  | some (_, c) => c
  | none => 0

/-- Evict what is due from a pipeline's cache, and find an entry (R285). -/
def cacheLook (now : Nat) (l : List CacheEntry) (af : Bool) (key : Nat) : List CacheEntry × Option CacheEntry :=
  let l := l.filter (fun e => decide (now < e.fetched + 1048576 * auPerNs))
  (l, l.find? (fun e => decide (e.af = af ∧ e.key = key)))

/-- Put an entry at the head of a cache of 64 entries. -/
def cachePut (l : List CacheEntry) (e : CacheEntry) : List CacheEntry :=
  (e :: l.filter (fun x => !decide (x.af = e.af ∧ x.key = e.key))).take 64

/-- Look a client up through a pipeline's cache: its flags, class and CRP key handle as the pipeline sees them. -/
def Hw.lookup (h : Hw) (q : Fin 16) (t : Nat) (a : Addr) : Option CacheEntry × Hw :=
  match addrKey a with
  | none => (none, h)
  | some (af, key) =>
    let (l, e) := cacheLook t (h.prong.pipes[q]).cache af key
    match e with
    | some e => (some e, (h.updPipe q (fun p => { p with cache := cachePut l e })).tcount (grpUnit ⟨q.val / 4, by omega⟩) 21)
    | none =>
      let h := h.tcount (grpUnit ⟨q.val / 4, by omega⟩) 22
      match h.findClient af key with
      | none => (none, h.updPipe q (fun p => { p with cache := l }))
      | some o =>
        let c := h.entryAt o
        let e : CacheEntry := { af := af, key := key, flags := c.flags, cls := c.cls, crp := c.crp, fetched := t }
        (some e, h.updPipe q (fun p => { p with cache := cachePut l e }))

/-- The transient entry that a lookup inserted is cached like any other (R282, R285). -/
def Hw.cacheNew (h : Hw) (q : Fin 16) (t : Nat) (a : Addr) : Hw :=
  match addrKey a with
  | none => h
  | some (af, key) =>
    match h.findClient af key with
    | none => h
    | some o =>
      let c := h.entryAt o
      h.updPipe q (fun p => { p with
        cache := cachePut p.cache { af := af, key := key, flags := c.flags, cls := c.cls, crp := c.crp, fetched := t } })

/-- The class of a request (R282). -/
def Hw.classOf (h : Hw) (t : Nat) (a : Addr) (e : Option CacheEntry) : Nat :=
  match e with
  | some e => if e.flags / 4 % 2 = 1 then e.cls else h.ruleClass t a
  | none => h.ruleClass t a

/-- What stage 3 decides. -/
inductive Rate where
  | serve | drop | kod
deriving DecidableEq, Repr

/-- The atomic update of a client's entry (R282 to R284) for a request of class `c` at `t`. -/
def Hw.rateUpdate (h : Hw) (g : Fin 4) (t : Nat) (a : Addr) (c : Nat) : Rate × Hw :=
  match addrKey a with
  | none => (.serve, h)
  | some (af, key) =>
    let burst := h.polN t .prongClassBurst c
    let now := tableTime t
    let found := h.findClient af key
    let slot := match found with
      | some o => some (o, h.entryAt o)
      | none => (h.victim af key t).map (fun o =>
          (o, { key := key, flags := 1 + 2 * b2n af, tokens := burst * 1024, last := now }))
    match slot with
    | none => (.serve, h.pcount g 8)
    | some (o, e) =>
      let e := { e with cnt := satAdd max32 e.cnt 1 }
      if h.polN t .prongClassUrgent c = 1 then (.serve, h.putEntry o { e with last := now })
      else
        let gain := h.polN t .prongClassRate c * tableSince now e.last * 1048576 / 1000000000
        let tok := min (burst * 1024) (e.tokens + gain)
        let e := { e with last := now }
        if 1024 ≤ tok then (.serve, h.putEntry o { e with tokens := tok - 1024 })
        else
          let e := { e with tokens := tok }
          match h.polN t .prongClassOver c with
          | 0 => (.serve, h.putEntry o e)
          | 1 => (.drop, h.putEntry o e)
          | _ =>
            if e.kodUntil = 0 ∨ tableSince now e.kodUntil < 2147483648 then
              (.kod, h.putEntry o { e with kodUntil := (now + h.polN t .prongClassKodHold c / 1024000) % 4294967296 })
            else (.drop, h.putEntry o e)

/-! ## NTP replies (R274, R275) -/

/-- An Axis instant in NTP form: seconds and fraction, with the smear, and 23:59:59 repeated in an inserted second. -/
def Hw.ntpTime (h : Hw) (t : Nat) : Nat :=
  let q := t / auPerFrac * auPerFrac
  let rep : Int := match h.time.leap with
    | some l => if l.insert && h.time.smear.isNone && decide (l.at_ ≤ secOf t + 1 ∧ secOf t < l.at_) then 1 else 0
    | none => 0
  let u := (q : Int) - h.smearedOff t + (2208988800 - rep) * auPerSec
  let s := (u / auPerSec % 4294967296).toNat
  s * 4294967296 + (u % auPerSec).toNat * 4294967296 / auPerSec

/-- The reference that sets the stratum: the selected one, in HOLDOVER (FREE) the one of the last LOCKED tick. -/
def Hw.stratumRef (h : Hw) : Option (Fin 20) :=
  match h.ref.sel with
  | some i => some i
  | none => h.prong.lastSel

/-- Stratum and reference ID of Table 13.3 in LOCKED and HOLDOVER. -/
def stratumId (i : Option (Fin 20)) : Nat × String :=
  match i with
  | none => (16, "INIT")
  | some i => match refKind i with
    | .gnss => (1, "GNSS") | .atom => (1, "ATOM") | .ptp => (2, "PTP") | .lat => (2, "LATT") | .deck => (2, "DECK")
    | .synce => (2, "SYNE")

/-- Root dispersion: AXIS_UNC in units of 2^-16 s, rounded up, saturating. -/
def rootDispersion (unc : Nat) : Nat := min max32 (ceilDiv (unc * 65536) 1000000000000)

/-- A reply's fields for a request, the transmit instant `tx` (Table 13.3). -/
def Hw.ntpReply (h : Hw) (r : NtpReq) (rx tx : Nat) : NtpReply :=
  let good := decide (h.time.trust = .locked ∨ h.time.trust = .holdover)
  let (st, id) := stratumId h.stratumRef
  { dst := r.src, udp := r.udp, li := if good then h.leapInd else 3, vn := r.version,
    stratum := if good then st else 16, poll := r.poll,
    dispersion := if good then rootDispersion h.time.unc else max32,
    refId := if good then id else if h.time.trust = .adrift then "DRFT" else "INIT",
    refTs := if good then
        (match h.steer.lastUpd with
         | some u => h.ntpTime (h.time.axis - (h.time.up - u))
         | none => 0) else 0,
    org := r.txTs, rx := h.ntpTime rx, tx := h.ntpTime tx }

/-- The 48 bytes of a reply, with precision -30 and root delay 0. -/
def NtpReply.bytes (r : NtpReply) : List Byte :=
  beBytes 1 (r.li * 64 + r.vn * 8 + 4) ++ beBytes 1 (r.stratum % 256) ++ beBytes 1 r.poll ++ beBytes 1 226 ++ beBytes 4 0 ++
  beBytes 4 r.dispersion ++ padTo 4 (asciiBytes r.refId) ++ beBytes 8 r.refTs ++ beBytes 8 r.org ++ beBytes 8 r.rx ++
  beBytes 8 r.tx

/-! ## One time request through a pipeline -/

/-- The length of an NTP frame with `n` bytes of UDP payload. -/
def ntpFrame (a : Addr) (tags n : Nat) : Nat := 26 + tags + addrIpLen a + n

/-- Stages 6 to 8 of a normal-lane or an urgent reply: the instant is reserved, the reply built with it and booked. -/
def Hw.bookReply (h : Hw) (l : Fin 16) (q : Fin 16) (rx e len handAt : Nat) (urgent : Bool) (m : Nat → Msg) : Hw :=
  let at_ := h.reserve l e len urgent
  h.bookOn l { at_ := at_, dur := psAu ((len + 20) * (h.lpRow l).bytePs), msg := m at_, pipe := some q, urgent := urgent,
               handAt := handAt, rx := rx }

/-- The measure of urgent latency (PRONG_URGi). -/
def Hw.noteUrgent (h : Hw) (l : Fin 16) (rx at_ len : Nat) (deep : Bool) : Hw :=
  h.updLp l (fun q => { q with
    maxNs := if len ≤ 128 then max q.maxNs (min 65535 (ceilDiv (at_ - rx) auPerNs)) else q.maxNs
    deep := if deep then min 65535 (q.deep + 1) else q.deep })

/-- The urgent lane of a pipeline (R270, R272, Table 14.1): t_r and E of an operation whose request was stamped at `rx`,
whether more than one operation was ahead, and the pipeline with its slot taken for 96 cycles. -/
def Hw.urgentSlot (h : Hw) (l q : Fin 16) (rx : Nat) : Nat × Bool × Hw :=
  let r := h.lpRow l
  let arr := rx + r.ingress * auPerNs
  let start := max arr (h.prong.pipes[q]).urgent
  let deep := decide (arr + 96 * auPerNs < (h.prong.pipes[q]).urgent)
  (start + (74 + 14 + r.egress + 2) * auPerNs, deep, h.updPipe q (fun p => { p with urgent := start + 96 * auPerNs }))

/-- W and the admission test of R271 for a normal-lane request of `cost` cycles stamped at `rx`. -/
def Hw.admits (h : Hw) (l q : Fin 16) (rx cost : Nat) : Bool :=
  let r := h.lpRow l
  let now := rx + r.ingress * auPerNs
  let w := (h.prong.pipes[q]).busy - now
  decide (now + w + (cost + 96 + r.egress + 14) * auPerNs ≤ rx + h.polN rx .prongLaunchLead * auPerPs)

/-- The pipeline's work after an admitted request. -/
def Hw.takeWork (h : Hw) (l q : Fin 16) (rx cost : Nat) : Hw :=
  let now := rx + (h.lpRow l).ingress * auPerNs
  h.updPipe q (fun p => { p with busy := max now p.busy + cost * auPerNs })

/-- The causes that keep a request from the pipeline: not ready, invalid stamp, a warm restart (R289). -/
def Hw.portDrop (h : Hw) (l : Fin 16) : Option (Fin 18) :=
  if !(h.lp l).ready then some 5
  else if !h.islandOk (rxIsland (lpPort l)) then some 6
  else if !h.prong.serving then some 9
  else none

/-- Serve a reply on its lane: `build` makes the message from the transmit instant, `len` is the frame's length. -/
def Hw.serveOn (h : Hw) (l q : Fin 16) (rx cost len : Nat) (urgent : Bool) (build : Hw → Nat → Msg) : Hw :=
  let h := { h with pwr := { h.pwr with servedAt := some h.time.up } }
  let h := h.tcount (grpUnit ⟨q.val / 4, by omega⟩) (if urgent then 20 else 19)
  if urgent then
    let (e, deep, h) := h.urgentSlot l q rx
    let h' := h.bookReply l q rx e len (e - ((h.lpRow l).egress + 2) * auPerNs) true (build h)
    h'.noteUrgent l rx (h.reserve l e len true) len deep
  else
    let h := h.takeWork l q rx cost
    h.bookReply l q rx (rx + h.polN rx .prongLaunchLead * auPerPs) len (h.prong.pipes[q]).busy false (build h)

/-- A Kiss-o'-Death: stratum 0 and its code. -/
def NtpReply.kod (r : NtpReply) (code : String) : NtpReply := { r with stratum := 0, refId := code }

/-- The key of an epoch that the ring holds and accepts: e, e - 1 and e - 2 (R277). -/
def Hw.ringKey (h : Hw) (epoch : Nat) : Option Nat :=
  if epoch ≤ h.prong.epoch ∧ h.prong.epoch ≤ epoch + 2 then assoc epoch h.prong.ring else none

/-- What the cookie yields: C2S and S2C, when it can be opened (R276, R277). -/
def Hw.openCookie (h : Hw) (c : List Byte) : Option (Nat × Nat) :=
  if c.length ≠ 100 then none
  else match h.ringKey (beNat (c.take 4)) with
    | some k => if Config.aeadOpens k c then some (Config.cookieKeys k c) else none
    | none => none

/-- NTP_REQUEST and NTS_REQUEST past the port (R268 to R276, R282 to R289). -/
def Hw.timeRequest (h : Hw) (l q : Fin 16) (r : NtpReq) (nts : Option NtsPart) : Hw :=
  let g := h.groupOf (some q)
  let rx := h.time.axis + r.sub
  if (r.version ≠ 3 ∧ r.version ≠ 4) ∨ r.mode ≠ 3 ∨ r.mac ∨ (nts.isSome ∧ h.sys.runMode = 3) then h.pcount g 11
  else
  let (e, h) := h.lookup q rx r.src
  let c := h.classOf rx r.src e
  let urgent := decide (h.polN rx .prongClassUrgent c = 1)
  let cost := match nts with
    | some n => 250 + 24 * min 7 n.placeholders
    | none => 133
  if nts.isNone ∧ h.polN rx .prongClassNtsRequire c = 1 then h.pcount g 12
  else if (if urgent then 256 else 252) ≤ h.inflight q rx then h.pcount g 14
  else if ¬ urgent ∧ ¬ h.admits l q rx cost then h.pcount g 15
  else
    let (rate, h) := h.rateUpdate g rx r.src c
    let h := if e.isNone then h.cacheNew q rx r.src else h
    match nts with
    | none =>
      let len := ntpFrame r.src r.tags 48
      match rate with
      | .drop => h.pcount g 7
      | .kod => h.serveOn l q rx cost len urgent (fun h tx => .ntp ((h.ntpReply r rx tx).kod "RATE"))
      | .serve => h.serveOn l q rx cost len urgent (fun h tx => .ntp (h.ntpReply r rx tx))
    | some n =>
      match h.openCookie n.cookie with
      | none =>
        if rate = .drop then h.pcount g 7
        else
          h.serveOn l q rx cost (ntpFrame r.src r.tags (52 + n.uid.length)) urgent
            (fun h tx => .ntp { (h.ntpReply r rx tx).kod "NTSN" with uid := n.uid })
      | some (c2s, s2c) =>
        if !Config.aeadOpens c2s n.packet then (if rate = .drop then h.pcount g 7 else h.pcount g 13)
        else match rate with
          | .drop => h.pcount g 7
          | .kod =>
            h.serveOn l q rx cost (ntpFrame r.src r.tags (92 + n.uid.length)) urgent (fun h tx =>
              let y := (h.ntpReply r rx tx).kod "RATE"
              .ntp { y with uid := n.uid, sealed_ := some (Config.aeadSeal s2c (y.bytes ++ n.uid)) })
          | .serve =>
            let k := 1 + min 7 n.placeholders
            h.serveOn l q rx cost (ntpFrame r.src r.tags (92 + n.uid.length + 104 * k)) urgent (fun h tx =>
              let y := h.ntpReply r rx tx
              .ntp { y with uid := n.uid, cookies := k, keyId := h.prong.epoch,
                            sealed_ := some (Config.aeadSeal s2c (y.bytes ++ n.uid)) })

/-- A request arrives at a logical port: the port's own drops, then its pipeline. -/
def Hw.request (h : Hw) (l : Fin 16) (sub : Nat) (a : Addr) (udp : Nat) (f : Hw → Fin 16 → Hw) : Hw :=
  if !(h.domUp .port && h.domUp .pipe) then h
  else
    let rx := h.time.axis + sub
    match h.pipeOf rx a udp with
    | none => h
    | some q =>
      match h.portDrop l with
      | some k => h.pcount (h.groupOf (some q)) k
      | none => f h q

/-- NTP_REQUEST (R273). -/
def execNtpRequest (l : Fin 16) (r : NtpReq) (s : State) : Host.Outcome State Fault Refusal :=
  s.on (fun h => h.request l r.sub r.src r.udp (fun h q => h.timeRequest l q r none))

/-- NTS_REQUEST (R276). -/
def execNtsRequest (l : Fin 16) (r : NtpReq) (n : NtsPart) (s : State) : Host.Outcome State Fault Refusal :=
  s.on (fun h => h.request l r.sub r.src r.udp (fun h q => h.timeRequest l q r (some n)))

/-! ## PTP (R260, R261, R279, R280) -/

/-- The logical port is a PTP master. -/
def Hw.isMaster (h : Hw) (l : Fin 16) : Bool := decide (h.effN .lpPtpRole (lpPort l) (lpLane l) = 0)

/-- Serve a PTP request on the urgent lane: dropped as UNSUPP_DROP on a port that is no master, as FULL_DROP when no place
is free. -/
def Hw.ptpRequest (h : Hw) (l : Fin 16) (r : PtpReq) (build : Nat → Nat → Msg) : Hw :=
  h.request l r.sub r.src r.udp (fun h q =>
    let g := h.groupOf (some q)
    let rx := h.time.axis + r.sub
    if !h.isMaster l then h.pcount g 11
    else if 256 ≤ h.inflight q rx then h.pcount g 14
    else h.serveOn l q rx 100 r.len true (fun _ tx => build rx tx))

/-- DELAY_REQ (R279): Delay_Resp carries mdi_rx. -/
def execDelayReq (l : Fin 16) (r : PtpReq) (s : State) : Host.Outcome State Fault Refusal :=
  s.on (fun h => h.ptpRequest l r (fun rx _ => .delayResp r.src r.seq (ptpSplit rx).1 (ptpSplit rx).2))

/-- PDELAY_REQ (R279): in one step the correction adds L - mdi_rx; in two, Pdelay_Resp carries mdi_rx and a follow-up its
own mdi_tx. -/
def execPdelayReq (l : Fin 16) (r : PtpReq) (s : State) : Host.Outcome State Fault Refusal :=
  s.on (fun h =>
    let two := decide (h.effN .lpPtpStep (lpPort l) (lpLane l) = 1)
    h.ptpRequest l r (fun rx tx =>
      if two then .pdelayResp r.src r.seq true (ptpSplit rx).1 (ptpSplit rx).2
      else .pdelayResp r.src r.seq false 0 ((tx - rx) / auPerFrac)))

/-- A unicast grant in force for a peer and a message type. -/
def Hw.granted (h : Hw) (l : Nat) (a : Addr) (kind : Nat) : Bool :=
  h.prong.grants.any (fun g => decide (g.lp = l ∧ g.dst = a ∧ g.kind = kind ∧ h.time.up < g.ends))

/-- The port may send PTP to `dst`: it is a serving master, and a unicast peer holds a grant. -/
def Hw.ptpMaySend (h : Hw) (l : Fin 16) (dst : Option Addr) (kind : Nat) : Bool :=
  h.domUp .port && h.domUp .pipe && h.isMaster l && (h.lp l).ready && h.prong.serving &&
    (match dst with | some a => h.granted l.val a kind | none => true)

/-- PTP_SYNC_SEND (R279): the Sync reserves its scheduled time, `sub` model units after the tick, as E. -/
def execPtpSyncSend (l : Fin 16) (dst : Option Addr) (sub : Nat) (s : State) : Host.Outcome State Fault Refusal :=
  s.on (fun h => h.when (h.ptpMaySend l dst 1) (fun h =>
    let e := h.time.axis + sub
    let len := 64
    let at_ := h.reserve l e len false
    let one := decide (h.effN .lpPtpStep (lpPort l) (lpLane l) = 0)
    h.bookOn l { at_ := at_, dur := psAu ((len + 20) * (h.lpRow l).bytePs),
                 msg := .sync dst one (if one then (ptpSplit at_).1 else 0) (if one then (ptpSplit at_).2 else 0) }))

/-- PTP_ANNOUNCE_SEND (R262): the data of the trust tick that governs its launch. -/
def execPtpAnnounceSend (l : Fin 16) (dst : Option Addr) (sub : Nat) (s : State) : Host.Outcome State Fault Refusal :=
  s.on (fun h => h.when (h.ptpMaySend l dst 0) (fun h =>
    let len := 78
    let at_ := h.reserve l (h.time.axis + sub) len false
    h.bookOn l { at_ := at_, dur := psAu ((len + 20) * (h.lpRow l).bytePs), timed := false,
                 msg := .announce dst (h.announceData (h.effN .lpPtpProfile (lpPort l) (lpLane l))) }))

/-- Grants the engine may hold: 4,096 for each group in service (R280). -/
def Hw.grantCap (h : Hw) : Nat := 4096 * ((List.range 4).filter (fun g => h.groupServes h.time.axis g)).length

/-- REQUEST_UNICAST_TRANSMISSION (R280): `kind` 0 Announce, 1 Sync, 2 Delay_Resp; duration in s. -/
def execRequestUnicastTransmission (l : Fin 16) (a : Addr) (kind : Nat) (period : Int) (dur : Nat) (s : State) :
    Host.Outcome State Fault Refusal :=
  s.on (fun h => h.when (h.domUp .port && h.domUp .pipe && h.isMaster l && (h.lp l).ready && h.prong.serving &&
      decide (h.effN .lpPtpProfile (lpPort l) (lpLane l) ≠ 1)) (fun h =>
    let inRange := if kind = 0 then decide (-3 ≤ period ∧ period ≤ 3) else decide (-7 ≤ period ∧ period ≤ 0)
    let others := h.prong.grants.filter (fun g => !decide (g.lp = l.val ∧ g.dst = a ∧ g.kind = kind))
    let renew := decide (others.length < h.prong.grants.length)
    if inRange && decide (10 ≤ dur ∧ dur ≤ 1000 ∧ kind < 3) && (renew || decide (h.prong.grants.length < h.grantCap)) then
      let g : Grant := { lp := l.val, dst := a, kind := kind, period := period, ends := h.time.up + dur * auPerSec }
      ({ h with prong := { h.prong with grants := others ++ [g] } }).sendPlain l 64 (.grant a kind dur)
    else (h.pcount (h.groupOf none) 17).sendPlain l 64 (.grant a kind 0)))

/-- CANCEL_UNICAST_TRANSMISSION (R280). -/
def execCancelUnicastTransmission (l : Fin 16) (a : Addr) (kind : Nat) (s : State) : Host.Outcome State Fault Refusal :=
  s.on (fun h => h.when (h.domUp .port && h.domUp .pipe && h.isMaster l && (h.lp l).ready && h.prong.serving) (fun h =>
    ({ h with prong := { h.prong with
        grants := h.prong.grants.filter (fun g => !decide (g.lp = l.val ∧ g.dst = a ∧ g.kind = kind)) } }).sendPlain l 64
      (.ackCancel a kind)))

/-- GRANT_EXPIRY (R280): grants whose duration has passed end. -/
def execGrantExpiry (s : State) : Host.Outcome State Fault Refusal :=
  s.on (fun h => { h with prong := { h.prong with
    grants := h.prong.grants.filter (fun g => decide (h.time.up < g.ends)) } })

/-! ## Release (R258, R272) -/

/-- LATE_DROP (R272): counted once; `prong.late` at most once per second. -/
def Hw.lateDrop (h : Hw) (l : Fin 16) (b : Booking) : Hw :=
  let h := h.pcount (h.groupOf b.pipe) 16
  let due := match h.prong.lateAt with
    | some t => h.passed t 1000000000000
    | none => true
  if due then
    ({ h with prong := { h.prong with lateAt := some h.time.up } }).notice 15 3 "prong.late"
      [("count", "1"), ("port", "p" ++ toString (lpPort l).val ++ ".l" ++ toString (lpLane l).val)]
  else h

/-- What follows a frame that has crossed the MDI: its counter, and the follow-up of a two-step message. -/
def Hw.crossed (h : Hw) (l : Fin 16) (b : Booking) : Hw :=
  let g := h.groupOf b.pipe
  let (ns, fr) := ptpSplit b.at_
  match b.msg with
  | .ntp r => h.pcount g (if r.stratum = 0 then (if r.refId = "RATE" then 3 else 4) else if r.sealed_.isSome then 1 else 0)
  | .delayResp .. => h.pcount g 2
  | .pdelayResp dst seq two _ _ =>
    let h := h.pcount g 2
    if two then h.sendPlain l 68 (.pdelayFollow dst seq ns fr) else h
  | .sync dst one _ _ => if one then h else h.sendPlain l 58 (.followUp dst ns fr)
  | _ => h

/-- The Tally events of a released frame: it and its bytes. -/
def Hw.released (h : Hw) (l : Fin 16) (b : Booking) : Hw :=
  (h.tcount (portUnit (lpPort l)) 8).tcount (portUnit (lpPort l)) 4 (b.dur / (auPerPs * max 1 (h.lpRow l).bytePs) - 20)

/-- A booked frame is due: launched at its instant, or dropped when it is late (R258). -/
def Hw.releaseBook (h : Hw) (l : Fin 16) (b : Booking) (late : Bool) : Hw :=
  let h := h.updLp l (fun q => { q with books := q.books.erase b })
  if late then
    let h := (h.updPort (lpPort l) (fun q => { q with late := incSat q.late })).tcount (portUnit (lpPort l)) 9
    match b.msg with
    | .lattice n _ => h.latCount n 3
    | _ => h.lateDrop l b
  else if !h.islandOk (txIsland (lpPort l)) then h.pcount (h.groupOf b.pipe) 6
  else (((h.updLp l (fun q => { q with busy := b.at_ + b.dur })).send l b.at_ b.msg).released l b).crossed l b

/-- The frames booked on a logical port up to `t` are launched. -/
def Hw.drainTimed (h : Hw) (l : Fin 16) (t : Nat) : Nat → Hw
  | 0 => h
  | n + 1 =>
    match firstBook (h.lp l).books with
    | some b => if b.at_ ≤ t then (h.releaseBook l b false).drainTimed l t n else h
    | none => h

/-- Steps 1 and 2 of R265: the launch queues of a port drain for LAUNCH_LEAD. -/
def Hw.drainPort (h : Hw) (p : Fin 4) : Hw :=
  let t := h.time.axis + h.polN h.time.axis .prongLaunchLead * auPerPs
  (List.range 4).foldl (fun (h : Hw) k => h.drainTimed (lpNo p k) t (h.lp (lpNo p k)).books.length) h

/-- LAUNCH_RELEASE (R258): the next booked frame's instant has come. `early` is how many ps before it the frame reached
the transmit island; less than T_EGRESS is late. -/
def execLaunchRelease (l : Fin 16) (early : Nat) (s : State) : Host.Outcome State Fault Refusal :=
  s.on (fun h =>
    match firstBook (h.lp l).books with
    | none => h
    | some b =>
      h.when (decide (b.at_ < h.time.axis + auPerTick) && h.domUp .port) (fun h =>
        let h := h.releaseBook l b (decide (early < (h.lpRow l).egress * 1000))
        h.drainPlain l (h.lp l).plain.length))

/-- STEP_DROP (R289): every time-bearing request in flight and every reply that waits is dropped; a Lattice frame of a
tunnel that waits for its instant goes too, and is no request to count. -/
def Hw.dropInFlight (h : Hw) : Hw :=
  (List.finRange 16).foldl (fun (h : Hw) (l : Fin 16) =>
    let bs := (h.lp l).books.filter (fun b => b.timed)
    let h := h.updLp l (fun q => { q with books := q.books.filter (fun b => !b.timed) })
    bs.foldl (fun (h : Hw) b => match b.msg with
      | .lattice .. => h
      | _ => h.pcount (h.groupOf b.pipe) 10) h) h

/-- What the responder and the ports do by instants of Axis time, and no rule ties to the time itself, keeps its distance
from the present through a step: committed work, the cache's ages, a group's reload, the wire and the frames without a
launch time. `d` in model units. -/
def Hw.workStep (h : Hw) (d : Int) : Hw :=
  let sh := fun (t : Nat) => ((t : Int) + d).toNat
  { h with
    prong := { h.prong with
      pipes := h.prong.pipes.map (fun p => { p with
        busy := sh p.busy, urgent := sh p.urgent, cache := p.cache.map (fun e => { e with fetched := sh e.fetched }) })
      reload := h.prong.reload.map (fun r => (r.1, sh r.2)) }
    port := { h.port with
      p := h.port.p.map (fun q => { q with lps := q.lps.map (fun l => { l with
        busy := sh l.busy, books := l.books.map (fun b => { b with at_ := sh b.at_, handAt := sh b.handAt }) }) }) } }

/-! ## Cache, sweep, hash (R281, R282, R285, R286) -/

/-- CLIENT_TABLE_SWEEP (R282): one bucket is visited; VALID is cleared on each aged entry that is not STATIC. -/
def execClientTableSweep (b : Nat) (s : State) : Host.Outcome State Fault Refusal :=
  s.on (fun h => h.when (decide (b < 33554432) && h.domUp .store) (fun h =>
    let age := h.effN .prongClientAge / 1024000
    [0, 1].foldl (fun (h : Hw) w =>
      let a := wayAt b w
      let e := h.entryAt a
      let gap := tableSince (tableTime h.time.axis) e.last
      if e.valid && !e.static && decide (age < gap ∨ 2147483648 ≤ gap) then h.putEntry a { e with flags := e.flags - 1 }
      else h) h))

/-- CACHE_EVICTION (R285): entries fetched 2^20 pipeline cycles ago leave the pipeline's cache. -/
def execCacheEviction (q : Fin 16) (s : State) : Host.Outcome State Fault Refusal :=
  s.on (fun h => h.updPipe q (fun p => { p with
    cache := p.cache.filter (fun e => decide (h.time.axis < e.fetched + 1048576 * auPerNs)) }))

/-- Invalidate a class's entries, or all, in every cache (R286). -/
def Hw.flushClass (h : Hw) (c : Option Nat) : Hw :=
  { h with prong := { h.prong with
      pipes := h.prong.pipes.map (fun p => { p with
        cache := match c with
          | some c => p.cache.filter (fun e => decide (e.cls ≠ c))
          | none => [] }) } }

/-- Invalidate one key in every cache (R285). -/
def Hw.flushKey (h : Hw) (af : Bool) (key : Nat) : Hw :=
  { h with prong := { h.prong with pipes := h.prong.pipes.map (fun p => { p with
      cache := p.cache.filter (fun e => !decide (e.af = af ∧ e.key = key)) }) } }

/-- The bucket of the key in PRONG_HASH_IN (R281). -/
def Hw.hashGo (h : Hw) (af : Bool) : Hw :=
  let key := (h.prong.hashIn[0]).toNat + 4294967296 * (h.prong.hashIn[1]).toNat
  { h with prong := { h.prong with hashAf := af, hashOut := fld 0 (h.bucketOf af key) ||| flag 31 true } }

/-- PRONG_HASH_GO. -/
def execProngHashGo (af : Bool) (s : State) : Host.Outcome State Fault Refusal :=
  s.onWrite (fun h => if !h.domUp .pipe then h.isoRecord 0x800040 else h.hashGo af)

/-! ## The NTS key ring (R277, R278) -/

/-- NTS_KEY_ROTATION (R278): at a multiple of the period in force the epoch advances; a changed
`prong.nts.rotate` takes effect from here (R460). -/
def execNtsKeyRotation (s : State) : Host.Outcome State Fault Refusal :=
  s.on (fun h =>
    let per := h.prong.rotPer / 1000000000000 * auPerSec
    h.when (decide (0 < per ∧ h.time.axis % per < auPerTick ∧ 0 < h.prong.epoch) && !h.prong.eraseDue) (fun h =>
      let e := h.prong.epoch + 1
      ({ h with prong := { h.prong with epoch := e, eraseDue := true, rotPer := h.effN .prongNtsRotate } }).notice 15 1 "prong.rotate"
        [("epoch", toString e)]))

/-- NTS_KEY_ERASE (R278): key e - 2 of the epoch before the rotation is erased and key e + 2 generated: with the new
epoch, the ring holds its two predecessors, its own and its successor. -/
def execNtsKeyErase (s : State) : Host.Outcome State Fault Refusal :=
  s.on (fun h => h.when h.prong.eraseDue (fun h =>
    let e := h.prong.epoch
    let (k, h) := h.fresh
    { h with prong := { h.prong with
        eraseDue := false
        ring := (h.prong.ring.filter (fun p => decide (e ≤ p.1 + 2 ∧ p.1 ≤ e))) ++ [(e + 1, k)] } }))

/-- A fresh ring, epoch 1 (after power-on and cold reset). -/
def Hw.freshRing (h : Hw) : Hw :=
  let (a, h) := h.fresh
  let (b, h) := h.fresh
  { h with prong := { h.prong with epoch := 1, ring := [(1, a), (2, b)], eraseDue := false, rotPer := h.effN .prongNtsRotate } }

/-- NTS_KE_CONNECTION (R276): the Warden gives the client 8 cookies under the current epoch; not in Voyage. -/
def execNtsKeConnection (l : Fin 16) (a : Addr) (s : State) : Host.Outcome State Fault Refusal :=
  s.on (fun h => h.when (h.sys.done && h.domUp .port && (h.lp l).ready && h.prong.serving &&
      decide (h.sys.runMode ≠ 3)) (fun h =>
    let e := h.prong.epoch
    let k := (assoc e h.prong.ring).getD 0
    let (l8, h) := (List.range 8).foldl (fun (acc : List (List Byte) × Hw) _ =>
      let (n, h) := acc.2.fresh
      let nonce := beBytes 16 n
      (acc.1 ++ [beBytes 4 e ++ nonce ++ padTo 80 (Config.aeadSeal k nonce)], h)) ([], h)
    h.sendPlain l 1024 (.cookies a e l8)))

/-! ## Policy banks and groups (R287, R290) -/

/-- A switch is pending. -/
def Hw.switchPending (h : Hw) : Bool := h.prong.switch.isSome

/-- Stage a change of a policy setting for the switch instant T (R287). -/
def Hw.stagePolicy (h : Hw) (t : Nat) (items : List (Key × SVal)) : Hw :=
  { h with prong := { h.prong with switch := some (t, items) } }

/-- The policy bank switches once its instant T has passed: the staged bank is the active one (R287). -/
def Hw.bankSwitch (h : Hw) : Hw :=
  match h.prong.switch with
  | none => h
  | some (t, items) =>
    h.when (decide (t ≤ h.time.axis)) (fun h =>
      let h := items.foldl (fun (h : Hw) p => h.setMywi p.1 p.2) h
      let b := 1 - h.prong.bank
      ({ h with prong := { h.prong with bank := b, switch := none } }).notice 15 0 "prong.epoch"
        [("bank", toString b), ("at", showAxis t)])

/-- POLICY_BANK_SWITCH (R287). -/
def execPolicyBankSwitch (s : State) : Host.Outcome State Fault Refusal := s.on (fun h => h.bankSwitch)

/-- The reload of a group begins (Table 13.5): its switch instant is 100 us away. -/
def Hw.startReload (h : Hw) (g : Fin 4) : Hw :=
  { h with prong := { h.prong with reload := some (g, h.time.axis + 100 * auPerUs) } }

/-- GROUP_RETURN (R290): the group's microcode is loaded and checked, its caches and W are empty, it serves again. -/
def execGroupReturn (g : Fin 4) (s : State) : Host.Outcome State Fault Refusal :=
  s.on (fun h =>
    match h.prong.reload with
    | some (r, t) =>
      h.when (decide (r = g ∧ t ≤ h.time.axis)) (fun h =>
        let h := (List.finRange 16).foldl (fun (h : Hw) (q : Fin 16) =>
          if q.val / 4 = g.val then h.updPipe q (fun _ => {}) else h) h
        ({ h with prong := { h.prong with reload := none } }).notice 15 2 "prong.reload"
          [("group", toString g.val), ("result", "ok")])
    | none => h)

end Sys2Proof.Machine
end

