-- ==== Sys2Proof/Machine/Seal.lean ====
section
/-!
DEFINITION. The Seal unit and the custody journal (R296 to R324): request tests, admission, signing, the token's COSE and
CBOR encoding, keys, and the export and release of records.
-/
set_option autoImplicit false

namespace Sys2Proof.Machine

/-! ## CBOR and COSE (R309, R310) -/

/-- The head of a CBOR item of major type `m` with argument `n`, in its shortest form. -/
def cborHead (m n : Nat) : List Byte :=
  if n < 24 then beBytes 1 (m * 32 + n)
  else if n < 256 then beBytes 1 (m * 32 + 24) ++ beBytes 1 n
  else if n < 65536 then beBytes 1 (m * 32 + 25) ++ beBytes 2 n
  else if n < 4294967296 then beBytes 1 (m * 32 + 26) ++ beBytes 4 n
  else beBytes 1 (m * 32 + 27) ++ beBytes 8 n

/-- A byte string. -/
def cborBytes (l : List Byte) : List Byte := cborHead 2 l.length ++ l

/-- The protected header: the algorithm (-7 ES256, -8 EdDSA) and the kid. -/
def coseProtected (alg kid : Nat) : List Byte :=
  cborHead 5 2 ++ cborHead 0 1 ++ cborHead 1 (6 + alg) ++ cborHead 0 4 ++ cborBytes (beBytes 8 kid)

/-- The bytes a signature covers: Sig_structure with an empty external_aad. -/
def coseTbs (prot payload : List Byte) : List Byte :=
  cborHead 4 4 ++ cborHead 3 10 ++ asciiBytes "Signature1" ++ cborBytes prot ++ cborBytes [] ++ cborBytes payload

/-- A COSE_Sign1 with tag 18. -/
def coseSign1 (prot payload sig : List Byte) : List Byte :=
  cborHead 6 18 ++ cborHead 4 4 ++ cborBytes prot ++ cborHead 5 0 ++ cborBytes payload ++ cborBytes (padTo 64 sig)

/-- Key 1: the identity fingerprint and the EID, null when unset. -/
def cborIdentity (eid : Option Nat) : List Byte :=
  cborHead 4 2 ++ cborBytes (beBytes 32 identityFp.toNat) ++
  (match eid with | some e => cborHead 0 e | none => beBytes 1 0xF6)

/-- The payload of Table 15.6. -/
def tokenPayload (eid : Option Nat) (seq : Nat) (head : BitVec 256) (r : SealReq) : List Byte :=
  let s := r.sample
  let u := fun k n => cborHead 0 k ++ cborHead 0 n
  let b := fun k l => cborHead 0 k ++ cborBytes l
  cborHead 5 12 ++ cborHead 0 1 ++ cborIdentity eid ++ u 2 seq ++ u 3 (secOf s.axis) ++ u 4 (nsOf s.axis) ++
  u 5 (tokenUnc s.unc) ++ u 6 s.trust.code ++ b 7 r.digest ++ b 8 r.cid ++ b 9 r.nonce ++
  b 10 (beBytes 32 head.toNat) ++ u 11 s.tql ++ u 12 s.mode

/-- A TOKEN record's body (R317). -/
def tokenBody (eid : Option Nat) (p : Pending) : List Byte :=
  let r := p.req
  let form := match r.src with
    | .crp _ a _ => if a.length = 4 then 1 else 2
    | .pcie _ _ => 3
    | .deck _ _ _ => 4
  padTo 32 r.digest ++ beBytes 1 p.slot ++ beBytes 1 (r.alg + 1) ++ beBytes 1 form ++ beBytes 1 r.nonce.length ++
  beBytes 1 r.cid.length ++ beBytes 1 0 ++ beBytes 2 (eid.getD 0xFFFF) ++ padTo 16 r.nonce ++ padTo 20 r.cid

/-- An attestation of a key slot (R312), when it holds a key. -/
def Hw.attestation (h : Hw) (n : Fin 8) : Option (List Byte) :=
  let k := h.sealU.keys[n]
  if k.st = .empty then none
  else
    let prot := coseProtected 0 nodeId
    let payload := cborHead 5 5 ++ cborHead 0 1 ++ cborIdentity h.lat.eid ++ cborHead 0 20 ++ cborHead 0 n ++
      cborHead 0 21 ++ cborHead 1 (6 + k.alg) ++ cborHead 0 22 ++ cborBytes (pubKey k.alg k.key) ++
      cborHead 0 23 ++ cborHead 0 k.recSeq
    some (coseSign1 prot payload (Config.signature 0 (Config.otpNat "identity") k.recSeq (coseTbs prot payload)))

/-! ## Replies (R298, R302, R307) -/

/-- Bytes 0 to 23 of a CRP reply, and the token (Table 15.4). -/
def SealReply.bytes (r : SealReply) : List Byte :=
  beBytes 1 1 ++ beBytes 1 0x81 ++ beBytes 1 r.status ++ beBytes 1 r.trust ++ beBytes 4 r.reqId ++ beBytes 8 r.seq ++
  beBytes 4 r.uncNs ++ beBytes 2 r.token.length ++ beBytes 2 0 ++ r.token

/-- The HMAC of a request or reply under a client key (R303). -/
def crpHmac (key : Nat) (l : List Byte) : BitVec 256 := Config.hmacSha256 key (asciiBytes "crp1" ++ (0 : Byte) :: l)

/-- A PCIe completion (Table 15.5), little-endian. -/
def SealReply.completion (r : SealReply) : List Byte :=
  leBytes 4 r.reqId ++ leBytes 1 r.status ++ leBytes 1 r.trust ++ leBytes 2 r.token.length ++ leBytes 8 r.seq ++
  leBytes 4 r.uncNs ++ leBytes 12 0 ++ padTo 480 r.token

/-- Change a PCIe queue. -/
def Hw.updQ (h : Hw) (q : Fin 8) (f : SealQ → SealQ) : Hw :=
  { h with sealU := { h.sealU with queues := h.sealU.queues.set q (f h.sealU.queues[q]) } }

/-- Write the completions of a queue that are next in order (R306, R307); each raises the queue's event source. -/
def Hw.flushCpl (h : Hw) (q : Fin 8) : Nat → Hw
  | 0 => h
  | n + 1 =>
    let k := h.sealU.queues[q]
    match h.sealU.cplWait.find? (fun c => decide (c.1 = q.val ∧ c.2.1 = k.done.toNat)) with
    | none => h
    | some c =>
      let h := h.writeStore (k.cpl + 512 * (k.done.toNat % 2 ^ k.log2)) c.2.2.completion
      let h := { h with sealU := { h.sealU with
        cplWait := h.sealU.cplWait.filter (fun d => !decide (d.1 = c.1 ∧ d.2.1 = c.2.1)) } }
      ((h.updQ q (fun k => { k with done := k.done + 1 })).raiseEvent (100 + q.val)).flushCpl q n

/-- Count a STATUS code in SEAL_CNTk (9: AUTH_FAIL). -/
def Hw.sealCount (h : Hw) (k : Nat) : Hw :=
  if hk : k < 10 then { h with sealU := { h.sealU with cnt := h.sealU.cnt.set k (incSat h.sealU.cnt[k]) } } else h

/-- Release a reply to its source: a CRP reply leaves as a non-timed frame (R299), a Deckline reply waits for the
coordinator slot, a completion for its order. -/
def Hw.releaseReply (h : Hw) (r : SealReply) : Hw :=
  let h := ((h.sealCount r.status).tcount 9 (if r.status ≠ 0 then 4 else 0))
  let h := { h with sealU := { h.sealU with replies := r :: h.sealU.replies } }
  match r.src with
  | .crp lp a _ =>
    if hl : lp < 16 then
      let len := 18 + (if a.length = 4 then 20 else 40) + 8 + r.bytes.length + (if r.hmac.isSome then 32 else 0)
      h.sendPlain ⟨lp, hl⟩ len (.crp r)
    else h
  | .deck _ _ _ => { h with sealU := { h.sealU with deckOut := h.sealU.deckOut ++ [r] } }
  | .pcie q i =>
    if hq : q < 8 then
      ({ h with sealU := { h.sealU with cplWait := h.sealU.cplWait ++ [(q, i, r)] } }).flushCpl ⟨q, hq⟩
        (h.sealU.cplWait.length + 1)
    else h

/-- SEAL_REFUSE (R298): the reply, the count of refusals and `seal.refuse` at most once per second. -/
def Hw.sealRefuse (h : Hw) (r : SealReq) (status : Nat) : Hw :=
  let body : SealReply :=
    { src := r.src, reqId := r.reqId, status := status,
      trust := (if status = 3 ∨ status = 4 then 0xFF else r.sample.trust.code),
      uncNs := min max32 (tokenUnc r.sample.unc) }
  let y : SealReply := { body with hmac := r.hmacKey.map (fun k => crpHmac k body.bytes) }
  let h := h.releaseReply y
  let h := { h with sealU := { h.sealU with refusals := h.sealU.refusals + 1, refuseN := h.sealU.refuseN + 1 } }
  let due := match h.sealU.refuseAt with
    | some t => h.passed t 1000000000000
    | none => true
  if due then
    let n := h.sealU.refuseN
    ({ h with sealU := { h.sealU with refuseAt := some h.time.up, refuseN := 0 } }).notice 16 0 "seal.refuse"
      [("status", toString status), ("count", toString n)]
  else h

/-! ## Requests -/

/-- The signed requests that are pending (R297). -/
def Hw.sealPending (h : Hw) : Nat :=
  (h.sealU.pool.filter (fun p => match p with | .tok _ => true | .sys .. => false)).length

/-- The pool is full for a request that would wait for admission. -/
def Hw.poolFull (h : Hw) : Bool :=
  decide (1024 ≤ h.sealPending + h.sealU.waitCrp.length + h.sealU.waitDeck.length)

/-- The ACTIVE slot of an algorithm. -/
def Hw.activeKey (h : Hw) (alg : Nat) : Option (Fin 8) :=
  (List.finRange 8).find? (fun n => decide ((h.sealU.keys[n]).st = .active ∧ (h.sealU.keys[n]).alg = alg))

/-- The algorithm of a request: its preference, else `seal.alg` (R300). -/
def Hw.sealAlg (h : Hw) (code : Nat) : Nat := if code = 1 then 0 else if code = 2 then 1 else h.effN .sealAlg

/-- NONCE_LEN is 0 to 16 and the rest of the field is 0. -/
def nonceOk (len : Nat) (field : List Byte) : Bool := decide (len ≤ 16) && (field.drop len).all (fun b => decide (b = 0))

/-- Test 1 for the 56 bytes of Table 15.3. -/
def crpFormOk (f : List Byte) : Bool :=
  let at_ := fun k => (f.getD k 0).toNat
  decide (at_ 0 = 1 ∧ at_ 1 = 1 ∧ at_ 2 / 8 = 0 ∧ at_ 2 / 2 % 4 ≠ 3) && nonceOk (at_ 3) ((f.drop 40).take 16)

/-- The request of bytes 0 to 55. -/
def Hw.crpReq (h : Hw) (f : List Byte) (src : SealSrc) (sample : Sample) (cid : List Byte) : SealReq :=
  { src := src, sample := sample, digest := (f.drop 8).take 32, nonce := (f.drop 40).take (f.getD 3 0).toNat, cid := cid,
    alg := h.sealAlg ((f.getD 2 0).toNat / 2 % 4), reqId := beNat ((f.drop 4).take 4) }

/-- Tests 4, 6 and 7 of Table 15.2 for a request without descriptor, in order. -/
def Hw.sealEarly (h : Hw) (r : SealReq) : Option Nat :=
  if h.sealU.busy ∨ h.poolFull then some 3
  else if r.sample.bad then some 2
  else if !r.sample.signOk then some 1
  else none

/-- Tests 8 and 9, at admission. -/
def Hw.sealLate (h : Hw) (r : SealReq) : Option Nat :=
  if (h.activeKey r.alg).isNone then some 6
  else if h.freeSlots ≤ journalReserve then some 5
  else none

/-- The client key of a handle: the 32 bytes at base + 32 h, none at or beyond the count (R304). -/
def Hw.clientKey (h : Hw) (handle : Nat) : Option (Nat × Hw) :=
  match h.effL .sealCrpKeytab with
  | [base, count] =>
    if handle < count then
      let (l, bad, h) := h.readStore (base + 32 * handle) 32
      if bad then none else some (beNat l, h)
    else none
  | _ => none

/-- Test 2 (R303): whether the HMAC is as it must be, the key that authenticates, and the machine after reading it. -/
def Hw.crpAuth (h : Hw) (crp : Nat) (f : List Byte) : Bool × Option Nat × Hw :=
  let has := decide ((f.getD 2 0).toNat % 2 = 1)
  let must := decide (crp / 2147483648 % 2 = 1)
  if !must then (!has, none, h)
  else if !has then (false, none, h)
  else match h.clientKey (crp % 1048576) with
    | none => (false, none, h)
    | some (k, h') =>
      if crpHmac k (f.take 56) = BitVec.ofNat 256 (beNat ((f.drop 56).take 32)) then (true, some k, h') else (false, none, h')

/-- The client identity of a CRP request (R311). -/
def crpCid (a : List Byte) (key : Option Nat) (crp : Nat) : List Byte :=
  let form := if a.length = 4 then 1 else 2
  beBytes 1 (form + (if key.isSome then 128 else 0)) ++ a ++ (if key.isSome then beBytes 3 (crp % 1048576) else [])

/-- A CRP request that has passed the port and stage 3, on pipeline `q`, stamped `sub` after the tick. -/
def Hw.crpTests (h : Hw) (l q : Fin 16) (a : Addr) (udp : Nat) (f : List Byte) (sub : Nat) : Hw :=
  let g := h.groupOf (some q)
  let rx := h.time.axis + sub
  let okLen := decide (f.length = (if (f.getD 2 0).toNat % 2 = 1 then 88 else 56))
  if !h.effB .sealCrpEnable || !okLen || !crpFormOk f then h.sealCount 8
  else
    let (e, h) := h.lookup q rx a
    let c := h.classOf rx a e
    let (rate, h) := h.rateUpdate g rx a c
    let h := if e.isNone then h.cacheNew q rx a else h
    let crp := match e with | some e => e.crp | none => 0
    let (ok, key, h) := h.crpAuth crp f
    if !ok then h.sealCount 9
    else
      let r := { h.crpReq f (.crp l.val (addrBytes a) udp) (h.sampleIn (rxIsland (lpPort l)) sub)
                   (crpCid (addrBytes a) key crp) with hmacKey := key }
      if rate ≠ .serve ∧ h.polN rx .prongClassOver c = 2 then h.sealRefuse r 4
      else if rate ≠ .serve then h.pcount g 7
      else match h.sealEarly r with
        | some st => h.sealRefuse r st
        | none => { h with sealU := { h.sealU with waitCrp := h.sealU.waitCrp ++ [r] } }

/-- CRP_REQUEST (R301 to R304): a datagram from `a`, port `udp`, on logical port `l`. -/
def execCrpRequest (l : Fin 16) (a : Addr) (udp : Nat) (f : List Byte) (sub : Nat) (s : State) :
    Host.Outcome State Fault Refusal :=
  s.on (fun h => h.when (h.domUp .port && h.domUp .pipe && h.domUp .seal && (addrKey a).isSome) (fun h =>
    match h.pipeOf (h.time.axis + sub) a udp with
    | none => h
    | some q => if !(h.lp l).ready then h.pcount (h.groupOf (some q)) 5 else h.crpTests l q a udp f sub))

/-- A Deckline request (R305): its tests up to admission. `limit` is the over setting of the segment's class when it is over its rate limit. -/
def Hw.deckSeal (h : Hw) (seg addr mid : Nat) (cid : List Byte) (f : List Byte) (sample : Sample) (limit : Option Nat) : Hw :=
  if f.length ≠ 56 ∨ !crpFormOk f ∨ (f.getD 2 0).toNat % 2 = 1 then h.sealCount 8
  else
    let r := h.crpReq f (.deck seg addr mid) sample cid
    match limit with
    | some 2 => h.sealRefuse r 4
    | some _ => h
    | none =>
      match h.sealEarly r with
      | some st => h.sealRefuse r st
      | none => { h with sealU := { h.sealU with waitDeck := h.sealU.waitDeck ++ [r] } }

/-! ## Admission (R297, R306, R308) -/

/-- A queue has descriptors waiting. -/
def SealQ.waiting (q : SealQ) : Bool := q.en && decide (q.cons ≠ q.prod)

/-- Source `k` of the round robin (0 CRP, 1 Deckline, 2 + q) has a request waiting. -/
def Hw.srcWaits (h : Hw) (k : Nat) : Bool :=
  if k = 0 then !h.sealU.waitCrp.isEmpty
  else if k = 1 then !h.sealU.waitDeck.isEmpty
  else if hk : k - 2 < 8 then (h.sealU.queues[(⟨k - 2, hk⟩ : Fin 8)]).waiting && !h.sealU.busy && decide (h.sealPending < 1024)
  else false

/-- Admit a request that has passed every test: its SEQ and key, and its place in the pool. -/
def Hw.admitReq (h : Hw) (r : SealReq) (slot : Fin 8) : Hw :=
  let k := h.sealU.keys[slot]
  let p : Pending :=
    { req := r, seq := h.sealU.next, slot := slot.val, kid := keyKid k.alg k.key, key := k.key }
  (({ h with
    sealU := { h.sealU with pool := h.sealU.pool ++ [PoolItem.tok p] }
    pwr := { h.pwr with servedAt := some h.time.up } }).tcount 9 1).takeSeq

/-- Tests 8 and 9, then admission or refusal. -/
def Hw.tryAdmit (h : Hw) (r : SealReq) : Hw :=
  match h.sealLate r, h.activeKey r.alg with
  | none, some slot => h.admitReq r slot
  | some st, _ => h.sealRefuse r st
  | none, none => h.sealRefuse r 6

/-- Test 1 for a descriptor (Table 15.5). -/
def descOk (d : List Byte) : Bool :=
  let at_ := fun k => (d.getD k 0).toNat
  decide (at_ 12 / 8 = 0 ∧ at_ 12 % 4 ≠ 3 ∧ at_ 14 ≤ 7 ∧ at_ 15 = 0) && nonceOk (at_ 13) ((d.drop 48).take 16)

/-- Read and test the next descriptor of queue `q`, stamped `sub` after the tick. -/
def Hw.admitDesc (h : Hw) (q : Fin 8) (sub : Nat) : Hw :=
  let k := h.sealU.queues[q]
  let (d, bad, h) := h.readStore (k.desc + 64 * (k.cons.toNat % 2 ^ k.log2)) 64
  let h := h.updQ q (fun k => { k with cons := k.cons + 1 })
  let useSlot := decide ((d.getD 12 0).toNat / 4 % 2 = 1)
  let slot : Fin 8 := ⟨(d.getD 14 0).toNat % 8, Nat.mod_lt _ (by decide)⟩
  let r : SealReq :=
    { src := .pcie q.val k.cons.toNat, sample := h.sampleIn 27 sub, digest := (d.drop 16).take 32,
      nonce := (d.drop 48).take (d.getD 13 0).toNat, cid := beBytes 1 3 ++ beBytes 1 q.val ++ d.take 8,
      alg := h.sealAlg ((d.getD 12 0).toNat % 4), reqId := leNat ((d.drop 8).take 4) }
  if bad || !descOk d then h.sealRefuse r 8
  else if useSlot && (h.sealU.slots[slot]).isNone then h.sealRefuse r 7
  else
    let sm := if useSlot then (h.sealU.slots[slot]).getD r.sample else r.sample
    let h := if useSlot then { h with sealU := { h.sealU with slots := h.sealU.slots.set slot none } } else h
    let r := { r with sample := sm }
    if sm.bad then h.sealRefuse r 2
    else if !sm.signOk then h.sealRefuse r 1
    else h.tryAdmit r

/-- SEAL_ADMISSION (R297): the next source with a request waiting is served. Between t0 of a warm restart and the
resumption of signing a CRP or Deckline request that waits is refused with BUSY. -/
def execSealAdmission (sub : Nat) (s : State) : Host.Outcome State Fault Refusal :=
  s.on (fun h => h.when (h.domUp .seal) (fun h =>
    match ((List.range 10).map (fun i => (h.sealU.rr + i) % 10)).find? (fun k => h.srcWaits k) with
    | none => h
    | some k =>
      let h := { h with sealU := { h.sealU with rr := (k + 1) % 10 } }
      if k = 0 then
        match h.sealU.waitCrp with
        | [] => h
        | r :: rest =>
          let h := { h with sealU := { h.sealU with waitCrp := rest } }
          if h.sealU.busy then h.sealRefuse r 3 else h.tryAdmit r
      else if k = 1 then
        match h.sealU.waitDeck with
        | [] => h
        | r :: rest =>
          let h := { h with sealU := { h.sealU with waitDeck := rest } }
          if h.sealU.busy then h.sealRefuse r 3 else h.tryAdmit r
      else if hk : k - 2 < 8 then h.admitDesc ⟨k - 2, hk⟩ sub
      else h))

/-- A seal sample task (R308): slot `k` captures Axis time and the trust tick then published. -/
def Hw.sealSample (h : Hw) (k : Fin 8) : Hw :=
  if !h.domUp .seal then h
  else
    let full := (h.sealU.slots[k]).isSome
    let h := { h with sealU := { h.sealU with slots := h.sealU.slots.set k (some (h.sampleIn 27 0)) } }
    if full then h.setEvt 16 6 else h

/-! ## Signing (R299, R300, R309 to R317) -/

/-- Write the system records that follow the token just written, up to the next token (R299). -/
def Hw.flushSys (h : Hw) : Nat → Hw
  | 0 => h
  | n + 1 =>
    match h.sealU.pool with
    | .sys seq head body :: rest =>
      (({ h with sealU := { h.sealU with pool := rest } }).writeRecord seq head body []).flushSys n
    | _ => h

/-- The token and the record of the oldest pending request, and its reply. -/
def Hw.sign (h : Hw) (p : Pending) : Hw :=
  let r := p.req
  let (nonce, h) := h.fresh
  let eid := h.lat.eid
  let prot := coseProtected r.alg p.kid
  let payload := tokenPayload eid p.seq h.sealU.head r
  let sig := padTo 64 (Config.signature r.alg p.key nonce (coseTbs prot payload))
  let h := h.writeRecord p.seq (recordHead p.seq 0x01 r.sample 0) (tokenBody eid p) sig
  let h := (h.flushSys h.sealU.pool.length).tcount 9 (if r.alg = 0 then 2 else 3)
  let y : SealReply :=
    { src := r.src, reqId := r.reqId, status := 0, trust := r.sample.trust.code, seq := p.seq,
      uncNs := min max32 (tokenUnc r.sample.unc), token := coseSign1 prot payload sig }
  h.releaseReply { y with hmac := r.hmacKey.map (fun k => crpHmac k y.bytes) }

/-- SIGNATURE_COMPLETE (R299): the signature of the oldest pending request is done; its record is written, the head
updated and the token released. -/
def execSignatureComplete (s : State) : Host.Outcome State Fault Refusal :=
  s.on (fun h => h.when (h.domUp .seal) (fun h =>
    match h.sealU.pool with
    | .tok p :: rest => ({ h with sealU := { h.sealU with pool := rest } }).sign p
    | _ => h.flushSys h.sealU.pool.length))

/-! ## Keys (R313, R314) -/

/-- Change a key slot. -/
def Hw.updKey (h : Hw) (n : Fin 8) (f : KeySlot → KeySlot) : Hw :=
  { h with sealU := { h.sealU with keys := h.sealU.keys.set n (f h.sealU.keys[n]) } }

/-- A command on a key slot in state `from_`, with the new slot: E412 in the wrong state, E506 with no free record (R323),
else the KEY record is appended and `seal.key` raised. -/
def Hw.keyCommand (h : Hw) (n : Fin 8) (from_ : List KeyState) (action : Nat) (f : Hw → Hw) : Except Nat Hw :=
  if !from_.contains (h.sealU.keys[n]).st then .error 412
  else if h.freeSlots = 0 then .error 506
  else
    let old := h.sealU.keys[n]
    let seq := h.sealU.next + (if h.sealU.lostPend = 0 then 0 else 1)
    let h := (f h).updKey n (fun k => { k with recSeq := seq })
    let k := if action = 4 then old else h.sealU.keys[n]
    let h := h.journal 0x19 (beBytes 1 n.val ++ beBytes 1 (k.alg + 1) ++ beBytes 1 action ++
      beBytes 8 (keyKid k.alg k.key) ++ pubKey k.alg k.key)
    .ok (h.notice 16 5 "seal.key"
      [("slot", toString n.val),
       ("action", if action = 1 then "gen" else if action = 2 then "use" else if action = 3 then "retire" else "erase")])

/-- `seal key gen n`: a fresh key pair. -/
def Hw.keyGen (h : Hw) (n : Fin 8) (alg : Nat) : Except Nat Hw :=
  h.keyCommand n [.empty] 1 (fun h =>
    let (k, h) := h.fresh
    h.updKey n (fun _ => { st := .ready, alg := alg, key := k }))

/-- `seal key use n`: the previous ACTIVE slot of the algorithm becomes RETIRED. -/
def Hw.keyUse (h : Hw) (n : Fin 8) : Except Nat Hw :=
  h.keyCommand n [.ready, .retired] 2 (fun h =>
    let h := match h.activeKey (h.sealU.keys[n]).alg with
      | some o => h.updKey o (fun k => { k with st := .retired })
      | none => h
    h.updKey n (fun k => { k with st := .active }))

/-- `seal key retire n`. -/
def Hw.keyRetire (h : Hw) (n : Fin 8) : Except Nat Hw :=
  h.keyCommand n [.active] 3 (fun h => h.updKey n (fun k => { k with st := .retired }))

/-- `seal key erase n`: the private key is zeroised. -/
def Hw.keyErase (h : Hw) (n : Fin 8) : Except Nat Hw :=
  h.keyCommand n [.ready, .retired] 4 (fun h => h.updKey n (fun _ => {}))

/-! ## Export and release (R320 to R323) -/

/-- A POLICY record: the policy in force and REL. -/
def Hw.policyRecord (h : Hw) : Hw := h.journal 0x1A (beBytes 1 (h.effN .journalFull) ++ beBytes 8 h.sealU.rel)

/-- `journal release <seq>`: E303 for a value above ACK or below REL, E506 with no free record once released. -/
def Hw.journalReleaseTo (h : Hw) (v : Nat) : Except Nat Hw :=
  if v < h.sealU.rel ∨ h.sealU.ack < v then .error 303
  else
    let h' := { h with sealU := { h.sealU with rel := v } }
    if h'.freeSlots = 0 then .error 506 else .ok h'.policyRecord.jrnFull

/-- A new ACK; a value that would lower it or raise it above NEXT is ignored and raises `reg.range` (R320). -/
def Hw.sealAck (h : Hw) (v : Nat) : Hw :=
  if v < h.sealU.ack ∨ h.sealU.next < v then h.regRange 0xA0040C
  else ({ h with sealU := { h.sealU with ack := v } }).jrnMark.jrnFull

/-- SEAL_JRN_ACK_WRITE (R320, R8): the high word makes the staged value take effect. -/
def execSealJrnAckWrite (hi : Word) (s : State) : Host.Outcome State Fault Refusal :=
  s.onWrite (fun h =>
    if !h.domUp .seal then h.isoRecord 0xA0040C
    else
      let v := hi.toNat * 4294967296 + (h.stageGet 0xA00408 (lo32 h.sealU.ack)).toNat
      (h.stageDrop 0xA00408 4).sealAck v)

/-- A register of a request queue. -/
def sealQOff (q : Fin 8) (o : Nat) : Nat := 0xA00100 + 0x20 * q.val + o

/-- A write of PROD; a value more than the ring size ahead of DONE is ignored and raises `reg.range` (R306). -/
def Hw.sealQProd (h : Hw) (q : Fin 8) (v : Word) : Hw :=
  let k := h.sealU.queues[q]
  if 2 ^ k.log2 < (v - k.done).toNat then h.regRange (sealQOff q 0x14) else h.updQ q (fun k => { k with prod := v })

/-- SEAL_Q_PROD_WRITE. -/
def execSealQProdWrite (q : Fin 8) (v : Word) (s : State) : Host.Outcome State Fault Refusal :=
  s.onWrite (fun h => if !h.domUp .seal then h.isoRecord (sealQOff q 0x14) else h.sealQProd q v)

end Sys2Proof.Machine
end

