-- ==== Sys2Proof/Machine/Deckline.lean ====
section
/-!
DEFINITION. Deckline segments (R348 to R377): frames and their CRC, the superframe, slots and the open field, rates, roll
call, drops, time transfer, seal requests and the host's rings.
-/
set_option autoImplicit false

namespace Sys2Proof.Machine

/-! ## Frames (R352, R353) -/

/-- CRC-32C, reflected, one bit. -/
def crcBit (c : BitVec 32) : BitVec 32 := if c.getLsbD 0 then (c >>> 1) ^^^ 0x82F63B78#32 else c >>> 1

/-- CRC-32C of a byte string (R352). -/
def crc32c (l : List Byte) : BitVec 32 :=
  (l.foldl (fun (c : BitVec 32) b =>
    crcBit (crcBit (crcBit (crcBit (crcBit (crcBit (crcBit (crcBit (c ^^^ b.setWidth 32))))))))) 0xFFFFFFFF#32) ^^^ 0xFFFFFFFF#32

/-- A frame from its fields (Table 17.2), CRC least significant byte first. -/
def dkFrame (dst src type ql : Nat) (upreq : Bool) (payload : List Byte) : List Byte :=
  let b := beBytes 1 dst ++ beBytes 1 (src + 64 * b2n upreq) ++ beBytes 1 type ++ beBytes 1 ql ++ beBytes 2 payload.length ++
    payload
  b ++ leBytes 4 (crc32c b).toNat

/-- The payload of a frame. -/
def dkPayload (f : List Byte) : List Byte := (f.drop 6).take (beAt f 4 2 % 2048)
def dkDst (f : List Byte) : Nat := beAt f 0 1 % 64
def dkSrc (f : List Byte) : Nat := beAt f 1 1 % 64
def dkUpreq (f : List Byte) : Bool := decide (beAt f 1 1 / 64 % 2 = 1)
def dkType (f : List Byte) : Nat := beAt f 2 1
def dkQl (f : List Byte) : Nat := beAt f 3 1

/-- The LEN a body of a type must have (Table 17.3); none for an unknown type. -/
def dkBodyOk (type len : Nat) (f : List Byte) : Option Bool :=
  match type with
  | 0x01 => some (decide (44 ≤ len ∧ len = 44 + 3 * (beAt f 48 1 + beAt f 49 1)))
  | 0x02 => some (decide (len = 10))
  | 0x03 => some (decide (len = 12))
  | 0x04 => some (decide (len = 0))
  | 0x05 => some (decide (len = 4))
  | 0x10 => some (decide (1 ≤ len ∧ len ≤ 1280))
  | 0x20 => some (decide (len = 56))
  | 0x21 => some (decide (24 ≤ len))
  | _ => none

/-- The frame is whole: length and CRC, a known type and a LEN that its body bears out. -/
def dkGood (f : List Byte) : Bool :=
  let len := beAt f 4 2 % 2048
  decide (f.length = 10 + len) && decide (beAt f 4 2 / 2048 = 0) &&
  decide (leBytes 4 (crc32c (f.take (6 + len))).toNat = f.drop (6 + len)) && (dkBodyOk (dkType f) len f).getD false

/-! ## Times -/

/-- The bit time of a rate code in ps. -/
def bitPs (rate : Nat) : Nat := if rate = 0 then 800000 else if rate = 1 then 200000 else 50000
/-- The airtime of a frame with `len` payload bytes. -/
def airPs (rate len : Nat) : Nat := (13 + len) * 8 * bitPs rate
/-- The guard of 8 bits. -/
def guardPs (rate : Nat) : Nat := 8 * bitPs rate
/-- The beacon field of 2,400 bits. -/
def fieldPs (rate : Nat) : Nat := 2400 * bitPs rate
/-- The superframe in ps, and a rate's name. -/
def superPs : Nat := 10000000000
def rateName (r : Nat) : String := if r = 0 then "slow" else if r = 1 then "mid" else "fast"

/-! ## Access -/

/-- Change one segment. -/
def Hw.updDk (h : Hw) (n : Fin 2) (f : DkSt → DkSt) : Hw :=
  { h with deck := { h.deck with dk := h.deck.dk.set n (f h.deck.dk[n]) } }
/-- One segment. -/
def Hw.dk (h : Hw) (n : Fin 2) : DkSt := h.deck.dk[n]
/-- Its notice source, its input, its island and its event source. -/
def dkSrcNo (n : Fin 2) : Fin 28 := ⟨18 + n.val, by omega⟩
def deckIn (n : Fin 2) : Fin 20 := ⟨18 + n.val, by omega⟩
def dkIsland (n : Fin 2) : Fin 48 := ⟨32 + n.val, by omega⟩
/-- The name of a segment. -/
def segName (n : Fin 2) : String := "dk" ++ toString n.val

/-- Count one event of DECK_DKn_CNTk. -/
def Hw.dkCount (h : Hw) (n : Fin 2) (k : Fin 9) : Hw := 
  (h.updDk n (fun d => { d with cnt := d.cnt.set k (incSat d.cnt[k]) })).tcount (dkUnit n)
    (if k = 0 then 13 else if k = 3 then 14 else if k = 8 then 15 else 0)

/-- `max_rate` and `min_rate` as codes (`fast` is the first name of their list). -/
def Hw.dkMax (h : Hw) (n : Fin 2) : Nat := 2 - h.effN .deckDkMaxRate n
def Hw.dkMin (h : Hw) (n : Fin 2) : Nat := 2 - h.effN .deckDkMinRate n

/-- The ceiling (R364): the lowest of `max_rate` and the MAX_RATE of every joined member. -/
def Hw.dkCeil (h : Hw) (n : Fin 2) : Nat := (h.dk n).roster.foldl (fun (m : Nat) r => min m r.maxRate) (h.dkMax n)

/-- The member at an address, and the address of a MID. -/
def DkSt.at_ (d : DkSt) (a : Nat) : Option DkMember := d.roster.find? (fun m => decide (m.addr = a))
def DkSt.of (d : DkSt) (mid : Nat) : Option DkMember := d.roster.find? (fun m => decide (m.mid = mid))

/-- `deck.dkN.member` and `deck.dkN` notices. -/
def Hw.memberNote (h : Hw) (n : Fin 2) (a mid : Nat) (ev : String) : Hw :=
  h.notice (dkSrcNo n) 0 "deck.member"
    [("seg", segName n), ("addr", toString a), ("mid", "0x" ++ hexPad 16 mid), ("event", ev)]

/-! ## The slot plan (R356, R357) -/

/-- The pairs of `deck.dkN.slots`: MID and length in 10 us. -/
def slotPairs : List Nat → List (Nat × Nat)
  | m :: l :: r => (m, l) :: slotPairs r
  | _ => []

/-- The plan for the present roster. -/
def Hw.makePlan (h : Hw) (n : Fin 2) : List (Nat × Nat) :=
  (0, h.effN .deckDkCoordSlot n / 10000000) ::
  (slotPairs (h.effL .deckDkSlots n)).filterMap (fun p => ((h.dk n).of p.1).map (fun m => (m.addr, p.2)))

/-- The test of R356 for given values (ps). -/
def planFits (minRate : Nat) (coord openMin : Nat) (slots : List Nat) : Bool :=
  let sum := (slotPairs slots).foldl (fun a p => a + p.2 * 10000000) (0 : Nat)
  decide (fieldPs minRate + coord + sum + openMin ≤ superPs)

/-- The slots of a plan with their offsets from the superframe's start: address, start and length in ps. -/
def planSlots (rate : Nat) (p : List (Nat × Nat)) : List (Nat × Nat × Nat) :=
  (p.foldl (fun (a : Nat × List (Nat × Nat × Nat)) e =>
    (a.1 + e.2 * 10000000, a.2 ++ [(e.1, a.1, e.2 * 10000000)])) (fieldPs rate, [])).2

/-- The start of the open field. -/
def openStart (rate : Nat) (p : List (Nat × Nat)) : Nat := p.foldl (fun a e => a + e.2 * 10000000) (fieldPs rate)

/-- The station's own address while it may send (R358). -/
def DkSt.ownAddr (d : DkSt) : Option Nat :=
  if d.role = 1 then (if d.yielded then none else some 0) else if d.role = 2 ∧ d.joined then some d.addr else none

/-- Its own slots. -/
def DkSt.ownSlots (d : DkSt) : List (Nat × Nat × Nat) :=
  match d.ownAddr with
  | some a => (planSlots d.rate d.plan).filter (fun s => decide (s.1 = a))
  | none => []

/-- The room of R363 at `max_rate`, in ps: the longest owned slot, or `open_min`. -/
def Hw.dkRoom (h : Hw) (n : Fin 2) : Nat :=
  match (h.dk n).ownSlots with
  | [] => if (h.dk n).role = 1 then h.effN .deckDkCoordSlot n else h.effN .deckDkOpenMin n
  | l => l.foldl (fun m s => max m s.2.2) 0

/-! ## The host's rings (R374, R375) -/

/-- The offset of a transmit entry. -/
def DkSt.txAt (d : DkSt) (i : Word) : Nat := d.txr + 2048 * (i.toNat % 2 ^ d.txLog)

/-- The destination and length of a transmit entry. -/
def Hw.txHead (h : Hw) (n : Fin 2) (i : Word) : Nat × Nat × Hw :=
  let (l, _, h) := h.readStore ((h.dk n).txAt i) 16
  ((l.getD 0 0).toNat % 64, leNat ((l.drop 2).take 2) % 2048, h)

/-- Complete the head entry with a status, already written or not; each completion raises the event source. -/
def Hw.txComplete (h : Hw) (n : Fin 2) (status : Option Nat) : Hw :=
  let d := h.dk n
  let h := match status with
    | some st => h.writeStore (d.txAt d.txDone + 4) (leBytes 1 st)
    | none => h
  (h.updDk n (fun d => { d with
    txDone := d.txDone + 1, refused := d.refused.filter (fun i => decide (i ≠ d.txDone)), tries := 0 })).raiseEvent
    (108 + n.val)

/-- R375: the status with which the head entry is completed without being sent. -/
def Hw.txUnsent (h : Hw) (n : Fin 2) (dst : Nat) : Option Nat :=
  let d := h.dk n
  if d.role = 0 then some 3
  else if d.role = 2 ∧ !d.joined ∧ (!d.searching ∨ h.passed d.searchAt (h.effN .deckDkSearch n)) then some 3
  else if d.role = 1 ∧ 1 ≤ dst ∧ dst ≤ 62 ∧ (d.at_ dst).isNone then some 4
  else none

/-- The entries at the head that are completed without being sent. -/
def Hw.txSettle (h : Hw) (n : Fin 2) : Nat → Hw
  | 0 => h
  | k + 1 =>
    let d := h.dk n
    if d.txDone = d.txCons then h
    else if d.refused.contains d.txDone then (h.txComplete n none).txSettle n k
    else
      let (dst, _, h) := h.txHead n d.txDone
      match h.txUnsent n dst with
      | some st => (h.txComplete n (some st)).txSettle n k
      | none => h

/-- All entries, at most the ring's. -/
def Hw.txSettleAll (h : Hw) (n : Fin 2) : Hw := h.txSettle n 1025

/-- R363: an entry too long for the whole of the sender's room is refused: status 1, counted, `deck.too_long`. -/
def Hw.txCheck (h : Hw) (n : Fin 2) (i : Word) : Hw :=
  let (dst, len, h) := h.txHead n i
  let r := h.dkMax n
  if len = 0 ∨ 1280 < len ∨ h.dkRoom n < airPs r len + guardPs r then
    let h := h.writeStore ((h.dk n).txAt i + 4) (leBytes 1 1)
    let h := (h.updDk n (fun d => { d with refused := d.refused ++ [i] })).dkCount n 8
    h.notice (dkSrcNo n) 3 "deck.too_long" [("seg", segName n), ("dst", toString dst), ("len", toString len)]
  else h

/-- The indices from `a`, `k` of them. -/
def indicesFrom (a : Word) (k : Nat) : List Word := (List.range k).map (fun i => a + BitVec.ofNat 32 i)

/-- The entries queued and not refused are checked again (R363), when a new plan takes effect. -/
def Hw.txRecheck (h : Hw) (n : Fin 2) : Hw :=
  let d := h.dk n
  ((indicesFrom d.txDone ((d.txCons - d.txDone).toNat % 1025)).foldl (fun (h : Hw) i =>
    if (h.dk n).refused.contains i then h else h.txCheck n i) h).txSettleAll n

/-- A register of a segment. -/
def dkOff (n : Fin 2) (o : Nat) : Nat := 0xC00000 + 0x10000 * n.val + o

/-- The transmit ring's entries up to PROD are enqueued and checked, while the ring is enabled (R374). -/
def Hw.txTake (h : Hw) (n : Fin 2) : Hw :=
  let d := h.dk n
  if !d.txEn then h
  else
    let l := indicesFrom d.txCons ((d.txProd - d.txCons).toNat % 1025)
    ((l.foldl (fun (h : Hw) i => h.txCheck n i) h).updDk n (fun d => { d with txCons := d.txProd })).txSettleAll n

/-- A write of TX_PROD; a value more than the ring size ahead of DONE is ignored and raises `reg.range` (R374). -/
def Hw.deckTxProd (h : Hw) (n : Fin 2) (v : Word) : Hw :=
  let d := h.dk n
  if 2 ^ d.txLog < (v - d.txDone).toNat then h.regRange (dkOff n 0x38)
  else (h.updDk n (fun d => { d with txProd := v })).txTake n

/-- DECK_TX_PROD_WRITE. -/
def execDeckTxProdWrite (n : Fin 2) (v : Word) (s : State) : Host.Outcome State Fault Refusal :=
  s.onWrite (fun h => if !h.domUp .deck then h.isoRecord (dkOff n 0x38) else h.deckTxProd n v)

/-- A received DATA frame in the receive ring with its SFD stamp; with no free entry it is lost. -/
def Hw.rxPut (h : Hw) (n : Fin 2) (f : List Byte) (t : Nat) : Hw :=
  let d := h.dk n
  if !d.rxEn ∨ 2 ^ d.rxLog ≤ (d.rxProd - d.rxCons).toNat then h
  else
    let p := dkPayload f
    let h := h.writeStore (d.rxr + 2048 * (d.rxProd.toNat % 2 ^ d.rxLog))
      (leBytes 1 (dkSrc f) ++ leBytes 1 0 ++ leBytes 2 p.length ++ leBytes 6 (secOf t) ++ leBytes 4 (nsOf t) ++
       leBytes 2 (fracOf t) ++ leBytes 4 0 ++ p)
    (h.updDk n (fun d => { d with rxProd := d.rxProd + 1 })).raiseEvent (108 + n.val)

/-! ## Sending (R351, R358 to R362) -/

/-- QL: bytes queued after the head entry, in units of 64, rounded up (Table 17.2); the coordinator sends 0. -/
def Hw.dkQlNow (h : Hw) (n : Fin 2) (skip : Nat) : Nat :=
  let d := h.dk n
  if d.role = 1 then 0
  else
    let l := (indicesFrom d.txDone ((d.txCons - d.txDone).toNat % 1025)).filter (fun i => !d.refused.contains i)
    let sum := (l.drop skip).foldl (fun (a : Nat) i => a + (h.txHead n i).2.1) 0
    min 255 (ceilDiv sum 64)

/-- A measured echo delay (R351): the largest is kept, and one above 40 % of the bit time at `max_rate` raises
`deck.loop`. -/
def Hw.echoed (h : Hw) (n : Fin 2) (ns : Nat) : Hw :=
  if ns ≤ (h.dk n).loop then h
  else
    let h := h.updDk n (fun d => { d with loop := ns })
    if bitPs (h.dkMax n) * 2 < ns * 1000 * 5 then
      h.notice (dkSrcNo n) 6 "deck.loop" [("seg", segName n), ("delay", toString ns ++ "ns")]
    else h

/-- Put a frame on the bus `off` ps into the superframe. -/
def Hw.dkPut (h : Hw) (n : Fin 2) (off : Nat) (f : List Byte) : Hw :=
  (h.updDk n (fun d => { d with sent := (d.start + psAu off, f) :: d.sent, idle := 0 })).tcount (dkUnit n) 3

/-- What a station sends next in its slot or the open field, when it fits `room` ps: a LEAVE, a JOIN_ACK (coordinator), the
head entry, or STATUS. The flag says that the head entry leaves the queue; the payload comes with its type and DST. -/
structure DkNext where
  dst : Nat
  type : Nat
  payload : List Byte
  head : Bool := false
  up : Bool := false
deriving DecidableEq, Repr

/-- The head entry as a frame. -/
def Hw.dkHead (h : Hw) (n : Fin 2) : Option (Nat × List Byte) :=
  let d := h.dk n
  if d.txDone = d.txCons then none
  else
    let (dst, len, _) := h.txHead n d.txDone
    some (dst, h.peekN (d.txAt d.txDone + 16) len)

/-- The frame for the time left; `whole` is the whole slot or open field, `must` asks for STATUS when nothing else goes.
A head entry longer than the whole asks for an upshift (R361, R362). -/
def Hw.dkNext (h : Hw) (n : Fin 2) (room whole : Nat) (must : Bool) : Option DkNext :=
  let d := h.dk n
  let fits := fun len => decide (airPs d.rate len + guardPs d.rate ≤ room)
  let status : Bool → Option DkNext := fun up => if fits 0 then some { dst := 0, type := 4, payload := [], up := up } else none
  match d.leavePend, d.acks, h.dkHead n with
  | some r, _, _ => if fits 4 then some { dst := 0, type := 5, payload := beBytes 1 r ++ beBytes 3 0 } else none
  | none, (mid, a, res) :: _, _ =>
    if d.role = 1 then
      (if fits 12 then some { dst := 63, type := 3, payload := beBytes 8 mid ++ beBytes 1 a ++ beBytes 1 res ++ beBytes 2 0 }
       else none)
    else none
  | none, [], some (dst, p) =>
    if fits p.length then some { dst := dst, type := 0x10, payload := p, head := true }
    else if whole < airPs d.rate p.length + guardPs d.rate then (if d.role = 1 then none else status true)
    else if must then status false else none
  | none, [], none => if must then status false else none

/-- A frame went out or was abandoned: the entry is completed as sent, a LEAVE or JOIN_ACK leaves its place. -/
def Hw.dkSent (h : Hw) (n : Fin 2) (x : DkNext) : Hw :=
  let h := if x.type = 5 then h.updDk n (fun d => { d with leavePend := none }) else h
  let h := if x.type = 3 then h.updDk n (fun d => { d with acks := d.acks.drop 1 }) else h
  if x.head then (h.txComplete n (some 0)).txSettleAll n else h

/-- Fill the present slot: frames separated by one guard while they fit; `echoes` says how each goes out. A wrong echo
abandons its frame, which stays queued. STATUS goes out as the first frame of a slot only. -/
def Hw.dkFill (h : Hw) (n : Fin 2) (off len : Nat) (must : Bool) : List Echo → Hw
  | [] => h
  | e :: es =>
    let d := h.dk n
    match h.dkNext n (len - d.slotUsed) len must with
    | none => h
    | some x =>
      if x.type = 4 ∧ !must then h else
      let f := dkFrame x.dst (d.ownAddr.getD 63) x.type (h.dkQlNow n (b2n x.head)) x.up x.payload
      let at_ := off + d.slotUsed
      let h := h.updDk n (fun d => { d with
        slotUsed := d.slotUsed + airPs d.rate x.payload.length + guardPs d.rate })
      match e with
      | .sent ns => (((h.dkPut n at_ f).echoed n ns).dkSent n x).dkFill n off len false es
      | .late => h.dkFill n off len must es
      | .collided => h.dkFill n off len must es

/-- A coordinator whose own head entry exceeds its whole slot asks itself for an upshift (R361). -/
def Hw.ownUpreq (h : Hw) (n : Fin 2) : Hw :=
  let d := h.dk n
  match h.dkHead n with
  | some (_, p) =>
    if d.role = 1 ∧ h.effN .deckDkCoordSlot n < airPs d.rate p.length + guardPs d.rate then
      (if d.rate < h.dkCeil n then h.updDk n (fun d => { d with upreq := true, down := 0 })
       else (h.updDk n (fun d => { d with down := 0 })).dkCount n 5)
    else h
  | none => h

/-- SLOT_SEND (R359): the station's next owned slot of this superframe. -/
def execSlotSend (n : Fin 2) (echoes : List Echo) (s : State) : Host.Outcome State Fault Refusal :=
  s.on (fun h =>
    let d := h.dk n
    h.when (h.domUp .deck && d.beacon) (fun h =>
      match (d.ownSlots.drop d.slotIdx).head? with
      | none => h
      | some (a, off, len) =>
        let h := h.txSettleAll n
        let h := h.ownUpreq n
        let h := h.dkFill n off len (decide (a ≠ 0)) echoes
        if a = 0 then h else h.updDk n (fun d => { d with slotIdx := d.slotIdx + 1, slotUsed := 0 })))

/-- After `k` collisions the back-off before attempt k + 1 is drawn (R360). -/
def Hw.drawBackoff (h : Hw) (n : Fin 2) (k : Nat) : Hw :=
  let (v, h) := h.fresh
  h.updDk n (fun d => { d with tries := k, backoff := v % 2 ^ min (k + 1) 10 })

/-- What a station without a slot contends with: its JOIN at a roll call, else as in a slot; a STATUS at least every 16
superframes. -/
def Hw.openNext (h : Hw) (n : Fin 2) (room whole : Nat) : Option DkNext :=
  let d := h.dk n
  if !d.joined then
    if d.synced && d.rollcall && d.joinWait.isNone && decide (airPs d.rate 10 + guardPs d.rate ≤ room) then
      some { dst := 0, type := 2, payload := beBytes 8 nodeId ++ beBytes 1 (h.dkMax n) ++ beBytes 1 0 }
    else none
  else h.dkNext n room whole (decide (15 ≤ d.idle))

/-- OPEN_FIELD_SEND (R360, R362): one attempt, at the present instant, after idle and back-off. After the sixteenth
collision the frame is discarded with COLLIDE. -/
def execOpenFieldSend (n : Fin 2) (e : Echo) (s : State) : Host.Outcome State Fault Refusal :=
  s.on (fun h =>
    let d := h.dk n
    let pos := (h.time.axis - d.start) / auPerPs
    let o := openStart d.rate d.plan
    h.when (h.domUp .deck && d.beacon && decide (d.role = 2 ∧ d.ownSlots = [] ∧ o ≤ pos ∧ pos < superPs)) (fun h =>
      let h := h.txSettleAll n
      let d := h.dk n
      match h.openNext n (superPs - pos) (superPs - o) with
      | none => h
      | some x =>
        let f := dkFrame x.dst (if d.joined then d.addr else 63) x.type (h.dkQlNow n (b2n x.head)) x.up x.payload
        let k := d.tries + 1
        let h := (h.tcount (dkUnit n) 9).tcount (dkUnit n) (match e with | .collided => 7 | _ => 0)
        match e with
        | .sent ns =>
          let h := ((h.dkPut n pos f).echoed n ns).updDk n (fun d => { d with
            joinWait := if x.type = 2 then some 2 else d.joinWait })
          (h.drawBackoff n 0).dkSent n x
        | _ =>
          if k < 16 then h.drawBackoff n k
          else
            let h := (h.drawBackoff n 0).dkCount n 4
            if x.head then (h.txComplete n (some 2)).txSettleAll n else h))

/-! ## The superframe (R354 to R357, R364 to R366) -/

/-- The bytes a member's owned slots carry in one superframe at the current rate. -/
def DkSt.capacity (d : DkSt) (a : Nat) : Option Nat :=
  let l := (planSlots d.rate d.plan).filter (fun s => decide (s.1 = a))
  if l.isEmpty then none else some (l.foldl (fun x s => x + s.2.2 / (8 * bitPs d.rate)) 0)

/-- R365: this superframe qualifies for a downshift. -/
def DkSt.qualifies (d : DkSt) : Bool :=
  d.roster.all (fun m => match d.capacity m.addr with
    | some c => decide (m.ql * 64 * 10 < c)
    | none => !m.heard || decide (m.ql = 0))

/-- The end of a superframe on a coordinator: silence, qualifying, foreign beacons, quarantine. -/
def DkSt.close (d : DkSt) : DkSt :=
  { d with
    roster := d.roster.map (fun m => { m with silent := (if m.heard then 0 else m.silent + 1), heard := false })
    qual := if d.down ≠ 0 then 0 else if d.qualifies then d.qual + 1 else 0
    foreignRun := if d.foreignSeen || d.ownLost then d.foreignRun + 1 else 0
    quietRun := if d.foreignSeen then 0 else d.quietRun + 1
    foreignSeen := false, ownLost := false, slotIdx := 0, slotUsed := 0, beacon := false
    quarantine := d.quarantine.map (fun q => { q with left := q.left - 1 }) }

/-- The rate of the superframe that begins: an upshift, or a downshift announced in the beacon before (R364 to R366). -/
def Hw.nextRate (h : Hw) (n : Fin 2) : Hw :=
  let d := h.dk n
  let c := h.dkCeil n
  let r := if d.upreq then min c (d.rate + 1) else if d.down = 2 then max (h.dkMin n) (d.rate - 1) else d.rate
  let h := h.updDk n (fun d => { d with
    rate := r, upreq := false, down := (if d.upreq ∨ d.down = 2 then 0 else d.down),
    qual := (if d.upreq ∨ d.down = 2 then 0 else d.qual) })
  if r = d.rate then h
  else
    (h.notice (dkSrcNo n) 1 "deck.rate" [("seg", segName n), ("old", rateName d.rate), ("new", rateName r)]).tcount
      (dkUnit n) (if d.rate < r then 10 else 11)

/-- The plan of the superframe that begins: a pending plan counts down and applies; a change that waits is announced. -/
def Hw.nextPlan (h : Hw) (n : Fin 2) : Hw :=
  let h := match (h.dk n).newPlan with
    | some (p, 2) => h.updDk n (fun d => { d with newPlan := some (p, 1) })
    | some (p, _) =>
      let h := h.updDk n (fun d => { d with plan := p, newPlan := none, planVer := (d.planVer + 1) % 256 })
      (h.notice (dkSrcNo n) 2 "deck.plan" [("seg", segName n), ("ver", toString (h.dk n).planVer)]).txRecheck n
    | none => h
  let d := h.dk n
  if d.newPlan.isNone && d.dirty then
    let p := h.makePlan n
    h.updDk n (fun d => { d with dirty := false, newPlan := if p = d.plan then none else some (p, 2) })
  else h

/-- The TQL a coordinator claims: ACTIVE_TQL, 0 in COLD, ACQUIRE and ADRIFT. -/
def Hw.beaconTql (h : Hw) : Nat := if h.time.trust = .locked ∨ h.time.trust = .holdover then h.activeTql else 0

/-- The body of the beacon (Table 17.4), at the trust tick published most recently. -/
def Hw.beaconBody (h : Hw) (n : Fin 2) : List Byte :=
  let d := h.dk n
  let t := d.start + psAu (24 * bitPs d.rate + h.effN .deckDkTxDelay n)
  let plan := fun (p : List (Nat × Nat)) => p.flatMap (fun e => beBytes 1 e.1 ++ beBytes 2 e.2)
  let new := match d.newPlan with | some (p, _) => p | none => []
  let cnt := match d.newPlan with | some (_, c) => c | none => 0
  let leap := match h.time.leap with | some l => (if l.insert then 1 else 2) | none => 0
  let nxt := if d.down = 1 then d.rate - 1 else d.rate
  beBytes 8 nodeId ++ beBytes 6 (secOf t) ++ beBytes 4 (nsOf t) ++ beBytes 2 (fracOf t) ++ beBytes 8 h.time.unc ++
  beBytes 1 h.beaconTql ++ beBytes 1 h.time.trust.code ++
  beBytes 1 (d.rate + 4 * nxt + 16 * b2n (decide (d.index % 10 = 0))) ++
  beBytes 1 (leap + 4 * b2n (h.announceData 0).utcValid) ++ beBytes 2 (h.taiUtc % 65536).toNat ++
  beBytes 6 (match h.time.leap with | some l => l.at_ | none => 0) ++ beBytes 1 d.planVer ++ beBytes 1 cnt ++
  beBytes 1 d.plan.length ++ beBytes 1 new.length ++ plan d.plan ++ plan new

/-- Launch the beacon (R355). -/
def Hw.sendBeacon (h : Hw) (n : Fin 2) (e : Echo) : Hw :=
  let f := dkFrame 63 0 1 0 false (h.beaconBody n)
  let h := h.updDk n (fun d => { d with down := (if d.down = 1 then 2 else d.down) })
  match e with
  | .sent ns => (((h.dkPut n 0 f).updDk n (fun d => { d with beacon := true })).echoed n ns).tcount (dkUnit n) 1
  | .late => h.dkCount n 1
  | .collided => (h.updDk n (fun d => { d with ownLost := true })).dkCount n 2

/-- A role begins (R376, R377) or ends. -/
def Hw.takeRole (h : Hw) (n : Fin 2) (role : Nat) : Hw :=
  let d := h.dk n
  let fresh : DkSt :=
    { role := role, rate := h.dkMax n, plan := (if role = 1 then [(0, h.effN .deckDkCoordSlot n / 10000000)] else []),
      notBefore := d.notBefore, searching := decide (role = 2), searchAt := h.time.up, loop := d.loop, txr := d.txr,
      rxr := d.rxr, txLog := d.txLog, txEn := d.txEn, rxLog := d.rxLog, rxEn := d.rxEn, txProd := d.txProd,
      txCons := d.txCons, txDone := d.txDone, rxProd := d.rxProd, rxCons := d.rxCons, refused := d.refused,
      cnt := d.cnt, sent := d.sent }
  let h := if d.role ≠ 0 then (h.updDk n (fun d => { d with role := 0 })).txSettleAll n else h
  let done := (h.dk n).txDone
  let refd := (h.dk n).refused
  (h.updDk n (fun _ => { fresh with txDone := done, refused := refd })).updRef (deckIn n)
    (fun r => { r with alive := false, qual := 0 })

/-- SUPERFRAME_START (R354): a 10 ms boundary of Axis time. A role change takes effect; a coordinator closes the
superframe before, applies rate and plan, and launches its beacon. -/
def execSuperframeStart (n : Fin 2) (e : Echo) (s : State) : Host.Outcome State Fault Refusal :=
  s.on (fun h =>
    let sTen := 10 * auPerMs
    let b := ceilDiv h.time.axis sTen * sTen
    h.when (h.sys.released && h.time.clockOn && h.domUp .deck && decide (b < h.time.axis + auPerTick)) (fun h =>
      let target := h.effN .deckDkRole n
      let h := if (h.dk n).role = target then h else h.takeRole n target
      let d := h.dk n
      if d.role = 1 then
        let h := h.updDk n DkSt.close
        let h := (h.nextRate n).nextPlan n
        let h := h.updDk n (fun d => { d with start := b, index := b % auPerSec / sTen })
        if (h.dk n).yielded ∨ b < d.notBefore then h else h.sendBeacon n e
      else h.updDk n (fun d => { d with slotIdx := 0, slotUsed := 0, idle := d.idle + 1 })))

/-- RATE_DOWNSHIFT (R365): the superframe that ends is the eighth to qualify; the next beacon announces the downshift. -/
def execRateDownshift (n : Fin 2) (s : State) : Host.Outcome State Fault Refusal :=
  s.on (fun h =>
    let d := h.dk n
    h.when (decide (d.role = 1 ∧ d.down = 0 ∧ h.dkMin n < d.rate ∧ 7 ≤ d.qual) && !d.upreq && d.qualifies) (fun h =>
      h.updDk n (fun d => { d with down := 1 })))

/-! ## Frames received -/

/-- A received frame for `good`: a bad one is counted in RX_BAD, one for another address is discarded (R353). `type` is
the one this event is about. -/
def Hw.dkRx (h : Hw) (n : Fin 2) (type : Nat) (f : List Byte) (good : Hw → Hw) : Hw :=
  let d := h.dk n
  let own := if d.role = 1 then 0 else d.addr
  if !h.domUp .deck || decide (d.role = 0) then h
  else if !dkGood f then h.dkCount n 0
  else if dkDst f ≠ 63 ∧ dkDst f ≠ own then h
  else if dkType f ≠ type then h
  else good ((h.tcount (dkUnit n) 4).tcount (dkUnit n) (if type = 1 then 2 else 0))

/-- A coordinator hears a valid frame of a member: silence ends, QL, UPREQ (R364), and SLOT_COLL when it came in
another station's slot (R359). -/
def Hw.memberFrame (h : Hw) (n : Fin 2) (f : List Byte) (sub : Nat) : Hw :=
  let d := h.dk n
  let a := dkSrc f
  let pos := (h.time.axis + sub - d.start) / auPerPs
  let foreignSlot := (planSlots d.rate d.plan).any (fun s => decide (s.1 ≠ a ∧ s.2.1 ≤ pos ∧ pos < s.2.1 + s.2.2))
  if (d.at_ a).isNone then h
  else
    let h := h.updDk n (fun d => { d with roster := d.roster.map (fun m =>
      if m.addr = a then { m with ql := dkQl f, heard := true } else m) })
    let h := if foreignSlot then h.dkCount n 3 else h
    if !dkUpreq f then h
    else
      let h := h.updDk n (fun d => { d with down := 0, qual := (if d.down ≠ 0 then 0 else d.qual) })
      if (h.dk n).rate < h.dkCeil n then h.updDk n (fun d => { d with upreq := true }) else h.dkCount n 5

/-- DECK_STATUS (R359, R364). -/
def execDeckStatus (n : Fin 2) (f : List Byte) (sub : Nat) (s : State) : Host.Outcome State Fault Refusal :=
  s.on (fun h => h.dkRx n 4 f (fun h => h.when (decide ((h.dk n).role = 1)) (fun h => h.memberFrame n f sub)))

/-- DECK_DATA (R374): written to the receive ring with its SFD stamp. -/
def execDeckData (n : Fin 2) (f : List Byte) (sub : Nat) (s : State) : Host.Outcome State Fault Refusal :=
  s.on (fun h => h.dkRx n 0x10 f (fun h =>
    let h := if (h.dk n).role = 1 then h.memberFrame n f sub else h
    if (h.dk n).role = 2 ∧ !(h.dk n).joined then h else h.rxPut n f (h.time.axis + sub)))

/-! ## Joining and leaving (R367 to R370) -/

/-- The address a MID gets: its present one, the one it left while it is in quarantine, else the lowest free. -/
def DkSt.giveAddr (d : DkSt) (mid : Nat) : Option Nat :=
  match d.of mid, d.quarantine.find? (fun q => decide (q.mid = mid)) with
  | some m, _ => some m.addr
  | none, some q => some q.addr
  | none, none =>
    ((List.range 62).map (· + 1)).find? (fun a => (d.at_ a).isNone && !d.quarantine.any (fun q => decide (q.addr = a)))

/-- JOIN (R367): a coordinator assigns an address and queues the JOIN_ACK. -/
def execJoin (n : Fin 2) (f : List Byte) (s : State) : Host.Outcome State Fault Refusal :=
  s.on (fun h => h.dkRx n 2 f (fun h =>
    let d := h.dk n
    h.when (decide (d.role = 1 ∧ dkSrc f = 63) && !d.yielded) (fun h =>
      let p := dkPayload f
      let mid := beNat (p.take 8)
      let mr := (p.getD 8 0).toNat % 4
      match d.giveAddr mid with
      | none => h.updDk n (fun d => { d with acks := d.acks ++ [(mid, 63, 1)] })
      | some a =>
        let known := (d.of mid).isSome
        let h := h.updDk n (fun d => { d with
          roster := if known then d.roster.map (fun m => if m.mid = mid then { m with silent := 0, maxRate := mr, heard := true } else m)
                    else d.roster ++ [{ addr := a, mid := mid, maxRate := mr, heard := true }]
          quarantine := d.quarantine.filter (fun q => decide (q.mid ≠ mid))
          acks := d.acks ++ [(mid, a, 0)], dirty := d.dirty || !known })
        if known then h else h.memberNote n a mid "join")))

/-- A member joins, or its JOIN_ACK says full and it tries again at every roll call (R367). -/
def execJoinAck (n : Fin 2) (f : List Byte) (s : State) : Host.Outcome State Fault Refusal :=
  s.on (fun h => h.dkRx n 3 f (fun h =>
    let p := dkPayload f
    h.when (decide ((h.dk n).role = 2 ∧ beNat (p.take 8) = nodeId) && (h.dk n).synced) (fun h =>
      if (p.getD 9 0).toNat = 0 then
        let h := h.updDk n (fun d => { d with
          joined := true, addr := (p.getD 8 0).toNat % 64, joinWait := none, searching := false, tries := 0, idle := 0 })
        (h.updRef (deckIn n) (fun r => { r with alive := true, qual := 0 })).txRecheck n
      else h.updDk n (fun d => { d with joinWait := none }))))

/-- Drop a member (R368): its slot leaves the plan, its address is in quarantine for 50 superframes, entries for it
complete with PEER_GONE. -/
def Hw.dropMember (h : Hw) (n : Fin 2) (a : Nat) (ev : String) : Hw :=
  match (h.dk n).at_ a with
  | none => h
  | some m =>
    let h := h.updDk n (fun d => { d with
      roster := d.roster.filter (fun x => decide (x.addr ≠ a)), dirty := true
      quarantine := d.quarantine ++ [{ addr := a, mid := m.mid, left := 50 }]
      buckets := unassoc a d.buckets })
    (h.memberNote n a m.mid ev).txSettleAll n

/-- MEMBER_DROP (R368): 50 superframes with no valid frame from an address. -/
def execMemberDrop (n : Fin 2) (a : Nat) (s : State) : Host.Outcome State Fault Refusal :=
  s.on (fun h => h.when (decide ((h.dk n).role = 1) && ((h.dk n).at_ a).any (fun m => decide (50 ≤ m.silent)))
    (fun h => h.dropMember n a "drop"))

/-- QUARANTINE_EXPIRY (R368): addresses whose 50 superframes have passed. -/
def execQuarantineExpiry (n : Fin 2) (s : State) : Host.Outcome State Fault Refusal :=
  s.on (fun h => h.updDk n (fun d => { d with quarantine := d.quarantine.filter (fun q => decide (q.left ≠ 0)) }))

/-- The member's own coordinator is lost: it resynchronises and its search time starts (R369, R375, R376). -/
def Hw.lostCoord (h : Hw) (n : Fin 2) : Hw :=
  let h := h.updDk n (fun d => { d with
    joined := false, synced := false, addr := 63, beaconRun := 0, missed := 0, cid := none, joinWait := none, plan := [],
    newPlan := none, searching := true, searchAt := h.time.up, leavePend := none })
  (h.updRef (deckIn n) (fun r => { r with alive := false, qual := 0 })).notice (dkSrcNo n) 4 "deck.sync"
    [("seg", segName n), ("cid", "none"), ("state", "lost")]

/-- DECK_LEAVE (R368): a member's LEAVE drops it at once; the coordinator's ends the member's joined state. -/
def execDeckLeave (n : Fin 2) (f : List Byte) (s : State) : Host.Outcome State Fault Refusal :=
  s.on (fun h => h.dkRx n 5 f (fun h =>
    if (h.dk n).role = 1 then (h.memberFrame n f 0).dropMember n (dkSrc f) "leave"
    else if dkSrc f = 0 ∧ (h.dk n).joined then h.lostCoord n else h))

/-- DECK_COORD_DUP (R370): three superframes of foreign beacons, or of lost own ones: F520; the worse claim yields. -/
def execDeckCoordDup (n : Fin 2) (s : State) : Host.Outcome State Fault Refusal :=
  s.on (fun h =>
    let d := h.dk n
    h.when (decide (d.role = 1 ∧ 3 ≤ d.foreignRun)) (fun h =>
      let worse := match d.foreign with
        | some (t, c) => decide (h.beaconTql < t ∨ (h.beaconTql = t ∧ c < nodeId))
        | none => false
      let h := h.updDk n (fun d => { d with foreignRun := 0, quietRun := 0, yielded := d.yielded || worse })
      (h.notice (dkSrcNo n) 5 "deck.coord_dup" [("seg", segName n),
        ("cid", match d.foreign with | some (_, c) => "0x" ++ hexPad 16 c | none => "none"),
        ("yield", show01 worse)]).faultFrom 23 (segName n)))

/-- COORD_RESUME (R370): 50 superframes with no foreign beacon. -/
def execCoordResume (n : Fin 2) (s : State) : Host.Outcome State Fault Refusal :=
  s.on (fun h => h.when (decide (50 ≤ (h.dk n).quietRun) && (h.dk n).yielded) (fun h =>
    h.updDk n (fun d => { d with yielded := false, foreign := none })))

/-! ## Beacons at a member (R357, R367, R369, R371, R372) -/

/-- The plan entries at an offset. -/
def planOf (p : List Byte) (o k : Nat) : List (Nat × Nat) :=
  (List.range k).map (fun i => (beAt p (o + 3 * i) 1, beAt p (o + 3 * i + 1) 2))

/-- q of R372 in ps. -/
def segQ (rate : Nat) : Nat := if rate = 2 then 5000 else if rate = 1 then 8000 else 15000

/-- The quality, offset and leap of a beacon at the Deckline input. -/
def Hw.deckQuality (h : Hw) (n : Fin 2) (p : List Byte) (rate : Nat) : Hw :=
  let i := deckIn n
  let t := beAt p 28 1
  let h := h.updRef i (fun r => { r with
    mapped := (if t = 0 then 0 else max 1 (t - 1)),
    uref := min uncMax (beAt p 20 8 + segQ rate + h.effN .deckDkDelayUnc n), qual := r.qual + 1, rate := 100,
    lastEv := some h.time.up })
  let fl := beAt p 31 1
  let off : Int := if beAt p 32 2 < 32768 then (beAt p 32 2 : Int) else (beAt p 32 2 : Int) - 65536
  let h := h.reportOff i (if fl / 4 % 2 = 1 then some off else none)
  (h.refLeap i (fl % 4) (some (beAt p 34 6))).tryQualify i

/-- The member's schedule, synchronisation and plan from a beacon of its coordinator. -/
def Hw.followBeacon (h : Hw) (n : Fin 2) (p : List Byte) (rate : Nat) (start : Int) : Hw :=
  let d := h.dk n
  let cid := beNat (p.take 8)
  let run := if d.cid = some cid then d.beaconRun + 1 else 1
  let synced := decide (3 ≤ run)
  let nc := beAt p 42 1
  let plan := planOf p 44 nc
  let new := planOf p (44 + 3 * nc) (beAt p 43 1)
  let changed := decide (plan ≠ d.plan)
  let h := h.updDk n (fun d => { d with
    cid := some cid, beaconRun := run, synced := synced, missed := 0, beacon := true, slotIdx := 0, slotUsed := 0,
    rate := rate, start := start.toNat, plan := plan, planVer := beAt p 40 1,
    newPlan := if beAt p 41 1 = 0 then none else some (new, beAt p 41 1),
    rollcall := decide (beAt p 30 1 / 16 % 2 = 1), index := beAt p 14 4 / 10000000,
    joinWait := match d.joinWait with | some (k + 1) => some k | _ => none })
  let h := if synced && !d.synced then
      h.notice (dkSrcNo n) 4 "deck.sync" [("seg", segName n), ("cid", "0x" ++ hexPad 16 cid), ("state", "synced")] else h
  if changed && (h.dk n).joined then h.txRecheck n else h

/-- BEACON_RECEIVED (R371): its timestamp point was stamped `sub` after the tick, at the rate code `rate` its preamble
shows. A coordinator takes it for a foreign one (R370); a joined member ignores other coordinators (R369). -/
def execBeaconReceived (n : Fin 2) (f : List Byte) (rate : Fin 3) (sub : Nat) (s : State) :
    Host.Outcome State Fault Refusal :=
  s.on (fun h => h.dkRx n 1 f (fun h => h.when h.time.clockOn (fun h =>
    let d := h.dk n
    let p := dkPayload f
    let cid := beNat (p.take 8)
    if d.role = 1 then
      (if cid = nodeId then h
       else h.updDk n (fun d => { d with foreignSeen := true, quietRun := 0, foreign := some (beAt p 28 1, cid) }))
    else if d.joined && decide (d.cid ≠ some cid) then h.dkCount n 6
    else
      let tBus : Int := ((h.time.axis + sub : Nat) : Int) -
        ((h.effN .deckDkRxDelay n + h.effN .deckDkCableDelay n) * auPerPs : Nat)
      let start := tBus - (24 * bitPs rate.val * auPerPs : Nat)
      let ten : Int := (10 * auPerMs : Nat)
      let dev := (start - d.start + 25 * auPerUs) % ten
      let onTime := decide (dev ≤ 50 * (auPerUs : Int))
      let tx : Int := (beAt p 8 6 * auPerSec + beAt p 14 4 * auPerNs + beAt p 18 2 * auPerFrac : Nat)
      let ofs := (tx - tBus) / (auPerPs : Int)
      let joined := d.joined
      let h := h.followBeacon n p rate.val start
      if !joined then h
      else
        let h := h.deckQuality n p rate.val
        if h.islandOk (dkIsland n) && onTime then
          (h.updDk n (fun d => { d with ofs := ofs })).deliverOffset (deckIn n) ofs
        else h)))

/-- BEACON_MISSING (R369, R357): this superframe's beacon did not come. A pending plan still applies at its boundary; the
third missing one ends the joined state. -/
def execBeaconMissing (n : Fin 2) (s : State) : Host.Outcome State Fault Refusal :=
  s.on (fun h =>
    let d := h.dk n
    h.when (decide (d.role = 2) && d.cid.isSome) (fun h =>
      let h := h.updDk n (fun d => { d with
        missed := d.missed + 1, beaconRun := 0, beacon := false, slotIdx := 0, slotUsed := 0,
        start := d.start + 10 * auPerMs
        plan := (match d.newPlan with | some (p, 1) => p | _ => d.plan)
        newPlan := (match d.newPlan with | some (p, 2) => some (p, 1) | _ => none)
        joinWait := (match d.joinWait with | some (k + 1) => some k | _ => none) })
      let h := h.updRef (deckIn n) (fun r => { r with
        qual := (if r.st = RefState.absent ∨ r.st = RefState.qualifying then 0 else r.qual) })
      if (h.dk n).missed < 3 then h
      else if d.joined then h.lostCoord n
      else h.updDk n (fun d => { d with cid := none, synced := false, missed := 0 })))

/-- DECK_SEARCH_EXPIRY (R375, R376): the search time ends unjoined: held entries complete with NOT_JOINED and the vote is
withdrawn. -/
def execDeckSearchExpiry (n : Fin 2) (s : State) : Host.Outcome State Fault Refusal :=
  s.on (fun h =>
    let d := h.dk n
    h.when (decide (d.role = 2) && !d.joined && d.searching && h.passed d.searchAt (h.effN .deckDkSearch n)) (fun h =>
      (h.updDk n (fun d => { d with searching := false })).txSettleAll n))

/-! ## Seal traffic (R373) -/

/-- The rate test of `deck.dkN.seal_class`, one bucket for each address: the over setting when it is over its limit. -/
def Hw.sealBucket (h : Hw) (n : Fin 2) (a : Nat) : Option Nat × Hw :=
  let c := h.effN .deckDkSealClass n
  let t := h.time.axis
  if h.polN t .prongClassUrgent c = 1 then (none, h)
  else
    let cap := h.polN t .prongClassBurst c * 1024
    let (tok, last) := (assoc a (h.dk n).buckets).getD (cap, h.time.up)
    let tok := min cap (tok + h.polN t .prongClassRate c * 1024 * (h.time.up - last) / auPerSec)
    let put := fun (k : Nat) => h.updDk n (fun d => { d with buckets := reassoc a (k, h.time.up) d.buckets })
    if 1024 ≤ tok then (none, put (tok - 1024))
    else
      let o := h.polN t .prongClassOver c
      (if o = 0 then none else some o, put tok)

/-- SEAL_REQ (R373): stamped at its SFD `sub` after the tick and tested by the Seal unit. -/
def execSealReq (n : Fin 2) (f : List Byte) (sub : Nat) (s : State) : Host.Outcome State Fault Refusal :=
  s.on (fun h => h.dkRx n 0x20 f (fun h =>
    let a := dkSrc f
    match (h.dk n).at_ a with
    | none => h
    | some m =>
      h.when (decide ((h.dk n).role = 1) && h.domUp .seal) (fun h =>
        let h := h.memberFrame n f sub
        let (lim, h) := h.sealBucket n a
        h.deckSeal n.val a m.mid (beBytes 1 4 ++ beBytes 1 n.val ++ beBytes 1 a ++ beBytes 8 m.mid) (dkPayload f)
          (h.sampleIn (dkIsland n) sub) lim)))

/-- The first reply that waits for a segment. -/
def SealReply.forSeg (n : Fin 2) (r : SealReply) : Bool :=
  match r.src with
  | .deck g _ _ => decide (g = n.val)
  | _ => false

/-- SEAL_RESP (R373): the oldest reply of the segment goes out in the coordinator slot when it fits, or is discarded as
SEAL_UNDELIV when its address has been dropped or holds another MID. -/
def execSealResp (n : Fin 2) (e : Echo) (s : State) : Host.Outcome State Fault Refusal :=
  s.on (fun h =>
    let d := h.dk n
    match h.sealU.deckOut.find? (fun r => r.forSeg n) with
    | none => h
    | some r =>
      let (a, mid) := match r.src with | .deck _ a m => (a, m) | _ => (0, 0)
      let drop := fun (h : Hw) => { h with sealU := { h.sealU with deckOut := h.sealU.deckOut.erase r } }
      let gone := match d.at_ a with | some m => decide (m.mid ≠ mid) | none => true
      if gone then (drop h).dkCount n 7
      else
        match d.ownSlots.head? with
        | none => h
        | some (_, off, len) =>
          let need := airPs d.rate r.bytes.length + guardPs d.rate
          h.when (h.domUp .deck && d.beacon && decide (d.role = 1)) (fun h =>
            if len < d.slotUsed + need then
              (if len < need then
                (if d.rate < h.dkCeil n then h.updDk n (fun d => { d with upreq := true, down := 0 }) else h.dkCount n 5)
               else h)
            else
              let h := h.updDk n (fun d => { d with slotUsed := d.slotUsed + need })
              match e with
              | .sent ns => drop ((h.dkPut n (off + d.slotUsed) (dkFrame a 0 0x21 0 false r.bytes)).echoed n ns)
              | _ => h))

/-! ## Settings and power -/

/-- R376: the segment's vote on DECK. -/
def Hw.deckVote (h : Hw) (n : Fin 2) : Bool :=
  let d := h.dk n
  decide (d.role = 1) || (decide (d.role = 2) && (d.joined || d.searching))

/-- A joined member's LEAVE with a reason, sent in its next chance (R376, R377). -/
def Hw.deckLeaving (h : Hw) (n : Fin 2) (reason : Nat) : Hw :=
  h.updDk n (fun d => if d.role = 2 ∧ d.joined then { d with leavePend := some reason } else d)

/-- After a step of Axis time the next superframe starts at least 1.6 ms later. -/
def Hw.deckStep (h : Hw) : Hw :=
  (List.finRange 2).foldl (fun (h : Hw) (n : Fin 2) =>
    h.updDk n (fun d => { d with notBefore := h.time.axis + 1600 * auPerUs, beacon := false })) h

end Sys2Proof.Machine
end

