-- ==== Sys2Proof/Machine/Lattice.lean ====
section
/-!
DEFINITION. The Lattice (R326 to R346): frames, neighbours, the root and the tree, engine numbers, the two-way exchange,
asymmetry estimates and the merge test.
-/
set_option autoImplicit false

namespace Sys2Proof.Machine

/-! ## Links -/

/-- The input of a link. -/
def latIn (n : Fin 4) : Fin 20 := ⟨14 + n.val, by omega⟩
/-- The island of a link. -/
def latIsland (n : Fin 4) : Fin 48 := ⟨28 + n.val, by omega⟩
/-- The name of a link. -/
def linkName (n : Nat) : String := "l" ++ toString n

/-- The logical port and VLAN of a tunnel (R345). -/
def Hw.latVia (h : Hw) (n : Fin 4) : Option (Fin 16 × Nat) :=
  match h.effL .latLVia n with
  | [p, k, v] => if hp : p < 4 ∧ k < 4 then some (⟨4 * p + k, by omega⟩, v) else none
  | _ => none

/-- The link is in service: the Lattice and the link are enabled and LAT is up. -/
def Hw.latOn (h : Hw) (n : Fin 4) : Bool := h.domUp .lat && h.effB .latEnable && h.effB .latLEnable n

/-- Its lane or logical port carries frames. -/
def Hw.latCarrier (h : Hw) (n : Fin 4) : Bool :=
  match h.latVia n with
  | some (l, _) => h.domUp .port && (h.port.p[lpPort l]).lpUp (lpLane l)
  | none => (h.lat.link[n]).lock

/-- The link is in service and carries frames. -/
def Hw.latAlive (h : Hw) (n : Fin 4) : Bool := h.latOn n && h.latCarrier n

/-- R345: a tunnel is READY only while its logical port is TS_READY. -/
def Hw.latReady (h : Hw) (n : Fin 4) : Bool :=
  let l := h.lat.link[n]
  decide (l.st = .ready ∨ l.st = .split) && (match h.latVia n with | some (p, _) => (h.lp p).ready | none => true)

/-- Two-way HELLO: UP, READY or SPLIT. -/
def LatLink.twoWay (l : LatLink) : Bool := decide (l.st = .up ∨ l.st = .ready ∨ l.st = .split)

/-- The ROLE of LAT_Ln_STATUS: 0 none, 1 parent, 2 child, 3 peer. -/
def Hw.latRole (h : Hw) (n : Fin 4) : Nat :=
  let l := h.lat.link[n]
  if h.lat.parent = some n then 1 else if !l.twoWay then 0 else if l.peerUp then 2 else 3

/-- An EID as notices show it. -/
def eidText (e : Nat) : String := if e < 4096 then toString e else "unset"

/-- A link's state changes: `lat.link`. -/
def Hw.latState (h : Hw) (n : Fin 4) (st : LinkState) : Hw :=
  if (h.lat.link[n]).st = st then h
  else
    let h := h.updLink n (fun l => { l with st := st })
    h.notice 17 0 "lat.link" [("link", linkName n), ("state", st.name),
      ("peer", if (h.lat.link[n]).peer.isSome then eidText (h.lat.link[n]).peerEid else "none")]

/-- The Lattice input of a link is heard on the parent link, or not. -/
def Hw.latInput (h : Hw) (n : Fin 4) (alive : Bool) : Hw :=
  h.updRef (latIn n) (fun r => { r with alive := alive, qual := (if alive && r.alive then r.qual else 0) })

/-- The neighbour is lost (R330): the link keeps its counters and configuration only. -/
def Hw.latLose (h : Hw) (n : Fin 4) : Hw :=
  let st : LinkState := if h.latAlive n then .pairing else .down
  let h := h.updLink n (fun l =>
    { st := l.st, lock := l.lock, phase := l.phase, seqs := l.seqs, cnt := l.cnt, estSum := l.estSum, estN := l.estN,
      third := [] })
  (h.latState n st).latInput n false

/-! ## Frames -/

/-- A time of an EXCHANGE: AXIS_SEC (6), AXIS_NS (4) and AXIS_FRAC (2). -/
def stampBytes (t : Nat) : List Byte := beBytes 6 (secOf t) ++ beBytes 4 (nsOf t) ++ beBytes 2 (fracOf t)

/-- The time such a field names. -/
def stampAt (f : List Byte) (o : Nat) : Nat :=
  beAt f o 6 * auPerSec + beAt f (o + 6) 4 * auPerNs + beAt f (o + 10) 2 * auPerFrac

/-- An EID field (R327). -/
def eidField (e : Nat) : Nat := if e < 4096 then e else 0x8000
/-- The EID of a field; unset counts as 4,096. -/
def eidOf (x : Nat) : Nat := if x / 32768 % 2 = 1 then 4096 else x % 4096

/-- The engine's own EID, 4,096 when unset. -/
def Hw.ownEid (h : Hw) : Nat := h.lat.eid.getD 4096

/-- The common header of Table 16.1 for a frame of `type` on a link. -/
def Hw.latHead (h : Hw) (n : Fin 4) (type : Fin 4) : List Byte :=
  beBytes 1 1 ++ beBytes 1 (type.val + 1) ++
  beBytes 1 (b2n (h.latVia n).isSome + 2 * b2n (decide (h.lat.parent = some n))) ++ beBytes 1 n.val ++
  beBytes 2 ((h.lat.link[n]).seqs[type]) ++ beBytes 2 (eidField h.ownEid) ++ beBytes 8 nodeId

/-- The length of a Lattice frame with this payload, from DA to FCS; a tunnel adds its C-tag. -/
def latLen (tunnel : Bool) (payload : List Byte) : Nat := max 64 (18 + payload.length) + (if tunnel then 4 else 0)

/-- Put a payload on its link and count its SEQ. EXCHANGEs are launch-timed at `at_`; other frames are not. -/
def Hw.latSend (h : Hw) (n : Fin 4) (type : Fin 4) (at_ : Option Nat) (payload : List Byte) : Hw :=
  let h' := (h.updLink n (fun l => { l with seqs := l.seqs.set type ((l.seqs[type] + 1) % 65536) })).tcount 10
    (if type = 0 then 1 else if type = 2 then 3 else 0)
  match h.latVia n with
  | none => { h' with lat := { h'.lat with sent := (n.val, at_.getD h.time.axis, payload) :: h'.lat.sent } }
  | some (l, _) =>
    let len := latLen true payload
    match at_ with
    | none => h'.sendPlain l len (.lattice n payload)
    | some t => h'.bookOn l { at_ := t, dur := psAu ((len + 20) * (h'.lpRow l).bytePs), msg := .lattice n payload,
                              timed := false }

/-- LEAVE on a link that goes out of service, before it does (R331); reasons of Table 16.5. The setting that takes it out may
already be in effect. -/
def Hw.latLeave (h : Hw) (n : Fin 4) (reason : Nat) : Hw :=
  if h.domUp .lat && h.latCarrier n && decide ((h.lat.link[n]).st ≠ .down) then
    h.latSend n 3 none (h.latHead n 3 ++ beBytes 1 reason ++ beBytes 3 0)
  else h

/-- A received frame of `type` whose body needs `min_` bytes: `good` takes it; RX_BAD counts a bad one (R326). -/
def Hw.latRx (h : Hw) (n : Fin 4) (type : Nat) (min_ : Nat) (f : List Byte) (fcsOk : Bool) (good : Hw → Hw) : Hw :=
  if !h.latAlive n then h
  else if !fcsOk || decide (beAt f 0 1 ≠ 1 ∨ beAt f 1 1 = 0 ∨ 4 < beAt f 1 1 ∨ f.length < min_) then h.latCount n 0
  else if beAt f 1 1 ≠ type then h
  else good h

/-- The frame comes from the link's neighbour. -/
def Hw.fromPeer (h : Hw) (n : Fin 4) (f : List Byte) : Bool :=
  decide ((h.lat.link[n]).peer = some (beAt f 8 8)) && decide ((h.lat.link[n]).st ≠ .reject)

/-! ## HELLO and the link states -/

/-- LAT_HELLO_SEND (R330, Table 16.2). -/
def execLatHelloSend (n : Fin 4) (s : State) : Host.Outcome State Fault Refusal :=
  s.on (fun h => h.when (h.sys.released && h.latAlive n) (fun h =>
    let l := h.lat.link[n]
    let heard := match l.helloAt with
      | some t => !h.passed t 375000000000
      | none => false
    h.latSend n 0 none (h.latHead n 0 ++ beBytes 8 (if heard then l.peer.getD 0 else 0) ++
      beBytes 1 (if heard then l.peerLink else 0xFF) ++ beBytes 1 h.sys.runMode ++ beBytes 2 0)))

/-- A HELLO of the neighbour, new or known, `peerNode` being the NODE_ID it hears. -/
def Hw.heardHello (h : Hw) (n : Fin 4) (f : List Byte) : Hw :=
  let node := beAt f 8 8
  let h := if (h.lat.link[n]).peer.isSome && decide ((h.lat.link[n]).peer ≠ some node) then h.latLose n else h
  let h := h.updLink n (fun l => { l with
    peer := some node, peerLink := beAt f 3 1, peerEid := eidOf (beAt f 6 2), peerUp := decide (beAt f 2 1 / 2 % 2 = 1),
    helloAt := some h.time.up })
  if (h.lat.link[n]).twoWay then h
  else h.latState n (if beAt f 16 8 = nodeId then .up else .pairing)

/-- LAT_HELLO_RECEIVED (R330, R346): the own NODE_ID, or a third engine on a tunnel that is not yet UP, makes the link
REJECT; on a tunnel that is UP the third engine's HELLO is discarded and raises `lat.peer` once. -/
def execLatHelloReceived (n : Fin 4) (f : List Byte) (fcsOk : Bool) (s : State) : Host.Outcome State Fault Refusal :=
  s.on (fun h => h.latRx n 1 28 f fcsOk (fun h =>
    let h := h.tcount 10 2
    let node := beAt f 8 8
    let l := h.lat.link[n]
    let tunnel := (h.latVia n).isSome
    if node = nodeId then
      ((h.latLose n).updLink n (fun l => { l with helloAt := some h.time.up })).latState n .reject
    else if tunnel && l.peer.isSome && decide (l.peer ≠ some node) then
      if l.twoWay then
        if l.third.contains node then h
        else (h.updLink n (fun l => { l with third := node :: l.third })).notice 17 6 "lat.peer"
          [("link", linkName n), ("node", "0x" ++ hexPad 16 node)]
      else h.latState n .reject
    else h.heardHello n f))

/-- HELLO_MISS (R330): no HELLO for 375 ms, three of them missed, loses the neighbour. -/
def execHelloMiss (n : Fin 4) (s : State) : Host.Outcome State Fault Refusal :=
  s.on (fun h => h.when (decide ((h.lat.link[n]).st ≠ .down) && h.passedO (h.lat.link[n]).helloAt 375000000000) (fun h =>
    (((h.latCount n 1).latCount n 1).latCount n 1).latLose n))

/-- LAT_LEAVE_RECEIVED (R330): the neighbour is lost at once. -/
def execLatLeaveReceived (n : Fin 4) (f : List Byte) (fcsOk : Bool) (s : State) : Host.Outcome State Fault Refusal :=
  s.on (fun h => h.latRx n 4 20 f fcsOk (fun h => if h.fromPeer n f then h.latLose n else h))

/-- LAT_BLOCK_LOCK (R330): a direct lane gains block lock, with the phase of its transmit block grid, or loses it. -/
def execLatBlockLock (n : Fin 4) (lock : Bool) (phase : Nat) (s : State) : Host.Outcome State Fault Refusal :=
  s.on (fun h => h.when (h.latOn n && (h.latVia n).isNone) (fun h =>
    let h := h.updLink n (fun l => { l with lock := lock, phase := (if lock then phase else l.phase) })
    if lock then (if (h.lat.link[n]).st = .down then h.latState n .pairing else h)
    else h.latLose n))

/-- LINK_READY (R330): 256 markers have been taken since UP (`some` refinement in ps) and the island meets R57; or none
has come for 1 s (`none`) and a READY link falls to UP. -/
def execLinkReady (n : Fin 4) (refine : Option Int) (s : State) : Host.Outcome State Fault Refusal :=
  s.on (fun h =>
    let l := h.lat.link[n]
    match refine with
    | some r =>
      h.when (l.twoWay && h.islandOk (latIsland n)) (fun h =>
        let h := h.updLink n (fun l => { l with refine := r })
        if l.st = .up then h.latState n .ready else h)
    | none => h.when (decide (l.st = .ready ∨ l.st = .split)) (fun h =>
        (h.updLink n (fun l => { l with merge := [], mergeOk := none, testAt := none })).latState n .up))

/-! ## Claims, root and tree (R332 to R334) -/

/-- The order of claims: higher TQL, lower PRIO, lower EID, lower NODE_ID. -/
def Claim.better (a b : Claim) : Bool :=
  if a.tql ≠ b.tql then decide (b.tql < a.tql)
  else if a.prio ≠ b.prio then decide (a.prio < b.prio)
  else if a.eid ≠ b.eid then decide (a.eid < b.eid)
  else decide (a.node < b.node)

/-- The engine's own claim (R332). -/
def Hw.ownClaim (h : Hw) : Claim :=
  let t := (List.finRange 20).foldl (fun (m : Nat) (i : Fin 20) =>
    if (refKind i ≠ .lat) ∧ h.isCand i then max m (h.ref.ins[i]).tql else m) 0
  { tql := t, prio := h.effN .latPrio, eid := h.ownEid, node := nodeId }

/-- A link's claim whose ROOT_SEQ has advanced within the last second (R333), whatever its HOPS. -/
def Hw.freshClaim (h : Hw) (n : Fin 4) : Option LatAnn :=
  let l := h.lat.link[n]
  if h.latReady n && decide (l.st ≠ .split) then
    match l.ann with
    | none => none
    | some a =>
      match assoc a.claim.node l.seen with
      | some (q, t) => if q = a.seq ∧ !h.passed t 1000000000000 then some a else none
      | none => none
  else none

/-- R343: in LOCKED and HOLDOVER a link that would give a new ROOT_NODE must have passed the merge test. -/
def Hw.mayAdopt (h : Hw) (n : Fin 4) (a : LatAnn) : Bool :=
  decide (h.lat.parent = some n ∨ a.claim.node = h.lat.root.node) ||
  decide (h.time.trust ≠ .locked ∧ h.time.trust ≠ .holdover) || decide ((h.lat.link[n]).mergeOk = some a.claim.node)

/-- The claims on offer: link and claim. -/
def Hw.claims (h : Hw) : List (Fin 4 × LatAnn) :=
  (List.finRange 4).filterMap (fun n => match h.freshClaim n with
    | some a => if h.mayAdopt n a then some (n, a) else none
    | none => none)

/-- The best of the own claim and those on offer; the own one on a tie. -/
def bestClaim (own : Claim) (l : List (Fin 4 × LatAnn)) : Claim :=
  l.foldl (fun (b : Claim) (c : Fin 4 × LatAnn) => if c.2.claim.better b then c.2.claim else b) own

/-- The order of parents among links that carry the best claim (R333). -/
def Hw.betterParent (h : Hw) (a b : Fin 4 × LatAnn) : Bool :=
  let w := fun (n : Fin 4) => b2n (decide ((h.ref.ins[latIn n]).st = .wtr))
  let la := h.lat.link[a.1]
  let lb := h.lat.link[b.1]
  if a.2.hops ≠ b.2.hops then decide (a.2.hops < b.2.hops)
  else if w a.1 ≠ w b.1 then decide (w a.1 < w b.1)
  else if la.peerEid ≠ lb.peerEid then decide (la.peerEid < lb.peerEid)
  else if la.peer ≠ lb.peer then decide (la.peer.getD 0 < lb.peer.getD 0)
  else decide (a.1 < b.1)

/-- The parent: the present one while it carries the best claim and no other link offers strictly fewer hops. -/
def Hw.chooseParent (h : Hw) (l : List (Fin 4 × LatAnn)) : Option (Fin 4 × LatAnn) :=
  let best := l.foldl (fun (m : Option (Fin 4 × LatAnn)) c => match m with
    | none => some c
    | some b => if h.betterParent c b then some c else some b) none
  match l.find? (fun c => decide (h.lat.parent = some c.1)), best with
  | some c, some b => if b.2.hops < c.2.hops then some b else some c
  | _, b => b

/-- The outcome of an election. -/
structure Tree where
  root : Claim
  seq : Nat
  isRoot : Bool
  detached : Bool
  hops : Nat
  parent : Option (Fin 4)
deriving DecidableEq, Repr

/-- R333: the best claim decides; a best claim heard only with HOPS 32 detaches the engine. -/
def Hw.elect (h : Hw) : Tree × Option (Fin 4) :=
  let own := h.ownClaim
  let cs := h.claims
  let best := bestClaim own cs
  let carry := cs.filter (fun c => decide (c.2.claim = best))
  let use := carry.filter (fun c => decide (c.2.hops < 32))
  if best = own then ({ root := own, seq := h.lat.rootSeq, isRoot := true, detached := false, hops := 0, parent := none }, none)
  else match h.chooseParent use with
    | some (n, a) =>
      ({ root := best, seq := a.seq, isRoot := false, detached := false, hops := a.hops + 1, parent := some n }, none)
    | none =>
      ({ root := best, seq := (match carry.head? with | some c => c.2.seq | none => 0), isRoot := false, detached := true,
         hops := 32, parent := none }, (carry.head?).map (fun c => c.1))

/-- The root's own ROOT_SEQ advances once per ANNOUNCE period. -/
def Hw.advanceSeq (h : Hw) : Hw :=
  let due := match h.lat.seqAt with
    | some t => h.passed t 125000000000
    | none => true
  if h.lat.isRoot && due then
    { h with lat := { h.lat with rootSeq := (h.lat.rootSeq + 1) % 4294967296, seqAt := some h.time.up } }
  else h

/-- The engine's own registry entry (R337). -/
def Hw.ownEntry (h : Hw) : RegEntry :=
  match h.lat.eid with
  | some e => { node := nodeId, eid := e, kind := if h.lat.assigned then 2 else 1 }
  | none => { node := nodeId, eid := 4096, kind := 3 }

/-- Queue an entry upward: at 512 the oldest is discarded. -/
def Hw.queueUp (h : Hw) (e : RegEntry) : Hw :=
  let l := if h.lat.up.length < 512 then h.lat.up else h.lat.up.drop 1
  { h with lat := { h.lat with up := l ++ [e] } }

/-- Queue an entry on every child link, once per link. -/
def Hw.queueDown (h : Hw) (e : RegEntry) : Hw :=
  (List.finRange 4).foldl (fun (h : Hw) (n : Fin 4) =>
    if h.latRole n = 2 then h.updLink n (fun l => { l with down := l.down ++ [e] }) else h) h

/-- A downward entry that names this engine (R338): GRANT, DISPLACE, FULL. A new EID applies from the next trust tick. -/
def Hw.actOn (h : Hw) (e : RegEntry) : Hw :=
  let say := fun (h : Hw) (kind result : String) =>
    h.notice 17 2 "lat.eid" [("eid", eidText e.eid), ("kind", kind), ("result", result)]
  if e.kind = 0x81 then
    if h.lat.eid = some e.eid then h
    else say { h with lat := { h.lat with eidNext := some (some e.eid, true) } } "assigned" "grant"
  else if e.kind = 0x82 then
    let old := h.lat.eid
    let h := { h with lat := { h.lat with eidNext := some (some e.eid, true) } }
    (h.notice 17 3 "lat.eid_dup" [("old", eidText (old.getD 4096)), ("new", eidText e.eid),
      ("holder", "0x" ++ hexPad 16 h.lat.root.node)]).fault 22
  else if e.kind = 0x83 then say { h with lat := { h.lat with eidNext := some (none, false) } } "none" "full"
  else h

/-- An answer of the root: down every child link, or to itself. -/
def Hw.answer (h : Hw) (e : RegEntry) : Hw := if e.node = nodeId then h.actOn e else h.queueDown e

/-- The holder of an EID in the roster. -/
def Hw.holder (h : Hw) (e : Nat) : Option RosterEntry := h.lat.roster.find? (fun r => decide (r.eid = e))

/-- The lowest free EID, of 4,096. -/
def Hw.freeEid (h : Hw) : Option Nat := (List.range 4096).find? (fun e => (h.holder e).isNone)

/-- The roster gives `e` to `node`, which holds no other. -/
def Hw.enrol (h : Hw) (e node : Nat) (fixed : Bool) : Hw :=
  let l := h.lat.roster.filter (fun r => !decide (r.eid = e ∨ r.node = node))
  { h with lat := { h.lat with roster := { eid := e, node := node, fixed := fixed, at_ := h.time.up } :: l } }

/-- The root gives `node` the lowest free EID by an entry of `kind` (GRANT or DISPLACE), or answers FULL. -/
def Hw.giveFree (h : Hw) (node kind : Nat) : Hw :=
  match h.freeEid with
  | some e => (h.enrol e node false).answer { node := node, eid := e, kind := kind }
  | none => h.answer { node := node, eid := 4096, kind := 0x83 }

/-- REGISTRY_ENTRY (R338): the root answers an upward entry. -/
def Hw.registry (h : Hw) (e : RegEntry) : Hw :=
  if e.kind = 3 then
    ({ h with lat := { h.lat with roster := h.lat.roster.filter (fun r => !decide (r.node = e.node)) } }).giveFree e.node 0x81
  else if e.kind ≠ 1 ∧ e.kind ≠ 2 then h
  else
    let fixed := decide (e.kind = 1)
    let grant := fun (h : Hw) => (h.enrol e.eid e.node fixed).answer { e with kind := 0x81 }
    match h.holder e.eid with
    | none => grant h
    | some r =>
      if r.node = e.node then grant h
      else if (fixed && !r.fixed) || (decide (fixed = r.fixed) && decide (e.node < r.node)) then
        (grant h).giveFree r.node 0x82
      else h.giveFree e.node 0x82

/-- Register now (R337): the root handles its own entry, any other engine sends it upward. -/
def Hw.register (h : Hw) : Hw :=
  let h := { h with lat := { h.lat with regRoot := some h.lat.root.node, regAt := some h.time.up } }
  if h.lat.isRoot then h.registry h.ownEntry else if h.lat.parent.isSome then h.queueUp h.ownEntry else h

/-- Adopt a tree: `lat.root` on a change of root or parent, `lat.depth` when detached; the parent link's input is heard,
the others not (Table 8.2); a new root starts with an empty roster; a changed ROOT_NODE on the selected input counts as a
change of the selected reference (R334). -/
def Hw.adopt (h : Hw) (t : Tree) (deep : Option (Fin 4)) : Hw :=
  let o := h.lat
  let newRoot := decide (o.root.node ≠ t.root.node)
  let h := { h with lat := { h.lat with
    root := t.root, rootSeq := t.seq, isRoot := t.isRoot, detached := t.detached, hops := t.hops, parent := t.parent,
    roster := if t.isRoot && !o.isRoot then [] else h.lat.roster } }
  let h := if newRoot ∨ o.parent ≠ t.parent ∨ o.isRoot ≠ t.isRoot then
      h.notice 17 1 "lat.root" [("old", eidText o.root.eid), ("new", eidText t.root.eid), ("hops", toString t.hops),
        ("parent", match t.parent with | some n => linkName n | none => "none")]
    else h
  let h : Hw := match deep with
    | some n => if o.detached then h else h.notice 17 5 "lat.depth" [("link", linkName n)]
    | none => h
  let h := (List.finRange 4).foldl (fun (h : Hw) (n : Fin 4) =>
    let on := decide (t.parent = some n)
    if on = (h.ref.ins[latIn n]).alive then h else h.latInput n on) h
  let h : Hw := match t.parent with
    | some n => if newRoot && decide (o.parent = some n ∧ h.ref.sel = some (latIn n)) then
        { h with time := { h.time with selChanged := true } } else h
    | none => h
  if (h.lat.isRoot || h.lat.parent.isSome) && decide (h.lat.regRoot ≠ some h.lat.root.node) then h.register else h

/-- ROOT_ELECTION (R333): once per ANNOUNCE period and after any link change. -/
def execRootElection (s : State) : Host.Outcome State Fault Refusal :=
  s.on (fun h => h.when (h.sys.released && h.domUp .lat && h.effB .latEnable) (fun h =>
    let (t, deep) := h.elect
    (h.adopt t deep).advanceSeq))

/-- REGISTRY_REFRESH (R337): every 64 s. -/
def execRegistryRefresh (s : State) : Host.Outcome State Fault Refusal :=
  s.on (fun h => h.when (h.domUp .lat && (h.lat.isRoot || h.lat.parent.isSome) &&
      (match h.lat.regAt with | some t => h.passed t 64000000000000 | none => true)) (fun h => h.register))

/-- ROSTER_EXPIRY (R338): entries not refreshed for 200 s are removed. -/
def execRosterExpiry (s : State) : Host.Outcome State Fault Refusal :=
  s.on (fun h => { h with lat := { h.lat with
    roster := h.lat.roster.filter (fun r => !h.passed r.at_ 200000000000000) } })

/-! ## ANNOUNCE -/

/-- The bytes of a registry entry (Table 16.4). -/
def RegEntry.bytes (e : RegEntry) : List Byte := beBytes 8 e.node ++ beBytes 2 (eidField e.eid) ++ beBytes 1 e.kind ++ beBytes 5 0

/-- The entry at an offset. -/
def regAt (f : List Byte) (o : Nat) : RegEntry := { node := beAt f o 8, eid := eidOf (beAt f (o + 8) 2), kind := beAt f (o + 10) 1 }

/-- Bytes 16 to 51 of an ANNOUNCE, as of the latest trust tick (Table 16.3). -/
def Hw.announceBody (h : Hw) : List Byte :=
  let t := h.lat
  let leap := match h.time.leap with
    | some l => if l.insert then 1 else 2
    | none => 0
  let locl := match h.ref.sel with
    | some i => decide (refKind i ≠ .lat)
    | none => false
  beBytes 1 t.root.tql ++ beBytes 1 t.root.prio ++ beBytes 2 (eidField t.root.eid) ++ beBytes 8 t.root.node ++
  beBytes 4 t.rootSeq ++ beBytes 1 t.hops ++ beBytes 1 h.activeTql ++ beBytes 1 h.time.trust.code ++
  beBytes 1 (leap + 4 * b2n (h.announceData 0).utcValid + 8 * b2n locl) ++ beBytes 8 h.time.unc ++
  beBytes 2 (h.taiUtc % 65536).toNat ++ beBytes 6 (match h.time.leap with | some l => l.at_ | none => 0)

/-- LAT_ANNOUNCE_SEND (R329): with registry entries up the parent link or down a child link, at most 32. -/
def execLatAnnounceSend (n : Fin 4) (s : State) : Host.Outcome State Fault Refusal :=
  s.on (fun h => h.when (h.latAlive n && h.latReady n) (fun h =>
    let role := h.latRole n
    let carries := decide ((h.lat.link[n]).st = .ready)
    let l := if !carries then [] else if role = 1 then h.lat.up.take 32
      else if role = 2 then (h.lat.link[n]).down.take 32 else []
    let payload := h.latHead n 1 ++ h.announceBody ++ beBytes 1 l.length ++ beBytes 3 0 ++ l.flatMap RegEntry.bytes
    let h := h.latSend n 1 none payload
    if !carries then h
    else if role = 1 then { h with lat := { h.lat with up := h.lat.up.drop 32 } }.tcount 10 8 (min 32 h.lat.up.length)
    else if role = 2 then
      (h.updLink n (fun l => { l with down := l.down.drop 32 })).tcount 10 8 (min 32 (h.lat.link[n]).down.length)
    else h))

/-- U_LINK in ps (R340). -/
def Hw.uLink (h : Hw) (n : Fin 4) : Nat :=
  let tunnel := (h.latVia n).isSome
  let a := match h.eff ⟨.latLAsymUnc, n, 0⟩ with
    | .nat v => v
    | _ => if tunnel then 1000000 else 50
  if tunnel then
    let d := (h.lat.link[n]).dlv
    let span := match d with
      | [] => 0
      | x :: r => (r.foldl max x - r.foldl min x).toNat
    a + ceilDiv span 2 + 1000
  else 200 + a

/-- What the neighbour announced (Table 16.3). -/
def annOf (f : List Byte) : LatAnn :=
  { claim := { tql := beAt f 16 1, prio := beAt f 17 1, eid := eidOf (beAt f 18 2), node := beAt f 20 8 },
    seq := beAt f 28 4, hops := beAt f 32 1, tql := beAt f 33 1, trust := beAt f 34 1,
    locl := decide (beAt f 35 1 / 8 % 2 = 1), unc := beAt f 36 8 }

/-- The parent's ANNOUNCE at the Lattice input: TQL, U_REF, offset and leap (R173, R335). -/
def Hw.latQuality (h : Hw) (n : Fin 4) (f : List Byte) : Hw :=
  let a := annOf f
  let i := latIn n
  let t := if (h.latVia n).isSome then (if a.tql = 0 then 0 else max 1 (a.tql - 1)) else a.tql
  let h := h.updRef i (fun r => { r with
    mapped := t, uref := min uncMax (a.unc + h.uLink n), qual := r.qual + 1, lastMsg := some h.time.up,
    rate := if (h.latVia n).isSome then 4 else 64 })
  let fl := beAt f 35 1
  let off : Int := if beAt f 44 2 < 32768 then (beAt f 44 2 : Int) else (beAt f 44 2 : Int) - 65536
  let h := h.reportOff i (if fl / 4 % 2 = 1 then some off else none)
  let h := h.refLeap i (fl % 4) (some (beAt f 46 6))
  h.tryQualify i

/-- The entries of a received ANNOUNCE: the root answers those of its children, others send them on; those of the parent
go down, and one that names this engine is acted on. -/
def Hw.takeEntries (h : Hw) (n : Fin 4) (up : Bool) (f : List Byte) : Hw :=
  ((List.range (min 32 (beAt f 52 1))).map (fun k => regAt f (56 + 16 * k))).foldl (fun (h : Hw) (e : RegEntry) =>
    if up then
      if e.kind = 0 ∨ 3 < e.kind then h
      else if h.lat.isRoot then h.registry e else if h.lat.parent.isSome then h.queueUp e else h
    else if h.lat.parent = some n then
      (if e.node = nodeId then h.actOn e else h).queueDown e
    else h) h

/-- LAT_ANNOUNCE_RECEIVED (R333, R335, R338). -/
def execLatAnnounceReceived (n : Fin 4) (f : List Byte) (fcsOk : Bool) (s : State) : Host.Outcome State Fault Refusal :=
  s.on (fun h => h.latRx n 2 (56 + 16 * beAt f 52 1) f fcsOk (fun h => h.when (h.fromPeer n f && h.latReady n) (fun h =>
    let a := annOf f
    let up := decide (beAt f 2 1 / 2 % 2 = 1)
    let h := h.updLink n (fun l =>
      let newer := match assoc a.claim.node l.seen with
        | some (q, _) => decide (q < a.seq)
        | none => true
      { l with ann := some a, peerUp := up, peerEid := eidOf (beAt f 6 2),
               seen := if newer then reassoc a.claim.node (a.seq, h.time.up) l.seen else l.seen })
    let h := if h.lat.parent = some n then h.latQuality n f else h
    if (h.lat.link[n]).st = .split then h else h.takeEntries n up f)))

/-! ## EXCHANGE (R328, R339 to R342) -/

/-- The next multiple of 15.625 ms at or after the latest tick. -/
def Hw.exchangeAt (h : Hw) : Nat := ceilDiv h.time.axis 128000000000000 * 128000000000000

/-- LAT_EXCHANGE_SEND (R328, R345): at each multiple of 15.625 ms; T_TX is the first point of the block grid at or after
it, or the launch instant booked on the tunnel's port. A frame that cannot meet its instant (`late`) is dropped. -/
def execLatExchangeSend (n : Fin 4) (late : Bool) (s : State) : Host.Outcome State Fault Refusal :=
  s.on (fun h => h.when (h.time.clockOn && h.latAlive n && (h.lat.link[n]).twoWay &&
      decide (h.exchangeAt < h.time.axis + auPerTick)) (fun h =>
    let l := h.lat.link[n]
    let at_ := match h.latVia n with
      | none => gridUp l.phase (6400 * auPerPs) h.exchangeAt
      | some (p, _) => h.reserve p h.exchangeAt 78 false
    if late then h.latCount n 3
    else
      let (es, et, er) := match l.exRx with
        | some (q, t, r) => (q, t, r)
        | none => (0xFFFF, 0, 0)
      let payload := h.latHead n 2 ++ stampBytes at_ ++ beBytes 2 es ++ beBytes 2 0 ++ stampBytes et ++ stampBytes er
      let ok := match h.latVia n with
        | none => h.islandOk (latIsland n)
        | some (p, _) => h.islandOk (txIsland (lpPort p))
      let h := h.updLink n (fun l => { l with
        exSent := ((l.seqs[(2 : Fin 4)], h.time.up, ok) :: l.exSent).take 8 })
      h.latSend n 2 (some at_) payload))

/-- The median of a list: the middle value, or the mean of the two middle ones. -/
def median (l : List Int) : Int :=
  let s := l.mergeSort (fun a b => decide (a ≤ b))
  let k := s.length
  if k % 2 = 1 then s.getD (k / 2) 0 else (s.getD (k / 2) 0 + s.getD (k / 2 - 1) 0) / 2

/-- The receive stamp of a frame at the reference plane: the island's stamp with the refinement and the declared delays. -/
def Hw.latPlaneRx (h : Hw) (n : Fin 4) (sub : Nat) : Nat :=
  match h.latVia n with
  | none =>
    let ps : Int := (h.lat.link[n]).refine - Config.otpNat ("otp_rx.lat" ++ toString n.val) - h.effN .latLRxDelay n
    (((h.time.axis + sub : Nat) : Int) + ps * auPerPs).toNat
  | some (p, _) => (h.mdiRx (lpPort p) (lpLane p) (h.time.axis + sub)).toNat

/-- The gate of R339 in ps. -/
def Hw.delayGate (h : Hw) (n : Fin 4) : Nat :=
  match h.eff ⟨.latLDelayGate, n, 0⟩ with
  | .nat v => v
  | _ => if (h.latVia n).isSome then 100000000 else 20000

/-- R342: the estimate of the asymmetry takes this exchange. -/
def Hw.estimates (h : Hw) (n : Fin 4) : Bool :=
  let own := match h.ref.sel with
    | some i => decide (refKind i ≠ .lat ∧ 12 ≤ (h.ref.ins[i]).tql)
    | none => false
  decide (h.time.trust = .locked) && own && (match (h.lat.link[n]).ann with
    | some a => decide (a.trust = 2 ∧ 12 ≤ a.tql) && a.locl
    | none => false)

/-- Deliver an offset of the parent link: every accepted one on a direct link, of each 16 on a tunnel the one with the
smallest d (R339, R346). -/
def Hw.latDeliver (h : Hw) (n : Fin 4) (d theta : Int) : Hw :=
  if (h.latVia n).isNone then
    if h.lat.parent = some n then h.deliverOffset (latIn n) theta else h
  else
    let w := (h.lat.link[n]).win ++ [(d, theta)]
    if w.length < 16 then h.updLink n (fun l => { l with win := w })
    else
      let best := w.foldl (fun (m : Int × Int) c => if c.1 < m.1 then c else m) (d, theta)
      let h := h.updLink n (fun l => { l with win := [], dlv := (best.1 :: l.dlv).take 64 })
      if h.lat.parent = some n then h.deliverOffset (latIn n) best.2 else h

/-- An exchange that is used: theta and d in ps, the gate passed. -/
def Hw.latAccept (h : Hw) (n : Fin 4) (d theta : Int) : Hw :=
  let est := h.estimates n
  let a := h.effI .latLAsym n
  let h := h.updLink n (fun l => { l with
    d := d, theta := theta, ds := (d :: l.ds).take 64, merge := (theta :: l.merge).take 16,
    estSum := if est ∧ l.estN < 64000 then l.estSum + a + theta else l.estSum,
    estN := if est ∧ l.estN < 64000 then l.estN + 1 else l.estN })
  (h.tcount 10 4).latDeliver n d theta

/-- LAT_EXCHANGE_RECEIVED (R339): stamped `sub` after the tick. -/
def execLatExchangeReceived (n : Fin 4) (f : List Byte) (fcsOk : Bool) (sub : Nat) (s : State) :
    Host.Outcome State Fault Refusal :=
  s.on (fun h => h.latRx n 3 56 f fcsOk (fun h => h.when (h.fromPeer n f && h.time.clockOn) (fun h =>
    let l := h.lat.link[n]
    let t4 := h.latPlaneRx n sub
    let t3 := stampAt f 16
    let t1 := stampAt f 32
    let t2 := stampAt f 44
    let isl := match h.latVia n with
      | none => latIsland n
      | some (p, _) => rxIsland (lpPort p)
    let known := l.exSent.any (fun e => decide (e.1 = beAt f 28 2) && !h.passed e.2.1 100000000000 && e.2.2)
    let h := h.updLink n (fun l => { l with exRx := some (beAt f 4 2, t3, t4) })
    let d2 : Int := ((t4 : Int) - t1) - ((t3 : Int) - t2)
    let th2 : Int := ((t2 : Int) - t1) - ((t4 : Int) - t3)
    let (d, h) := h.rnd d2 (2 * auPerPs)
    let (th, h) := h.rnd th2 (2 * auPerPs)
    let theta := th - h.effI .latLAsym n
    let gate := l.ds = [] ∨ (d - median l.ds).natAbs ≤ h.delayGate n
    if known && h.islandOk isl && h.latReady n && decide gate then h.latAccept n d theta else h.latCount n 2)))

/-! ## The merge test (R343) -/

/-- MERGE_TEST: after 16 accepted exchanges, and once per second while SPLIT. -/
def execMergeTest (n : Fin 4) (s : State) : Host.Outcome State Fault Refusal :=
  s.on (fun h =>
    let l := h.lat.link[n]
    let due := match l.testAt with
      | some t => h.passed t 1000000000000
      | none => true
    match l.ann with
    | none => h
    | some a =>
      h.when (h.latReady n && decide (16 ≤ l.merge.length ∧ a.claim.node ≠ h.lat.root.node) &&
          (decide (l.st = .ready ∧ l.mergeOk ≠ some a.claim.node) || (decide (l.st = .split) && due))) (fun h =>
        let sum := l.merge.foldl (fun (x y : Int) => x + y) 0
        let lim := h.effN .refXchkLimit + (a.unc + h.uLink n) + h.time.unc
        let h := h.updLink n (fun l => { l with testAt := some h.time.up })
        if sum.natAbs ≤ 16 * lim then
          (h.updLink n (fun l => { l with mergeOk := some a.claim.node })).latState n .ready
        else
          let (mean, h) := (h.latState n .split).rnd sum 16
          h.notice 17 4 "lat.split" [("link", linkName n), ("off", showPs 1 mean), ("limit", toString (lim / 1000) ++ "ns")]))

/-- The new EID of a GRANT, DISPLACE or FULL applies from the next trust tick (R338). -/
def Hw.applyEid (h : Hw) : Hw :=
  match h.lat.eidNext with
  | some (e, a) => { h with lat := { h.lat with eid := e, assigned := a, eidNext := none } }
  | none => h

/-- A link leaves service: LEAVE, then its state is lost (R331). -/
def Hw.latOut (h : Hw) (n : Fin 4) (reason : Nat) : Hw := (h.latLeave n reason).latLose n

end Sys2Proof.Machine
end

