-- ==== Sys2Proof/Machine/Outputs.lean ====
section
/-!
DEFINITION. Clock, pulse and IRIG-B outputs (chapter 10): instants and edges, squelch, alignment, skew calibration, the
time-code frame.
-/
set_option autoImplicit false

namespace Sys2Proof.Machine

/-- Change an output. -/
def Hw.updPulse (h : Hw) (n : Fin 4) (f : PulseOut → PulseOut) : Hw :=
  { h with out := { h.out with pulse := h.out.pulse.set n (f h.out.pulse[n]) } }
def Hw.updClk (h : Hw) (n : Fin 8) (f : ClkOut → ClkOut) : Hw :=
  { h with out := { h.out with clk := h.out.clk.set n (f h.out.clk[n]) } }

/-- `out.<o>` numbers outputs clk0 to clk7, pulse0 to pulse3, irigb. -/
def outName (o : Nat) : String := (outNames[o]?).getD ""

/-- The trust state published at the last tick at or before `t` (R213). -/
def Hw.trustBefore (h : Hw) (t : Nat) : Trust :=
  let k := if h.time.axis ≤ t then 0 else ceilDiv (h.time.axis - t) auPerTick
  match h.time.hist[k]? with
  | some s => s
  | none => (h.time.hist.getLast?).getD h.time.trust

/-- Table 10.2: a setting squelches in a trust state. -/
def squelches (setting : Nat) (t : Trust) : Bool :=
  match t with
  | .cold | .acquire => decide (1 ≤ setting)
  | .adrift => decide (2 ≤ setting)
  | .holdover => decide (3 ≤ setting)
  | .locked => false

/-- R213: whether output `o` is squelched for an edge at `t`; before its first skew measurement it is (R211). -/
def Hw.squelchedAt (h : Hw) (o t : Nat) (measured : Bool) : Bool :=
  !measured || squelches (h.effN .outOSquelch o) (h.trustBefore (t - auPerUs))

/-- OUT_SQUELCH: a change raises `out.squelch` with the output and the trust state. -/
def Hw.squelchNotice (h : Hw) (o t : Nat) : Hw :=
  h.notice 8 0 "out.squelch" [("in", outName o), ("state", (h.trustBefore (t - auPerUs)).name)]

/-- Outputs run: their block is released and REF is up. -/
def Hw.outputsRun (h : Hw) : Bool := h.time.clockOn && h.sys.released && h.domUp .ref

/-! ## Pulses (R205 to R210) -/

/-- The period of `out.pulseN.period` in ps; the value holds PERIOD_SEL and the period. -/
def pulsePeriod (l : List Nat) : Nat :=
  match l with
  | [1, _] => 2000000000000
  | [2, _] => 100000000000
  | [3, ps] => ps
  | _ => 1000000000000

/-- The code of an alignment from its position in the list of names: 0 axis, 1 ref, 8 + n for CALn. -/
def alignCode (n : Nat) : Nat := if n < 2 then n else n + 6

/-- The settings of a pulse output in effect. -/
def Hw.pulseEff (h : Hw) (n : Fin 4) : PulseCfg :=
  { period := pulsePeriod (h.effL .outPulsePeriod n), offset := h.effI .outPulseOffset n,
    delay := h.effN .outPulseDelay n, width := h.effN .outPulseWidth n, align := alignCode (h.effN .outPulseAlign n),
    maxMove := h.effN .outPulseMaxMove n }

/-- The first instant at or after `t` of a schedule with period `p` and base `b` (model units). -/
def nextInstant (p : Nat) (b : Int) (t : Nat) : Nat :=
  if p = 0 then t
  else
    let r := ((t : Int) - b) % p
    if r = 0 then t else t + p - r.toNat

/-- The selected reference is a GNSS or ATOM input (R208). -/
def Hw.refAligns (h : Hw) : Bool := match h.ref.sel with | some i => decide (i.val < 6) | none => false

/-- The output has an input to align to. -/
def Hw.alignable (h : Hw) (c : PulseCfg) : Bool := decide (8 ≤ c.align) || (decide (c.align = 1) && h.refAligns)

/-- The next instant of PULSEn at or after `t`: the instants of R205 moved by the placed phase; without an input to align to
they are those of `axis` (R208). -/
def Hw.pulseNext (h : Hw) (n : Fin 4) (t : Nat) : Nat :=
  let x := h.out.pulse[n]
  let c := x.cfg
  let phi := if h.alignable c then x.placed else 0
  nextInstant (psAu c.period) ((c.offset - c.delay + phi) * auPerPs) t

/-- The instant from which the coming tick's pulse is looked for: 10 us after a change where that falls within the tick and
no pulse under the old settings comes before it (R207), else the tick itself. -/
def Hw.pulseFrom (h : Hw) (n : Fin 4) : Nat :=
  match (h.out.pulse[n]).changeAt with
  | none => h.time.axis
  | some a =>
    let due := a + 10 * auPerUs
    if due < h.time.axis + auPerTick ∧ due ≤ h.pulseNext n h.time.axis then max due h.time.axis else h.time.axis

/-- New settings are used from the first pulse at least 10 us after the change (R207). A new alignment takes its first
phase at once, and its 3 s without an edge (R210) start with it. -/
def Hw.pulseTake (h : Hw) (n : Fin 4) : Hw :=
  match (h.out.pulse[n]).changeAt with
  | none => h
  | some a =>
    if a + 10 * auPerUs ≤ h.pulseFrom n then
      let c := h.pulseEff n
      h.updPulse n (fun x => { x with
        cfg := c, changeAt := none, taken := x.taken && decide (x.cfg.align = c.align),
        hold := x.hold && decide (x.cfg.align = c.align),
        edgeAt := if x.cfg.align = c.align then x.edgeAt else some h.time.up })
    else h

/-- The difference of two phases the short way round a period, in ps. -/
def phaseGap (p : Nat) (a b : Int) : Int :=
  if p = 0 then 0
  else
    let m := (a - b) % p
    if (p : Int) < 2 * m then m - p else m

/-- The placed phase moves toward the latest phase by at most `max_move` (R209). -/
def PulseOut.follow (x : PulseOut) : PulseOut :=
  let d := phaseGap x.cfg.period x.phi x.placed
  let m : Int := x.cfg.maxMove
  { x with placed := x.placed + max (-m) (min m d) }

/-- PULSE_INSTANT (R205, R213, R214): a scheduled instant comes within the coming tick; the output pulses unless it is
squelched. No pulse is emitted within P/2 of the one before. -/
def execPulseInstant (n : Fin 4) (s : State) : Host.Outcome State Fault Refusal :=
  s.on (fun h => h.when (h.outputsRun && h.effB .outOEnable (8 + n.val)) (fun h =>
    let start := h.pulseFrom n
    let h := h.pulseTake n
    let t := h.pulseNext n start
    let x := h.out.pulse[n]
    let close := match x.last with
      | some l => decide (t ≤ l ∨ t < l + psAu x.cfg.period / 2)
      | none => false
    if h.time.axis + auPerTick ≤ t ∨ x.last = some t then h
    else
      let sq := h.squelchedAt (8 + n.val) t x.measured
      let h := h.raiseEvent (110 + n.val)
      let h := if sq ≠ x.squelched then h.squelchNotice (8 + n.val) t else h
      h.updPulse n (fun x =>
        let x : PulseOut := { x with squelched := sq }
        let x : PulseOut := if sq || close then x else { x with last := some t, until_ := some (t + psAu x.cfg.width) }
        if h.alignable x.cfg then x.follow else { x with placed := 0 })))

/-- ALIGN_EDGE (R209, R210): a stamped edge of the chosen input, `sub` model units after the tick, input delay already
subtracted. -/
def execAlignEdge (n : Fin 4) (sub : Nat) (s : State) : Host.Outcome State Fault Refusal :=
  s.on (fun h => h.when (h.outputsRun && h.effB .outOEnable (8 + n.val)) (fun h =>
    let h := h.pulseTake n
    let x := h.out.pulse[n]
    if !h.alignable x.cfg then h
    else
      let p := x.cfg.period
      let phi := phaseGap p (((h.time.axis + sub) / auPerPs : Nat) : Int) 0
      let h := if x.hold then h.notice 8 1 "out.align" [("in", outName (8 + n.val)), ("held", "0")] else h
      h.updPulse n (fun x => { x with
        phi := phi, placed := if x.taken then x.placed else phi, taken := true, hold := false,
        edgeAt := some h.time.up })))

/-- ALIGN_HOLD (R210): no edge for 3 s. -/
def execAlignHold (n : Fin 4) (s : State) : Host.Outcome State Fault Refusal :=
  s.on (fun h =>
    let x := h.out.pulse[n]
    h.when (h.outputsRun && h.effB .outOEnable (8 + n.val) && decide (x.cfg.align ≠ 0) && !x.hold &&
        h.passedO x.edgeAt 3000000000000) (fun h =>
      (h.updPulse n (fun x => { x with hold := true })).notice 8 1 "out.align"
        [("in", outName (8 + n.val)), ("held", "1")]))

/-- OUT_PULSEn_STATUS.ALIGN_HOLD (R208, R210). -/
def Hw.alignHold (h : Hw) (n : Fin 4) : Bool :=
  let x := h.out.pulse[n]
  x.hold || (decide (x.cfg.align = 1) && !h.refAligns)

/-! ## Clocks (R202 to R204) -/

/-- The settings of a clock output in effect. -/
def Hw.clkEff (h : Hw) (n : Fin 8) : ClkCfg :=
  { freq := h.effN .outClkFreq n, phase := h.effN .outClkPhase n, delay := h.effN .outClkDelay n,
    lvcmos := decide (h.effN .outClkStd n = 1) }

/-- The first rising edge at or after `t` (R203): (edge - p) f is a whole number, p = phase - delay. Rounded up to a
model unit. -/
def clkNext (c : ClkCfg) (t : Nat) : Nat :=
  if c.freq = 0 then t
  else
    let p : Int := ((c.phase : Int) - c.delay) * auPerPs
    let d : Int := (auPerSec * 1000000 : Nat)
    let k := ((((t : Int) - p) * c.freq + d - 1) / d)
    (p + (k * d + c.freq - 1) / c.freq).toNat

/-- A nominal cycle, rounded down to a model unit. -/
def clkPeriod (c : ClkCfg) : Nat := if c.freq = 0 then 0 else auPerSec * 1000000 / c.freq

/-- The settings and the instant of the next rising edge: new settings from the first edge at least 1 us after the change,
the output low until then (R204); no cycle is shorter than the nominal one of the settings before and after (R204, R214). -/
def Hw.clkEdge (h : Hw) (n : Fin 8) : ClkCfg × Nat :=
  let x := h.out.clk[n]
  let c := if x.changeAt.isSome then h.clkEff n else x.cfg
  let start := match x.changeAt with | some a => max h.time.axis (a + auPerUs) | none => h.time.axis
  let t := clkNext c start
  let gap := max (clkPeriod x.cfg) (clkPeriod c)
  (c, match x.last with
    | some l => if l < t ∧ t < l + gap then clkNext c (l + gap) else t
    | none => t)

/-- CLKOUT_RISING_EDGE (R203, R204, R213): the squelch decision of the next rising edge, where it comes within this tick. -/
def execClkoutRisingEdge (n : Fin 8) (s : State) : Host.Outcome State Fault Refusal :=
  s.on (fun h => h.when (h.outputsRun && h.effB .outOEnable n) (fun h =>
    let x := h.out.clk[n]
    let c := (h.clkEdge n).1
    let t := (h.clkEdge n).2
    if h.time.axis + auPerTick ≤ t then h
    else
      let sq := h.squelchedAt n t x.measured
      let h := if sq ≠ x.squelched then h.squelchNotice n t else h
      h.updClk n (fun x => { x with
        cfg := c, changeAt := none, squelched := sq, last := if sq then x.last else some t })))

/-! ## A step of Axis time (R214) -/

/-- An instant of the time before the step on the time after it. -/
def stepped (d : Int) (t : Option Nat) : Option Nat := t.map (fun t => ((t : Int) + d).toNat)

/-- R214: the schedules restart from the new Axis time; the edges behind them keep their distance. `d` in model units. -/
def Hw.outStep (h : Hw) (d : Int) : Hw :=
  { h with out := { h.out with
      pulse := h.out.pulse.map (fun x => { x with
        changeAt := stepped d x.changeAt, last := stepped d x.last, until_ := stepped d x.until_ })
      clk := h.out.clk.map (fun x => { x with changeAt := stepped d x.changeAt, last := stepped d x.last }) } }

/-! ## Skew calibration (R211, R212) -/

/-- The correction moves toward its target by at most 10 ps. -/
def moveCorr (old : Int) (pad : Nat) : Int := old + max (-10) (min 10 ((pad : Int) - old))

/-- SKEW_CALIBRATION (R211): output `o` (clk0 to clk7, pulse0 to pulse3) has a measured pad delay in ps. -/
def execSkewCalibration (o : Fin 12) (pad : Nat) (s : State) : Host.Outcome State Fault Refusal :=
  s.on (fun h => h.when (h.outputsRun && h.effB .outOEnable o) (fun h =>
    let ok := decide (100 ≤ pad ∧ pad ≤ 3000)
    let h := if ok then h else (h.notice 8 2 "out.cal" [("out", outName o)]).fault 5
    if p : o.val < 8 then
      h.updClk ⟨o, p⟩ (fun x => { x with measured := true, calOk := ok, corr := if ok then moveCorr x.corr pad else x.corr })
    else
      h.updPulse ⟨o - 8, by omega⟩ (fun x => { x with
        measured := true, calOk := ok, corr := if ok then moveCorr x.corr pad else x.corr })))

/-- An output's settings have changed. -/
def Hw.outTouch (h : Hw) (o : Nat) : Hw :=
  if p : o < 8 then h.updClk ⟨o, p⟩ (fun x => { x with changeAt := some h.time.axis })
  else if q : o < 12 then h.updPulse ⟨o - 8, by omega⟩ (fun x => { x with changeAt := some h.time.axis })
  else h

/-! ## IRIG-B (R216, R217) -/

/-- The bits of a number, least significant first. -/
def bitsLsb : Nat → Nat → List Nat
  | 0, _ => []
  | w + 1, n => n % 2 :: bitsLsb w (n / 2)

/-- The smallest IEEE 1344 time-quality code that bounds an uncertainty in ps. -/
def irigQuality (unc : Nat) : Nat :=
  match ([1000, 10000, 100000, 1000000, 10000000, 100000000, 1000000000, 10000000000, 100000000000, 1000000000000,
    10000000000000].findIdx? (fun b => decide (unc ≤ b))) with
  | some k => k + 1
  | none => 15

/-- Nine symbols and the position identifier that ends their group. -/
def irigGroup (l : List Nat) : List Nat := (l ++ List.replicate (9 - l.length) 0).take 9 ++ [2]

/-- Day of the year, from 1. -/
def yearDay (day : Nat) : Nat := day - dayNumber (civil day).1 1 1 + 1

/-- The 100 symbols of IRIG Standard 200 format B for second `sod` of day `day` since 1970 (`code` B000 to B007): BCD
time of year, year, control functions, straight binary seconds. -/
def irigFrame (code day sod : Nat) (cf : List Nat) : List Nat :=
  let s := sod - (if 86399 < sod then 86340 else sod / 60 * 60)
  let m := (min sod 86399) / 60 % 60
  let hr := (min sod 86399) / 3600
  let d := yearDay day
  let y := (civil day).1 % 100
  let year := decide (4 ≤ code)
  let hasCf := decide (code = 0 ∨ code = 1 ∨ code = 4 ∨ code = 5)
  let hasSbs := decide (code = 0 ∨ code = 3 ∨ code = 4 ∨ code = 7)
  let c := if hasCf then cf else []
  let b := if hasSbs then bitsLsb 17 (min sod 86400) else []
  [2] ++ ((bitsLsb 4 (s % 10) ++ [0] ++ bitsLsb 3 (s / 10)).take 8 ++ [2]) ++
  irigGroup (bitsLsb 4 (m % 10) ++ [0] ++ bitsLsb 3 (m / 10)) ++
  irigGroup (bitsLsb 4 (hr % 10) ++ [0] ++ bitsLsb 2 (hr / 10)) ++
  irigGroup (bitsLsb 4 (d % 10) ++ [0] ++ bitsLsb 4 (d / 10 % 10)) ++
  irigGroup (bitsLsb 2 (d / 100)) ++
  irigGroup (if year then bitsLsb 4 (y % 10) ++ [0] ++ bitsLsb 4 (y / 10) else []) ++
  irigGroup (c.take 9) ++ irigGroup (c.drop 9) ++ irigGroup (b.take 9) ++ irigGroup (b.drop 9)

/-- The IEEE 1344 control functions: leap pending, leap direction, no daylight saving, no local offset, quality. -/
def Hw.irigCf (h : Hw) : List Nat :=
  if h.effN .outIrigbCf = 0 then []
  else
    let near := match h.time.leap with | some l => decide (l.at_ ≤ h.sec + 60) | none => false
    let del := match h.time.leap with | some l => !l.insert | none => false
    [b2n near, b2n del, 0, 0, 0, 0, 0, 0, 0, 0] ++ bitsLsb 4 (irigQuality h.time.unc)

/-- IRIGB_FRAME_BUILD (R217): the frame of the next second; an inserted second is coded as second 60. -/
def execIrigbFrameBuild (s : State) : Host.Outcome State Fault Refusal :=
  s.on (fun h => h.when (h.outputsRun && h.effB .outOEnable 12) (fun h =>
    let next := h.sec + 1
    let inserted := match h.time.leap with
      | some l => l.insert && decide (next + 1 = l.at_)
      | none => false
    let lab : Int := if h.effN .outIrigbScale = 1 then next else (next : Int) - h.taiUtc - b2n inserted
    let sec := lab.toNat
    let sod := sec % 86400 + b2n (inserted && decide (h.effN .outIrigbScale ≠ 1))
    let t := next * auPerSec
    let sq := h.squelchedAt 12 t true
    let h := if sq ≠ h.out.irigSquelched then h.squelchNotice 12 t else h
    { h with out := { h.out with
        irigSquelched := sq,
        frame := irigFrame (h.effN .outIrigbCode) (sec / 86400) sod h.irigCf } }))

end Sys2Proof.Machine
end

