-- ==== Sys2Proof/Machine/Tally.lean ====
section
/-!
DEFINITION. The Tally reader (chapter 21): selections, chaining and clears (R447, R449), snapshot instants and captures
(R450 to R452), records and their ring (R453 to R455). Events that a command of the model is, or shows, are counted where they
occur (`tcount`); the others come with the snapshot (notes/assumptions/61.md).
-/
set_option autoImplicit false

namespace Sys2Proof.Machine

/-! ## Units -/

/-- The island and the domain of a unit (Table 21.1). -/
def unitIsland (u : Fin 18) : Fin 48 :=
  (#v[0, 3, 5, 7, 9, 11, 15, 19, 23, 27, 28, 32, 33, 39, 34, 42, 44, 43] : Vector (Fin 48) 18)[u]
def unitDomain (u : Fin 18) : Domain :=
  if u = 0 then .ref else if u.val < 5 then .port else if u.val < 9 then .pipe else if u = 9 then .seal
  else if u = 10 then .lat else if u.val < 13 then .deck else if u = 13 then .ref else if u = 14 then .ibex
  else if u = 15 then .keep else if u = 16 then .store else .keep

/-- The largest event code of a unit (Table 21.2). -/
def unitCodes (u : Fin 18) : Nat :=
  if u = 0 then 5 else if u.val < 5 then 13 else if u.val < 9 then 25 else if u = 9 then 7 else if u = 10 then 8
  else if u.val < 13 then 15 else if u = 13 then 5 else 6

/-- The codes whose events no command of the model shows: cycles with a condition, and what happens between commands. -/
def outerCode (u : Fin 18) (c : Nat) : Bool :=
  if u = 0 then decide (c = 4) else if u.val < 5 then decide (11 ≤ c) else if u.val < 9 then decide (23 ≤ c)
  else if u = 9 then decide (c = 5 ∨ c = 7) else if u = 10 then false
  else if u.val < 13 then decide (c = 5 ∨ c = 6 ∨ c = 8 ∨ c = 12) else if u = 13 then decide (c = 5)
  else if u = 14 then false else if u = 15 then decide (c = 3) else if u = 16 then decide (c = 6)
  else decide (c = 5)

/-- The mode permits a unit (PRESENT; Table 2.2). -/
def unitPresent (mode : Nat) (u : Fin 18) : Bool :=
  if mode = 3 then decide (u ≠ 3 ∧ u ≠ 4 ∧ u ≠ 6 ∧ u ≠ 7 ∧ u ≠ 8)
  else if mode = 1 then decide (u ≠ 11 ∧ u ≠ 12) else true

/-- The island clock cycles passed: the Axis clock's own cycles in the steer island, else those of a clock the spec does not
tie to it. -/
def Hw.cyclesNow (h : Hw) (u : Fin 18) : Nat :=
  if u = 0 then h.time.up / auPerCycle else Config.islandCycles u.val h.time.up

/-- CYCLES. -/
def Hw.unitCycles (h : Hw) (u : Fin 18) : Nat :=
  if (h.tally.u[u]).run then (h.cyclesNow u - (h.tally.u[u]).cyc0) % 18446744073709551616 else 0

/-- Change one unit. -/
def Hw.updUnit (h : Hw) (u : Fin 18) (f : TallyUnit → TallyUnit) : Hw :=
  { h with tally := { h.tally with u := h.tally.u.set u (f h.tally.u[u]) } }

/-- A waiting change affects counter `k`: its own selection, its pair's chain bit, or the selection of the pair it is in. -/
def TallyUnit.affected (x : TallyUnit) (k : Fin 8) : Bool :=
  let p : Fin 4 := ⟨k.val / 2, by omega⟩
  let lo : Fin 8 := ⟨2 * p.val, by omega⟩
  x.clearPend || decide (x.sel[k] ≠ x.selNew[k]) || (x.chain[p] != x.chainNew[p]) ||
  (x.chainNew[p] && decide (x.sel[lo] ≠ x.selNew[lo]))

/-- Some change waits. -/
def TallyUnit.waits (x : TallyUnit) : Bool := (List.finRange 8).any (fun k => x.affected k)

/-- R449: the waiting change takes effect; each affected counter is set to 0. -/
def TallyUnit.apply (x : TallyUnit) (cycles : Nat) : TallyUnit :=
  if !x.waits then x
  else
    { x with
      c := Vector.ofFn (fun k => if x.affected k then 0 else x.c[k]), sel := x.selNew, chain := x.chainNew,
      cyc0 := (if x.clearPend then cycles else x.cyc0), clearPend := false, changed := true }

/-- A change of a unit's configuration: at the next instant while snapshots are enabled, else now (R449). -/
def Hw.unitChange (h : Hw) (u : Fin 18) (f : TallyUnit → TallyUnit) : Hw :=
  let h := h.updUnit u f
  if h.tally.enable then h else h.updUnit u (fun x => x.apply (h.cyclesNow u))

/-- The units of a domain lose their counters when it drops, and count from 0 when it has returned (R452). -/
def Hw.tallyDomain (h : Hw) (d : Domain) (up : Bool) : Hw :=
  (List.finRange 18).foldl (fun (h : Hw) (u : Fin 18) =>
    if unitDomain u ≠ d then h
    else h.updUnit u (fun x =>
      { x with run := up, cyc0 := h.cyclesNow u, c := Vector.replicate 8 0, wrap := 0, sel := x.selNew, chain := x.chainNew,
               clearPend := false, restarted := up, snapCyc := (if up then x.snapCyc else 0) })) h

/-! ## The ring (R453, R454) -/

/-- The size in records, MARK and HYST in force. -/
def TallySt.size (t : TallySt) : Nat := if t.log2 = 0 then 0 else 2 ^ t.log2
def TallySt.markVal (t : TallySt) : Nat := t.mark.getD (t.size * 3 / 4)
def TallySt.hystVal (t : TallySt) : Nat := t.hyst.getD (t.size / 4)
def TallySt.level (t : TallySt) : Nat := (t.eng - t.host).toNat

/-- The watermark. -/
def Hw.tallyMark (h : Hw) : Hw :=
  let t := h.tally
  let latched := (h.note.evt[(25 : Fin 28)]).getLsbD 0
  let armed := t.markArmed || (!latched && decide (t.level + t.hystVal < t.markVal))
  if armed && decide (0 < t.size ∧ t.markVal ≤ t.level) then
    ({ h with tally := { t with markArmed := false } }).notice 25 0 "tally.mark" [("level", toString t.level)]
  else { h with tally := { t with markArmed := armed } }

/-- A host write of RING_HOST. -/
def Hw.tallyHostPut (h : Hw) (v : Word) : Hw :=
  let t := h.tally
  if !t.free ∧ t.size < (t.eng - v).toNat then h.regRange 0x1000020
  else ({ h with tally := { t with host := v } }).tallyMark

/-- TALLY_RING_HOST_WRITE (R454). -/
def execTallyRingHostWrite (v : Word) (s : State) : Host.Outcome State Fault Refusal :=
  s.onWrite (fun h => if !h.domUp .keep then h.isoRecord 0x1000020 else h.tallyHostPut v)

/-- `tally.miss`, at most once per second (R455): `bit` 1 a record lost, 2 an instant skipped. -/
def Hw.tallyMiss (h : Hw) (bit : Nat) : Hw :=
  let h := h.setEvt 25 bit
  let due := match h.tally.missAt with
    | some t => h.passed t 1000000000000
    | none => true
  if due then
    ({ h with tally := { h.tally with missAt := some h.time.up } }).deliver
      { stem := "tally.miss", args := [("lost", toString h.tally.lost), ("skipped", toString h.tally.skipped)] }
  else h

/-! ## Snapshots -/

/-- The instant that lies within the tick just passed, of the period and enable in force at it (R450): 0 for none. -/
def Hw.tallyInstant (h : Hw) : Option (Nat × Nat) :=
  let t := h.tally
  let at_ := fun (ms : Nat) => if ms = 0 then 0 else h.time.axis / (ms * auPerMs) * (ms * auPerMs)
  let near := fun (i : Nat) => decide (h.time.axis < i + auPerTick) && decide (t.lastInst ≠ some i)
  let i := at_ t.periodMs
  let j := at_ t.was.2
  if t.enable && near i && decide (t.notBefore ≤ i) then some (i, t.periodMs)
  else if t.was.1 && near j && decide (j < t.notBefore) then some (j, t.was.2)
  else none

/-- Byte 1 of Table 21.4. -/
def Hw.unitFlags (h : Hw) (u : Fin 18) : Nat :=
  let x := h.tally.u[u]
  if !x.run then b2n (unitPresent h.sys.runMode u) + 2
  else b2n (unitPresent h.sys.runMode u) + 4 * b2n x.restarted + 8 * b2n x.changed + 16 * b2n (!h.islandOk (unitIsland u))

/-- A unit's capture; the change that waits then takes effect (R449, R451, R452). -/
def Hw.capture (h : Hw) (u : Fin 18) : Hw :=
  let fl := h.unitFlags u
  let cyc := h.unitCycles u
  h.updUnit u (fun x =>
    if x.run then
      { { x with changed := false }.apply (h.cyclesNow u) with
        snapCyc := cyc, snap := x.c, snapFlags := fl, restarted := false }
    else { x with snapCyc := 0, snap := Vector.replicate 8 0, snapFlags := fl })

/-- The unit block of Table 21.4, from the unit before its capture. -/
def Hw.unitBlock (h : Hw) (u : Fin 18) : List Byte :=
  let x := h.tally.u[u]
  let on := x.run
  let chain := (List.finRange 4).foldl (fun (a : Nat) p => a + b2n x.chain[p] * 2 ^ p.val) 0
  let slot := fun (k : Fin 8) =>
    let p : Fin 4 := ⟨k.val / 2, by omega⟩
    if !on then 0
    else if x.chain[p] then
      (if k.val % 2 = 0 then x.c[k] + 4294967296 * x.c[(⟨2 * p.val + 1, by omega⟩ : Fin 8)] else 0)
    else x.c[k]
  leBytes 1 u.val ++ leBytes 1 (h.unitFlags u) ++ leBytes 1 (if on then x.wrap.toNat else 0) ++
  leBytes 1 (if on then chain else 0) ++ leBytes 4 0 ++ leBytes 8 (h.unitCycles u) ++
  (List.finRange 8).flatMap (fun k => leBytes 8 (slot k))

/-- The record of an instant (Table 21.3). -/
def Hw.tallyRecord (h : Hw) (inst periodMs : Nat) : List Byte :=
  let t := h.tally
  leBytes 8 t.seq ++ leBytes 8 (secOf inst) ++ leBytes 4 (nsOf inst) ++ leBytes 4 periodMs ++
  leBytes 4 (b2n (decide (0 < t.lost)) + 2 * b2n (decide (0 < t.skipped))) ++ leBytes 4 t.lost ++ leBytes 4 t.skipped ++
  leBytes 28 0 ++ (List.finRange 18).flatMap (fun u => h.unitBlock u) ++ leBytes 32 0

/-- An instant is skipped (R455). -/
def Hw.tallySkips (h : Hw) (inst : Nat) : Bool :=
  decide (h.pwr.st = .graze ∨ h.pwr.st = .bed) || !h.domUp .keep || !h.domUp .store || decide (h.tally.log2 = 0) ||
  (match h.tally.writeEnd with | some e => decide (inst < e) | none => false)

/-- The reader's work at an instant. -/
def Hw.tallySnap (h : Hw) (inst periodMs : Nat) : Hw :=
  let h := { h with tally := { h.tally with lastInst := some inst } }
  if h.tallySkips inst then
    ({ h with tally := { h.tally with skipped := satAdd max32 h.tally.skipped 1, skippedCnt := incSat h.tally.skippedCnt } }).tallyMiss 2
  else
    let rec_ := h.tallyRecord inst periodMs
    let h := (List.finRange 18).foldl (fun (h : Hw) (u : Fin 18) => h.capture u) h
    let h := { h with tally := { h.tally with seq := (h.tally.seq + 1) % 18446744073709551616 } }
    let t := h.tally
    if !t.free ∧ t.size ≤ t.level then
      ({ h with tally := { t with lost := satAdd max32 t.lost 1, lostCnt := incSat t.lostCnt } }).tallyMiss 1
    else
      let h := h.writeStore (t.ring + 1536 * (t.eng.toNat % t.size)) rec_
      ({ h with tally := { h.tally with eng := t.eng + 1, lost := 0, skipped := 0, writeEnd := some (inst + 20 * auPerUs) } }).tallyMark

/-- TALLY_SNAPSHOT (R451, R453): the snapshot instant of this tick. `outer` is what the events of `outerCode` have added since
the last one: unit, code and sum of weights. -/
def execTallySnapshot (outer : List (Fin 18 × Nat × Nat)) (s : State) : Host.Outcome State Fault Refusal :=
  s.on (fun h => h.when h.time.clockOn (fun h =>
    match h.tallyInstant with
    | none => h
    | some (i, ms) =>
      (outer.foldl (fun (h : Hw) e => if outerCode e.1 e.2.1 then h.tcount e.1 e.2.1 e.2.2 else h) h).tallySnap i ms))

/-- The counter, or the pair it begins, wraps when it gains `w`. -/
def TallyUnit.wraps (x : TallyUnit) (k : Fin 8) (w : Nat) : Bool :=
  decide ((x.bump k w).c[k] < x.c[k]) || decide ((x.bump k w).wrap ≠ x.wrap)

/-- TALLY_WRAP (R447, R448): an event of `outerCode` of weight `w` makes counter `k` wrap. -/
def execTallyWrap (u : Fin 18) (k : Fin 8) (w : Nat) (s : State) : Host.Outcome State Fault Refusal :=
  s.on (fun h =>
    let x := h.tally.u[u]
    h.when (x.run && outerCode u x.sel[k] && x.counts k x.sel[k] && decide (w ≤ 65535) && x.wraps k w) (fun h =>
      h.putUnit u (x.bump k w)))

/-! ## Settings and registers -/

/-- A new enable or period: it applies 10 ms on (R450). -/
def Hw.tallySchedule (h : Hw) (en : Bool) (ms : Nat) : Hw :=
  let t := h.tally
  let was := if t.notBefore ≤ h.time.axis then (t.enable, t.periodMs) else t.was
  { h with tally := { t with enable := en, periodMs := ms, was := was, notBefore := h.time.axis + 10 * auPerMs } }

/-- After a step of Axis time the next instant lies at least 10 ms on (R450). -/
def Hw.tallyStep (h : Hw) : Hw :=
  { h with tally := { h.tally with was := (false, h.tally.periodMs), notBefore := h.time.axis + 10 * auPerMs, lastInst := none, writeEnd := none } }

/-- A ring R457 allows: in the general region, aligned to 64 bytes, 2^4 to 2^16 records. -/
def tallyRingOk (off records : Nat) : Bool :=
  decide (off % 64 = 0 ∧ journalEnd ≤ off ∧ off + 1536 * records ≤ storeSize) &&
  (List.range 13).any (fun k => decide (records = 2 ^ (k + 4)))

/-- A setting of Table 21.5 in the block. -/
def Hw.tallyTake (h : Hw) (k : Key) (v : SVal) : Hw :=
  let t := h.tally
  match k.p, v with
  | .tallyEnable, .nat n => h.tallySchedule (decide (n ≠ 0)) t.periodMs
  | .tallyPeriod, .nat n => h.tallySchedule t.enable (n / 1000000000)
  | .tallyRing, .nats [o, r] => { h with tally := { t with ring := o, log2 := Nat.log2 r } }
  | .tallyRing, .none => { h with tally := { t with ring := 0, log2 := 0 } }
  | .tallyRingMode, .nat n => { h with tally := { t with free := decide (n = 1) } }
  | .tallyRingHost, .nat n => h.tallyHostPut (BitVec.ofNat 32 n)
  | .tallyMark, .nat n => { h with tally := { t with mark := some n } }
  | .tallyHyst, .nat n => { h with tally := { t with hyst := some n } }
  | .tallyUC, .nat n =>
    if hu : k.i < 18 then
      if hk : k.j < 8 then h.unitChange ⟨k.i, hu⟩ (fun x => { x with selNew := x.selNew.set k.j n }) else h
    else h
  | .tallyUChain, .nats l =>
    if hu : k.i < 18 then
      h.unitChange ⟨k.i, hu⟩ (fun x => { x with chainNew := Vector.ofFn (fun p => l.contains (2 * p.val)) })
    else h
  | _, _ => h

/-- The settings of the block, each instance. -/
def tallyKeys : List Key :=
  [.tallyEnable, .tallyPeriod, .tallyRing, .tallyRingMode, .tallyRingHost, .tallyMark, .tallyHyst].map (fun p => ⟨p, 0, 0⟩) ++
  (List.range 18).flatMap (fun u => (List.range 8).map (fun c => (⟨.tallyUC, u, c⟩ : Key)) ++ [⟨.tallyUChain, u, 0⟩])

/-- TALLY configured with the effective settings. -/
def Hw.tallyConfigure (h : Hw) : Hw := tallyKeys.foldl (fun (h : Hw) k => h.tallyTake k (h.eff k)) h

/-- The block reset of `tally`: counters, wrap bits, SEQ and ring indices return to 0; then the effective settings. -/
def Hw.tallyReset (h : Hw) : Hw :=
  let h := { h with tally := { (({} : TallySt)) with u := h.tally.u.map (fun (x : TallyUnit) => { ({} : TallyUnit) with run := x.run }) } }
  let h := (List.finRange 18).foldl (fun (h : Hw) (u : Fin 18) => h.updUnit u (fun x => { x with cyc0 := h.cyclesNow u })) h
  ((h.putEvt 25 0).regsFresh (fun o => inRegs 0x1000000 0x100000 o)).tallyConfigure

end Sys2Proof.Machine
end

