-- ==== Sys2Proof/Machine/Votes.lean ====
section
/-!
DEFINITION. Votes on the power domains (Table 20.2, R421), what withdraws the sleep states (R423, R431) and how long the
conditions for sleeping have held; the blocks in service (GLOBAL_BLOCKS).
-/
set_option autoImplicit false

namespace Sys2Proof.Machine

/-! ## The blocks in service (GLOBAL_BLOCKS) -/

/-- A port is in service. -/
def Hw.portIn (h : Hw) (p : Fin 4) : Bool := decide (h.effN .portPMode p ≠ 8)

/-- A pipeline group is in service: set, and not being reloaded past its switch. -/
def Hw.groupIn (h : Hw) (g : Fin 4) : Bool := h.groupServes h.time.axis g

/-- A sleep fault is latched: F311, F312 or F314 (R431). -/
def Hw.sleepFault (h : Hw) : Bool := h.latched 16 || h.latched 17 || h.latched 19

/-- A rail that GRAZE, or BED when `pwr.sleep` is `bed`, would switch is unmapped (R107, Table 20.6): all eight rails are in
groups 2 to 5. -/
def Hw.railUnmapped (h : Hw) : Bool :=
  (List.finRange 8).any (fun r => (h.sys.mapped[r]).isNone && (decide (h.effN .pwrSleep = 1) || decide (r.val = 2 ∨ r.val = 3)))

/-- GLOBAL_BLOCKS.GRAZE_OK. -/
def Hw.grazeOk (h : Hw) : Bool :=
  decide (h.sys.runMode = 3) && h.effB .pwrGrazeEnable && h.sys.xo32Ok && !h.railUnmapped && !h.sleepFault

/-- GLOBAL_BLOCKS. -/
def Hw.blocksWord (h : Hw) : Word :=
  if h.sys.runMode = 0 then 0
  else
    (List.finRange 4).foldl (fun w p => w ||| flag p.val (h.portIn p) ||| flag (4 + p.val) (h.groupIn p)) 0 |||
    flag 8 (h.effB .latEnable) |||
    (List.finRange 2).foldl (fun w n => w ||| flag (9 + n.val) (decide ((h.dk n).role = 1)) ||| flag (11 + n.val) (decide ((h.dk n).role = 2))) 0 |||
    flag 13 h.grazeOk

/-- The cause for which the sleep states are withdrawn, empty when none is (R423). -/
def Hw.withdrawCause (h : Hw) : String :=
  if !h.sys.xo32Ok then "xo32" else if h.railUnmapped then "rail" else if h.sleepFault then "sleep_fault" else ""

/-- `pwr.withdrawn` is raised when GRAZE_OK is withdrawn while the mode and its setting would allow it (R423). -/
def Hw.withdrawTest (h : Hw) : Hw :=
  if decide (h.sys.runMode = 3) && h.effB .pwrGrazeEnable && decide (h.withdrawCause ≠ "") then
    if h.pwr.withdrawn then h
    else ({ h with pwr := { h.pwr with withdrawn := true } }).notice 23 5 "pwr.withdrawn" [("cause", h.withdrawCause)]
  else { h with pwr := { h.pwr with withdrawn := false } }

/-! ## Votes -/

/-- The Warden's service votes (client 0). -/
def Hw.voteService (h : Hw) (d : Domain) : Bool :=
  let port := (List.finRange 4).any (fun p => h.portIn p)
  let pipe := port && (List.finRange 4).any (fun g => h.groupIn g)
  let sealing := (port && h.effB .sealCrpEnable) || h.sealU.queues.toList.any (fun q => q.en) ||
    h.deck.dk.toList.any (fun x => decide (x.role = 1))
  match d with
  | .port => port
  | .pipe => pipe
  | .seal => sealing
  | .ibex => h.ibex.ch.toList.any (fun c => c.cfg0.getLsbD 27) || h.ibex.kid.toList.any (fun k => k.cfg0.getLsbD 31) ||
      h.effB .outOEnable 12
  | .store => pipe || sealing || h.dma.ch.toList.any (fun c => decide (c.st = .pending ∨ c.st = .moving ∨ c.st = .paused)) ||
      h.deck.dk.toList.any (fun x => x.txEn || x.rxEn) || (h.tally.enable && decide (h.tally.log2 ≠ 0))
  | .aon | .keep | .ref | .lat | .deck => false

/-- The Warden's activity vote on KEEP (client 1). A commit holds it until its response (R467). -/
def Hw.voteActivity (h : Hw) : Bool :=
  h.txn.commit.isSome || h.img.write.isSome || (h.sys.done && !h.mywi.openM) ||
  (match h.pwr.servedAt with | some t => !h.passed t (h.effN .pwrIdle) | none => false)

/-- The host's votes (client 2): PWR_HOST_VOTE, and KEEP while the link is up and LINK_REL is 0. -/
def Hw.voteHost (h : Hw) (d : Domain) : Bool :=
  h.pwr.hostVote.getLsbD d.idx || (decide (d = .keep) && h.sys.linkUp && !h.pwr.hostVote.getLsbD 16)

/-- A session's vote on KEEP (client 3): it holds a role, or its input or output is not empty. -/
def Session.votes (s : Session) : Bool :=
  s.openS && (decide (s.role ≠ 0) || !s.inBuf.isEmpty || !s.out.isEmpty || !s.queue.isEmpty)

/-- Client `c` of Table 20.2 holds a vote on domain `d`. -/
def Hw.vote (h : Hw) (c : Fin 8) (d : Domain) : Bool :=
  if c = 0 then h.voteService d
  else if c = 1 then decide (d = .keep) && h.voteActivity
  else if c = 2 then h.voteHost d
  else if c = 3 then decide (d = .keep) && h.mywi.sess.toList.any Session.votes
  else if c = 4 then decide (d = .lat) && h.effB .latEnable && (List.range 4).any (fun n => h.effB .latLEnable n)
  else if c = 5 then decide (d = .deck) && (List.finRange 2).any (fun n =>
      h.deckVote n || (decide (h.effN .deckDkRole n ≠ 0) && decide (h.effN .deckDkRole n ≠ (h.dk n).role)))
  else if c = 6 then decide (d = .ref) && decide (h.pwr.st = .graze) && decide (h.effN .pwrGrazeOsc = 0)
  else decide (d = .keep) && h.pwr.wakeN

/-- PWR_VOTESd. -/
def Hw.votesWord (h : Hw) (d : Domain) : Word := (List.finRange 8).foldl (fun w c => w ||| flag c.val (h.vote c d)) 0

/-- The domains in code order. -/
def allDomains : List Domain := [.aon, .keep, .ref, .port, .pipe, .seal, .lat, .deck, .ibex, .store]

/-- The domain of a code. -/
def domainOf (d : Fin 10) : Domain := allDomains.getD d.val .aon

/-- A client holds a vote on the domain. -/
def Hw.voted (h : Hw) (d : Domain) : Bool := (List.finRange 8).any (fun c => h.vote c d)

/-- R421: the domain stays up; AON, and in the awake states KEEP and REF, regardless of votes. -/
def Hw.held (h : Hw) (d : Domain) : Bool := decide (d = .aon ∨ d = .keep ∨ d = .ref) || h.voted d

/-- A vote that keeps the engine from sleeping: any but the service votes and the sequencer's. -/
def Hw.voteAwake (h : Hw) : Bool :=
  allDomains.any (fun d => (List.finRange 8).any (fun c => decide (c ≠ 0 ∧ c ≠ 6) && h.vote c d))

/-! ## Sleeping -/

/-- The engine is in FULL or TRIM with no entry or return in progress. -/
def Hw.awake (h : Hw) : Bool :=
  decide (h.pwr.st = .full ∨ h.pwr.st = .trim) && h.pwr.entering.isNone && !h.pwr.returning

/-- The conditions of R423. -/
def Hw.sleepCond (h : Hw) : Bool :=
  h.awake && h.grazeOk && !h.voteAwake &&
  !h.ref.ins.toList.any (fun r => decide (r.st = .candidate ∨ r.st = .holdoff ∨ r.st = .wtr)) &&
  h.sys.done && h.sys.restart.isNone && decide (h.sys.inReset = []) && h.pwr.calibrated && !h.sleepFault

/-- How long the conditions of R423 have held. -/
def Hw.idleTick (h : Hw) : Hw :=
  { h with pwr := { h.pwr with
    idleAt := if h.sleepCond then some (h.pwr.idleAt.getD h.time.up) else none } }

/-- Every domain is up (the state FULL). -/
def Hw.allUp (h : Hw) : Bool := allDomains.all (fun d => h.domUp d)

/-- Take a power state; `pwr.state` is raised when it changes. -/
def Hw.setPState (h : Hw) (p : PState) : Hw :=
  if h.pwr.st = p then h
  else ({ h with pwr := { h.pwr with st := p } }).notice 23 0 "pwr.state" [("old", h.pwr.st.name), ("new", p.name)]

/-- FULL or TRIM, by the domains that are up, while the engine is awake. -/
def Hw.settleState (h : Hw) : Hw := if h.awake then h.setPState (if h.allUp then .full else .trim) else h

end Sys2Proof.Machine
end

