-- ==== Sys2Proof/Machine/Custody.lean ====
section
/-!
DEFINITION. Custody time: the trust tick (R13, R18 to R29, R185, R186, R200, R515) and the reading of AXIS_NOW.
-/
set_option autoImplicit false

namespace Sys2Proof.Machine

/-- U_ENTRY + U_SLEEP + U_HOLD(d), saturating (R22, R435). -/
def Hw.holdUnc (h : Hw) : Nat := min uncMax (h.time.uEntry + h.time.uSleep + h.uHold)

/-- U_REF + U_PATH + U_LOOP + |delta| of the selected input, saturating (R22, R515). -/
def Hw.refSum (h : Hw) : Nat :=
  match h.ref.sel with
  | some i => min uncMax (h.refUnc i + h.steer.uloop + h.deltaAbs)
  | none => uncMax

/-- The provisional state after the rows of Table 1.4 that do not look at AXIS_UNC: a published loss, a published
change of selection, a report of lost lock. -/
def Hw.provisional (h : Hw) : Trust × Bool :=
  let t := h.time
  let seld := h.ref.sel.isSome
  match t.trust with
  | .cold => if seld then (.acquire, false) else (.cold, false)
  | .acquire => if seld then (.acquire, false) else if t.everLocked then (.adrift, false) else (.cold, false)
  | .locked => if !seld then (.holdover, false) else if t.selChanged || t.lockLost then (.holdover, true) else (.locked, false)
  | .holdover => (.holdover, seld)
  | .adrift => if seld && (t.selChanged || t.reselect) then (.acquire, false) else (.adrift, false)

/-- AXIS_UNC for a state by R22, with the floors of R23 and R515: `prev` is the value of the last tick. -/
def Hw.uncFor (h : Hw) (tr : Trust) (bridge : Bool) (prev : Nat) : Nat :=
  match tr with
  | .cold => uncMax
  | .locked | .acquire => h.refSum
  | .holdover =>
    if bridge then (if h.time.lost132 then h.refSum else min h.holdUnc h.refSum)
    else if h.time.lost132 then uncMax
    else if h.time.trust = .holdover ∧ ¬ h.time.bridge then max prev h.holdUnc else h.holdUnc
  | .adrift =>
    if !h.time.everLocked || h.time.lost132 then uncMax
    else if h.time.trust = .adrift then max prev h.holdUnc else h.holdUnc

/-- No reference steers and the model is invalid (first row of Table 1.4). -/
def Hw.unguided (h : Hw) : Bool := h.ref.sel.isNone && !h.steer.valid

/-- A running 1 s dwell: its start while the condition holds. -/
def dwell (now : Nat) (c : Bool) (since : Option Nat) : Option Nat :=
  if c then (match since with | some t => some t | none => some now) else none

/-- The rows of Table 1.4 in table order, from the provisional state and AXIS_UNC. -/
def Hw.nextTrust (h : Hw) (p : Trust × Bool) (unc : Nat) (ok bad : Bool) : Trust × Bool :=
  let tooFar := decide (h.time.signLimit * 1000 < unc)
  match h.time.trust with
  | .locked =>
    if tooFar || h.unguided then (.adrift, false)
    else if p.1 = .holdover then p
    else if bad then (.holdover, true) else (.locked, false)
  | .holdover =>
    if tooFar || h.unguided then (.adrift, false)
    else if h.time.bridge = p.2 ∧ p.2 ∧ h.steer.lock ∧ ok then (.locked, false)
    else p
  | .acquire => if p.1 = .acquire ∧ h.steer.lock ∧ ok then (.locked, false) else p
  | .adrift =>
    if p.1 = .adrift ∧ h.ref.sel.isNone ∧ h.steer.valid ∧ ¬ tooFar then (.holdover, false) else p
  | .cold => p

/-- AXIS_STEP (R18, R20): Axis time moves by the offset, the counter and the notice and the record follow, and what is in
flight is dropped (R289); Deckline, Tally and the outputs restart on the new time (R214, R450). -/
def Hw.axisStep (h : Hw) (o : Int) : Hw :=
  let axis := ((h.time.axis : Int) + o * auPerPs).toNat
  let h := { h with
    time := { h.time with axis := axis, stepCnt := incSat h.time.stepCnt }
    steer := { h.steer with delta := 0, slewing := false } }
  let h := (h.notice 4 1 "axis.step" [("step", showPs 0 o)]).raiseEvent 117
  let d := o * auPerPs
  (((((((h.journal 0x12 (beBytes 8 (twos64 o))).dropInFlight).workStep d).calStep d).outStep d).deckStep).tallyStep).tcount 0 3

/-- R21: the offset of a reference as the step takes it; a UTC-only reference whose UTC second lies at or after an armed
leap is labelled with the offset after it. -/
def Hw.stepOffset (h : Hw) (i : Fin 20) : Int :=
  let o := (h.ref.ins[i]).ofs
  match h.time.leap, refKind i with
  | some l, .gnss =>
    let after := ((h.time.axis : Int) + o * auPerPs) / auPerSec
    if (l.at_ : Int) - l.move ≤ after then o + l.move * 1000000000000 else o
  | _, _ => o

/-- The actions on a reference that has become selected and is published at this tick. -/
def Hw.onSelected (h : Hw) (old new : Trust) (free : Bool) (i : Fin 20) : Hw :=
  match new with
  | .acquire =>
    let o := h.stepOffset i
    let h := { h with steer := { h.steer with uloop := max32 } }
    let h := if (old = .cold ∨ old = .adrift) ∧ 1000000 < o.natAbs then h.axisStep o else h.book o
    h.startAcquire
  | .holdover => (h.book (h.ref.ins[i]).ofs).startTrack free
  | _ => h

/-- AXIS_STATE: the notice of a transition or of a change of sub-state (R25), and event source 116. -/
def Hw.stateNotice (h : Hw) (old : Trust) : Hw :=
  let sub := if h.time.trust = .holdover then (if h.time.bridge then "BRIDGE" else "FREE") else "none"
  (h.notice 4 0 "axis.state" [("old", old.name), ("new", h.time.trust.name), ("sub", sub),
    ("unc", toString h.time.unc ++ "ps")]).raiseEvent 116

/-- The integrals of R197 and of R167's hold-off over one tick. -/
def Hw.integrate (h : Hw) : Hw :=
  let s := h.steer
  let f := s.fit.getD {}
  let free := decide (h.time.trust = .holdover ∨ h.time.trust = .adrift)
  let inHold : Bool := match h.ref.sel with | some i => decide ((h.ref.ins[i]).st = .holdoff) | none => false
  { h with steer := { s with
    intDev := s.intDev + (if free then (s.temp - s.tempE).natAbs * auPerTick else 0)
    intOut := s.intOut + (if free then tempOut f s.temp * auPerTick else 0)
    hoTemp := if inHold then s.hoTemp else s.temp
    hoDev := if inHold then s.hoDev + (s.temp - s.hoTemp).natAbs * auPerTick else 0
    hoOut := if inHold then s.hoOut + tempOut f s.temp * auPerTick else 0 } }

/-- Time moves by one trust tick: 1,024 cycles of the Axis clock; `axis.sec` and `axis.10ms` are raised at their
boundaries (Table 19.4). -/
def Hw.advance (h : Hw) : Hw :=
  let a := h.time.axis
  let b := a + auPerTick
  let h := { h with time := { h.time with up := h.time.up + auPerTick, axis := b } }
  let h := if a / auPerSec < b / auPerSec then h.raiseEvent 114 else h
  let h := if a / (10 * auPerMs) < b / (10 * auPerMs) then h.raiseEvent 115 else h
  (h.tcount 0 1).rampTick.integrate

/-- SIGN_OK has changed: a SIGN record with the refusals since the last one (Table 15.8). -/
def Hw.signRecord (h : Hw) : Hw :=
  if h.signOk = h.sealU.lastSignOk then h
  else
    let b := h.signOk
    let h := h.journal 0x13 (beBytes 1 (b2n b) ++ beBytes 8 h.sealU.refusals)
    { h with sealU := { h.sealU with lastSignOk := b, refusals := 0 } }

/-- Leaving LOCKED: U_ENTRY, the start of d and the frozen model (R22, R196); entering LOCKED ends them. -/
def Hw.markEntry (h : Hw) (old new : Trust) (prev : Nat) : Hw :=
  if old = .locked ∧ new ≠ .locked then
    ({ h with time := { h.time with uEntry := prev, leftAt := h.time.up - auPerTick } }).freeze
  else if new = .locked ∧ old ≠ .locked then
    { h with
      time := { h.time with everLocked := true, lost132 := false, uSleep := 0 }
      steer := { h.steer with frozen := false } }
  else h

/-- What one evaluation of Table 1.4 yields: the state and sub-state, and the two dwells. -/
structure TickOut where
  trust : Trust
  bridge : Bool
  okSince : Option Nat
  badSince : Option Nat
deriving DecidableEq, Repr

/-- The limits of R29 take effect, and a holdover longer than `steer.tangent.max_hold` ends MODEL_VALID (R193). -/
def Hw.tickLimits (h : Hw) : Hw :=
  let h := { h with time := { h.time with
    signLimit := h.effN .axisSignLimit / 1000, lockUnc := h.effN .axisLockUnc / 1000 } }
  if h.time.trust = .holdover ∧ psAu (h.effN .steerTangentMaxHold) < h.holdDur then h.setValid false "max_hold" else h

/-- AXIS_UNC of the provisional state, the 1 s dwells, and the row of Table 1.4 that applies. -/
def Hw.tickEval (h : Hw) (prev : Nat) : TickOut :=
  let p := h.provisional
  let unc := (h.markEntry h.time.trust p.1 prev).uncFor p.1 p.2 prev
  let le := decide (unc ≤ h.time.lockUnc * 1000)
  let okS := dwell h.time.up (le && (decide (p.1 = .acquire) || (decide (p.1 = .holdover) && p.2))) h.time.okSince
  let badS := dwell h.time.up (!le && decide (p.1 = .locked)) h.time.badSince
  let q := h.nextTrust p unc (h.passedO okS 1000000000000) (h.passedO badS 1000000000000)
  { trust := q.1, bridge := q.2, okSince := okS, badSince := badS }

/-- A reference counts as newly selected at this tick. -/
def Hw.becameSelected (h : Hw) (o : TickOut) : Bool :=
  let old := h.time.trust
  (decide (o.trust = .acquire) && (decide (old = .cold ∨ old = .adrift) || h.time.selChanged)) ||
  (decide (o.trust = .holdover) && o.bridge && (h.time.selChanged || (decide (old = .holdover) && !h.time.bridge)))

/-- Publish the new state: entry values, what a new selection starts, AXIS_UNC, and the notice. -/
def Hw.tickPublish (h : Hw) (prev : Nat) (o : TickOut) : Hw :=
  let old := h.time.trust
  let oldBridge := h.time.bridge
  let became := h.becameSelected o
  let h := h.markEntry old o.trust prev
  let h := { h with time := { h.time with
    trust := o.trust, bridge := o.bridge, hist := (o.trust :: h.time.hist).take 3, okSince := o.okSince, badSince := o.badSince, selChanged := false,
    lockLost := false, reselect := decide (o.trust = Trust.adrift ∧ old ≠ Trust.adrift) && h.ref.sel.isSome } }
  let h := match h.ref.sel with
    | some i => if became then h.onSelected old o.trust (decide (old = Trust.holdover) && !oldBridge) i else h
    | none => h
  let h := { h with time := { h.time with unc := h.uncFor o.trust o.bridge prev } }
  if o.trust ≠ old ∨ o.bridge ≠ oldBridge then h.stateNotice old else h

/-- What follows a published state: an input that it does not allow is lost, the reference of LOCKED is kept for the
stratum, leaps are armed or carried across, SIGN records and ESMC event PDUs go out. -/
def Hw.tickAfter (h : Hw) (old : Trust) : Hw :=
  let h := match h.ref.sel with
    | some i => if h.kindAllowed i then h else h.loseNow i .cold
    | none => h
  let h := if h.time.trust = .locked then { h with prong := { h.prong with lastSel := h.ref.sel } } else h
  let h := if old = .cold ∧ h.time.trust ≠ .cold then h.tableLeap else h
  let h := match h.time.leap with
    | some l => if l.at_ ≤ h.sec ∧ h.time.trust = Trust.acquire ∧ old ≠ Trust.acquire then h.doLeap else h
    | none => h
  h.signRecord.esmcEvents

/-- Trust ticks are published: in FULL and TRIM, and in a return once KEEP is released (R436, R438). -/
def Hw.ticking (h : Hw) : Bool :=
  decide (h.pwr.st = .full ∨ h.pwr.st = .trim) || (h.pwr.returning && h.domUp .keep)

/-- TRUST_TICK (R13): time moves by one tick; the limits in force, AXIS_UNC and the row of Table 1.4 are evaluated and
published together. In GRAZE only time moves (R438). Without an Axis clock nothing is published and only the model's count
of elapsed time goes on (notes/assumptions/12.md). -/
def execTrustTick (s : State) : Host.Outcome State Fault Refusal :=
  s.on (fun h =>
    let prev := h.time.unc
    let old := h.time.trust
    if !h.time.clockOn then { h with time := { h.time with up := h.time.up + auPerTick } }
    else
      let h := h.advance
      if !h.ticking then h
      else
        let h := h.tickLimits.applyEid
        ((h.tickPublish prev (h.tickEval prev)).tickAfter old).idleTick)

/-- AXIS_TRUST (Table 1.12): the fields a sample of AXIS_NOW shows with the time. -/
def Hw.trustWord (h : Hw) : Word :=
  fld 0 h.time.trust.code ||| flag 3 (h.time.trust = .holdover && h.time.bridge) ||| flag 4 h.signOk |||
  flag 5 h.steer.valid |||
  fld 8 h.activeTql

/-- The sample of R13: the shadows take Axis time, AXIS_UNC and AXIS_TRUST of one trust tick; `sub` model units have
passed since it. The word read is AXIS_FRAC. -/
def Hw.axisNow (h : Hw) (sub : Nat) : Word × Hw :=
  let t := h.time.axis + sub
  (fld 0 (fracOf t),
   { h with time := { h.time with nowSh := { axis := t, unc := h.time.unc, trust := h.trustWord }, nowLast := true, trustSh := true } })

/-- AXIS_NOW_READ: a host read of AXIS_NOW_W0. -/
def execAxisNowRead (sub : Nat) (s : State) : Host.Outcome State Fault Refusal :=
  s.onRead (fun h =>
    if !h.domUp .ref then (h.isoRecord 0x100000).ret [0]
    else
      let (w, h) := h.axisNow sub
      h.ret [w])

end Sys2Proof.Machine
end

