-- ==== Sys2Proof/Machine/Ibex.lean ====
section
/-!
DEFINITION. The Ibex engines (R378 to R400): the 24-bit Herd instruction set and its decoder, a channel's turn, FIFOs,
injection, pins, and the Kid lanes.
-/
set_option autoImplicit false

namespace Sys2Proof.Machine

/-! ## Access -/

/-- Change one channel, or one lane. -/
def Hw.updCh (h : Hw) (n : Fin 32) (f : HerdCh → HerdCh) : Hw :=
  { h with ibex := { h.ibex with ch := h.ibex.ch.set n (f h.ibex.ch[n]) } }
def Hw.updKid (h : Hw) (k : Fin 8) (f : KidLane → KidLane) : Hw :=
  { h with ibex := { h.ibex with kid := h.ibex.kid.set k (f h.ibex.kid[k]) } }

/-- The names of the flags of a channel and of a lane, by bit. -/
def chFlagNames : List String :=
  ["txstall", "rxstall", "txunder", "rxover", "hostovf", "rxempty", "inj_lost", "badstamp", "illegal", "pcfault", "cmppast"]
def kidFlagNames : List String := ["capovf", "stale", "loadovf", "badstamp", "capempty"]

/-- The names of the bits set in a flags word. -/
def flagList (names : List String) (w : Word) : List String :=
  ((List.range names.length).zip names).filterMap (fun p => if w.getLsbD p.1 then some p.2 else none)

/-- Set a sticky flag of a channel; `ibex.sticky` when FLAGS leaves 0 (R398). -/
def Hw.chFlag (h : Hw) (n : Fin 32) (b : Nat) : Hw :=
  let old := (h.ibex.ch[n]).flags
  let h := (h.updCh n (fun c => { c with flags := c.flags ||| fld b 1 })).tcount 14 (if b = 2 then 3 else if b = 3 then 4 else 0)
  if old = 0 then
    h.notice 20 0 "ibex.sticky" [("unit", "ch" ++ toString n.val), ("flags", showList (flagList chFlagNames (fld b 1)))]
  else h

/-- Set a sticky flag of a lane. -/
def Hw.kidFlag (h : Hw) (k : Fin 8) (b : Nat) : Hw :=
  let old := (h.ibex.kid[k]).flags
  let h := (h.updKid k (fun c => { c with flags := c.flags ||| fld b 1 })).tcount 14 (if b = 0 then 6 else 0)
  if old = 0 then
    h.notice 20 0 "ibex.sticky" [("unit", "kid" ++ toString k.val), ("flags", showList (flagList kidFlagNames (fld b 1)))]
  else h

/-- The fields of Table 18.1. -/
def HerdCh.en (c : HerdCh) : Bool := c.cfg0.getLsbD 27
def HerdCh.start (c : HerdCh) : Nat := bits c.cfg0 0 9
def HerdCh.wrapBot (c : HerdCh) : Nat := bits c.cfg0 9 9
def HerdCh.wrapTop (c : HerdCh) : Nat := bits c.cfg0 18 9
def HerdCh.sideCount (c : HerdCh) : Nat := bits c.cfg0 28 3
def HerdCh.soutBase (c : HerdCh) : Nat := bits c.cfg1 0 6
def HerdCh.soutCount (c : HerdCh) : Nat := bits c.cfg1 6 6
def HerdCh.sinBase (c : HerdCh) : Nat := bits c.cfg1 12 6
def HerdCh.sideBase (c : HerdCh) : Nat := bits c.cfg1 18 6
def HerdCh.brPin (c : HerdCh) : Nat := bits c.cfg1 24 6
def HerdCh.loadBase (c : HerdCh) : Nat := bits c.cfg2 0 6
def HerdCh.loadCount (c : HerdCh) : Nat := bits c.cfg2 6 3
def HerdCh.postThresh (c : HerdCh) : Nat := if bits c.cfg2 9 5 = 0 then 32 else bits c.cfg2 9 5
def HerdCh.fetchThresh (c : HerdCh) : Nat := if bits c.cfg2 14 5 = 0 then 32 else bits c.cfg2 14 5

/-- Whether three words are a configuration of a channel (R381). -/
def chCfgOk (c0 c1 c2 : Word) : Bool :=
  let c : HerdCh := { cfg0 := c0, cfg1 := c1, cfg2 := c2 }
  decide (c.start ≤ c.wrapBot ∧ c.wrapBot ≤ c.wrapTop ∧ c.sideCount ≤ 5 ∧ c.soutCount ≤ 32 ∧ c.loadCount ≤ 5 ∧
    c.soutBase ≤ 47 ∧ c.sinBase ≤ 47 ∧ c.sideBase ≤ 47 ∧ c.brPin ≤ 47 ∧ c.loadBase ≤ 47 ∧ bits c0 31 1 = 0 ∧
    bits c1 30 2 = 0 ∧ bits c2 23 9 = 0)

/-- The fields of Table 18.5. -/
def KidLane.en (c : KidLane) : Bool := c.cfg0.getLsbD 31
def KidLane.pinClk (c : KidLane) : Bool := c.cfg0.getLsbD 30
def KidLane.holdoff (c : KidLane) : Nat := bits c.cfg1 11 5

/-- Whether three words are a configuration of a lane. -/
def kidCfgOk (c0 c1 c2 : Word) : Bool :=
  decide (bits c0 24 6 ≤ 47 ∧ bits c1 0 6 ≤ 47 ∧ bits c1 7 1 = 0 ∧ bits c1 16 16 = 0 ∧ bits c2 24 8 = 0 ∧
    bits c2 0 24 ≤ bits c0 0 24)

/-- The word at a store address. -/
def Hw.herdWord (h : Hw) (a : Nat) : BitVec 24 := (sparseGet (0 : Word) a h.ibex.store).setWidth 24

/-- T32 (R389): nanoseconds of Axis time modulo 2^32. -/
def t32 (t : Nat) : Word := BitVec.ofNat 32 (t / auPerNs)

/-! ## Instructions (R383, Tables 18.2 to 18.4) -/

/-- The Herd instructions with the operands of Table 18.3. -/
inductive Herd where
  | br (cond : Fin 11) (addr : Fin 512)
  | await (src : Fin 4) (pol : Bool) (index : Fin 64)
  | shin (src : Fin 5) (count : Fin 33)
  | shout (dst : Fin 7) (count : Fin 33)
  | fetch (ifEmpty hold : Bool)
  | post (ifFull hold : Bool)
  | copy (dst : Fin 7) (fn : Fin 5) (src : Fin 8)
  | load (dst : Fin 5) (data : Fin 256)
  | mark (new : Bool) (word : Fin 4)
deriving DecidableEq, Repr

/-- The opcode of an instruction. -/
def Herd.op : Herd → Nat
  | .br .. => 0 | .await .. => 1 | .shin .. => 2 | .shout .. => 3 | .fetch .. => 4 | .post .. => 5 | .copy .. => 6
  | .load .. => 7 | .mark .. => 8

/-- A field of an instruction word. -/
def ifld (w : BitVec 24) (lo n : Nat) : Nat := (w.toNat >>> lo) % 2 ^ n

/-- Decode an instruction word; none for what Tables 18.2 to 18.4 do not define (R380). -/
def herdDecode (w : BitVec 24) : Option Herd :=
  let hi := ifld w 12 3
  let cnt := ifld w 0 6
  match ifld w 20 4 with
  | 0 => if hc : ifld w 11 4 < 11 then
      (if ifld w 9 2 = 0 then some (.br ⟨ifld w 11 4, hc⟩ ⟨ifld w 0 9, Nat.mod_lt _ (by decide)⟩) else none) else none
  | 1 => if hs : hi < 4 then
      (if ifld w 6 5 = 0 ∧ (hi = 1 ∨ hi = 2 ∨ ifld w 11 1 = 0) ∧
          (if hi = 0 then cnt = 0 else if hi = 3 then cnt < 8 else cnt < 48)
       then some (.await ⟨hi, hs⟩ (decide (ifld w 11 1 = 1)) ⟨cnt, Nat.mod_lt _ (by decide)⟩) else none) else none
  | 2 => if hs : hi < 5 ∧ cnt < 33 then
      (if ifld w 6 6 = 0 ∧ 1 ≤ cnt then some (.shin ⟨hi, hs.1⟩ ⟨cnt, hs.2⟩) else none) else none
  | 3 => if hs : hi < 7 ∧ cnt < 33 then
      (if ifld w 6 6 = 0 ∧ 1 ≤ cnt then some (.shout ⟨hi, hs.1⟩ ⟨cnt, hs.2⟩) else none) else none
  | 4 => if ifld w 0 13 = 0 then some (.fetch (w.getLsbD 14) (w.getLsbD 13)) else none
  | 5 => if ifld w 0 13 = 0 then some (.post (w.getLsbD 14) (w.getLsbD 13)) else none
  | 6 => if hs : hi < 7 ∧ ifld w 9 3 < 5 then
      (if ifld w 3 6 = 0 ∧ ((ifld w 9 3 = 1 ∨ ifld w 9 3 = 2) → hi < 3)
       then some (.copy ⟨hi, hs.1⟩ ⟨ifld w 9 3, hs.2⟩ ⟨ifld w 0 3, Nat.mod_lt _ (by decide)⟩) else none) else none
  | 7 => if hs : hi < 5 then
      (if ifld w 8 4 = 0 ∧ (hi = 4 → ifld w 2 6 = 0)
       then some (.load ⟨hi, hs⟩ ⟨ifld w 0 8, Nat.mod_lt _ (by decide)⟩) else none) else none
  | 8 => if ifld w 0 12 = 0 then some (.mark (w.getLsbD 14) ⟨ifld w 12 2, Nat.mod_lt _ (by decide)⟩) else none
  | _ => none

/-! ## Pins (R393) -/

/-- Pin `base + i` of a group, wrapping from IBX47 to IBX0. -/
def pinOf (base i : Nat) : Nat := (base + i) % 48

/-- The level of a pin: what the engine drives, else what the ball shows. -/
def Hw.pinLevel (h : Hw) (p : Nat) : Bool :=
  if h.ibex.pinOe.getLsbD p then h.ibex.pinOut.getLsbD p else h.ibex.pinIn.getLsbD p

/-- Set one bit of a pin register. -/
def setPin (w : BitVec 48) (p : Nat) (b : Bool) : BitVec 48 := if b then w ||| (1#48 <<< p) else w &&& ~~~(1#48 <<< p)

/-- The side-set pins of a channel. -/
def HerdCh.sidePins (c : HerdCh) : List Nat := (List.range c.sideCount).map (pinOf c.sideBase)

/-- Write bits of `v` to a group of pins, values or enables; pins in `skip` keep what side-set drives (R384). -/
def Hw.writePins (h : Hw) (enable : Bool) (base n : Nat) (v : Word) (skip : List Nat) : Hw :=
  (List.range n).foldl (fun (h : Hw) i =>
    let p := pinOf base i
    let b := v.getLsbD i
    if enable then
      { h with ibex := { h.ibex with
          pinOe := setPin h.ibex.pinOe p b, mapped := if b then setPin h.ibex.mapped p true else h.ibex.mapped } }
    else if skip.contains p then h
    else { h with ibex := { h.ibex with pinOut := setPin h.ibex.pinOut p b } }) h

/-- The 32 pins from a base, the base in bit 0. -/
def Hw.readPins (h : Hw) (base : Nat) : Word :=
  (List.range 32).foldl (fun (w : Word) i => if h.pinLevel (pinOf base i) then w ||| fld i 1 else w) 0

/-- Side-set (R384): SD[s-1:0] drives SIDE_BASE upward. -/
def Hw.sideSet (h : Hw) (n : Fin 32) (sd : Nat) : Hw :=
  let c := h.ibex.ch[n]
  h.writePins false c.sideBase c.sideCount (BitVec.ofNat 32 sd) []

/-! ## FIFOs (R386, R387) -/

/-- POST when there is room: ISR to the RX FIFO, ISR and count cleared. -/
def HerdCh.doPost (c : HerdCh) : HerdCh := { c with rx := c.rx ++ [c.isr], isr := 0, isrN := 0, postPend := false }

/-- FETCH when there is a word: to OSR and LAST, count 0. -/
def HerdCh.doFetch (c : HerdCh) : HerdCh :=
  match c.tx with
  | [] => c
  | w :: r => { c with tx := r, osr := w, last := w, osrN := 0 }

/-- What an execution of an instruction comes to: it stalls, completes, or completes having written PC. -/
inductive Turn where
  | stall
  | done
  | jump (pc : Nat)
deriving DecidableEq, Repr

/-! ## The instructions' effects (R385, R386, R389, R390) -/

/-- BR: the condition of Table 18.4, and the decrement of conditions 4 and 6. -/
def Hw.herdBr (h : Hw) (n : Fin 32) (cond : Fin 11) (addr : Fin 512) : Turn × Hw :=
  let c := h.ibex.ch[n]
  let hit := match cond.val with
    | 0 => true
    | 1 => h.pinLevel c.brPin
    | 2 => !h.pinLevel c.brPin
    | 3 => decide (c.x = 0)
    | 4 => decide (c.x ≠ 0)
    | 5 => decide (c.y = 0)
    | 6 => decide (c.y ≠ 0)
    | 7 => decide (c.x = c.y)
    | 8 => decide (c.fetchThresh ≤ c.osrN)
    | 9 => decide (c.postThresh ≤ c.isrN)
    | _ => c.reached
  let h := if cond.val = 4 then h.updCh n (fun c => { c with x := c.x - 1 })
    else if cond.val = 6 then h.updCh n (fun c => { c with y := c.y - 1 }) else h
  (if hit then .jump addr else .done, h)

/-- The stamp latch takes an instant; outside the wavefront's guarantee INVALID and BADSTAMP are set (R391). -/
def Hw.herdStamp (h : Hw) (n : Fin 32) (t : Nat) : Hw :=
  let bad := !h.islandOk 34
  let h := h.updCh n (fun c => { c with latch := t, latchBad := bad })
  if bad then h.chFlag n 7 else h

/-- AWAIT: `first` is its first execution; `edge` is an edge of its polarity sampled since then, by its instant after the
tick. -/
def Hw.herdAwait (h : Hw) (n : Fin 32) (src : Fin 4) (pol : Bool) (index : Fin 64) (first : Bool) (edge : Option Int) :
    Turn × Hw :=
  match src.val with
  | 0 => (if (h.ibex.ch[n]).reached then .done else .stall, h)
  | 1 => (if h.pinLevel index = pol then .done else .stall, h)
  | 2 =>
    match first, edge with
    | false, some t =>
      let at_ : Int := (h.time.axis : Int) + t - (Config.otpNat "ibex.edge" * auPerPs : Nat)
      (.done, h.herdStamp n at_.toNat)
    | _, _ => (.stall, h)
  | _ =>
    let k : Fin 96 := ⟨56 + index.val % 8, by omega⟩
    if h.evt.cnt[k] = 0 then (.stall, h)
    else (.done, { h with evt := { h.evt with cnt := h.evt.cnt.set k (h.evt.cnt[k] - 1) } })

/-- SHIN, with autopost (R387). -/
def Hw.herdShin (h : Hw) (n : Fin 32) (src : Fin 5) (count : Fin 33) (first : Bool) : Turn × Hw :=
  let c := h.ibex.ch[n]
  let k := count.val
  let v := match src.val with
    | 0 => 0
    | 1 => h.readPins c.sinBase
    | 2 => c.x
    | 3 => c.y
    | _ => c.osr
  let v := v &&& BitVec.ofNat 32 (2 ^ k - 1)
  let isr := if c.cfg2.getLsbD 21 then (c.isr >>> k) ||| (v <<< (32 - k)) else (c.isr <<< k) ||| v
  let h := if !first && c.postPend then h else h.updCh n (fun c => { c with isr := isr, isrN := min 32 (c.isrN + k) })
  let c := h.ibex.ch[n]
  if !c.cfg2.getLsbD 19 || decide (c.isrN < c.postThresh) then (.done, h)
  else if c.rx.length < 8 then (.done, h.updCh n HerdCh.doPost)
  else (.stall, (h.updCh n (fun c => { c with postPend := true })).chFlag n 1)

/-- SHOUT, with autofetch (R387). -/
def Hw.herdShout (h : Hw) (n : Fin 32) (dst : Fin 7) (count : Fin 33) : Turn × Hw :=
  let c := h.ibex.ch[n]
  let k := count.val
  let need := c.cfg2.getLsbD 20 && decide (c.fetchThresh ≤ c.osrN)
  if need && c.tx.isEmpty then (.stall, h.chFlag n 0)
  else
    let h := if need then h.updCh n HerdCh.doFetch else h
    let c := h.ibex.ch[n]
    let right := c.cfg2.getLsbD 22
    let v := if right then c.osr &&& BitVec.ofNat 32 (2 ^ k - 1) else c.osr >>> (32 - k)
    let h := h.updCh n (fun c => { c with
      osr := (if right then c.osr >>> k else c.osr <<< k), osrN := min 32 (c.osrN + k) })
    match dst.val with
    | 0 => (.done, h)
    | 1 => (.done, h.writePins false c.soutBase (min k c.soutCount) v c.sidePins)
    | 2 => (.done, h.writePins true c.soutBase (min k c.soutCount) v [])
    | 3 => (.done, h.updCh n (fun c => { c with x := v }))
    | 4 => (.done, h.updCh n (fun c => { c with y := v }))
    | 5 => (.done, h.updCh n (fun c => { c with isr := v }))
    | _ => (.jump (v.toNat % 512), h)

/-- FETCH. -/
def Hw.herdFetch (h : Hw) (n : Fin 32) (ifEmpty hold : Bool) : Turn × Hw :=
  let c := h.ibex.ch[n]
  if ifEmpty && decide (c.osrN < c.fetchThresh) then (.done, h)
  else if !c.tx.isEmpty then (.done, h.updCh n HerdCh.doFetch)
  else if hold then (.stall, h.chFlag n 0)
  else (.done, (h.updCh n (fun c => { c with osr := c.last, osrN := 0 })).chFlag n 2)

/-- POST. -/
def Hw.herdPost (h : Hw) (n : Fin 32) (ifFull hold : Bool) : Turn × Hw :=
  let c := h.ibex.ch[n]
  if ifFull && decide (c.isrN < c.postThresh) then (.done, h)
  else if c.rx.length < 8 then (.done, h.updCh n HerdCh.doPost)
  else if hold then (.stall, h.chFlag n 1)
  else (.done, (h.updCh n (fun c => { c with isr := 0, isrN := 0 })).chFlag n 3)

/-- The value of a COPY's source. -/
def Hw.copySrc (h : Hw) (n : Fin 32) (src : Nat) : Word :=
  let c := h.ibex.ch[n]
  match src with
  | 0 => 0
  | 1 => h.readPins c.sinBase
  | 2 => c.x
  | 3 => c.y
  | 4 => c.isr
  | 5 => c.osr
  | 6 => c.cmp
  | _ => fld 0 c.tx.length ||| fld 8 c.rx.length

/-- A write of CMP clears REACHED (R389). -/
def HerdCh.putCmp (c : HerdCh) (v : Word) : HerdCh := { c with cmp := v, reached := false, cmpNew := true }

/-- COPY. -/
def Hw.herdCopy (h : Hw) (n : Fin 32) (dst : Fin 7) (fn : Fin 5) (src : Fin 8) : Turn × Hw :=
  let c := h.ibex.ch[n]
  let s := h.copySrc n src
  let old := match dst.val with | 0 => c.x | 1 => c.y | _ => c.cmp
  let v := match fn.val with
    | 0 => s
    | 1 => old + s
    | 2 => old - s
    | 3 => ~~~s
    | _ => s.reverse
  match dst.val with
  | 0 => (.done, h.updCh n (fun c => { c with x := v }))
  | 1 => (.done, h.updCh n (fun c => { c with y := v }))
  | 2 => (.done, h.updCh n (fun c => c.putCmp v))
  | 3 => (.done, h.updCh n (fun c => { c with isr := v, isrN := 0 }))
  | 4 => (.done, h.updCh n (fun c => { c with osr := v, osrN := 0 }))
  | 5 => (.done, h.writePins false c.soutBase c.soutCount v c.sidePins)
  | _ => (.jump (v.toNat % 512), h)

/-- LOAD. -/
def Hw.herdLoad (h : Hw) (n : Fin 32) (dst : Fin 5) (data : Fin 256) : Turn × Hw :=
  let c := h.ibex.ch[n]
  let v := BitVec.ofNat 32 data.val
  match dst.val with
  | 0 => (.done, h.updCh n (fun c => { c with x := v }))
  | 1 => (.done, h.updCh n (fun c => { c with y := v }))
  | 2 => (.done, h.writePins false c.loadBase c.loadCount v c.sidePins)
  | 3 => (.done, h.writePins true c.loadBase c.loadCount v [])
  | _ => (.done, h.raiseEvent (96 + data.val % 4))

/-- The word of the latch that MARK names. -/
def latchWord (t word : Nat) : Word :=
  match word with
  | 0 => t32 t
  | 1 => BitVec.ofNat 32 (nsOf t)
  | 2 => BitVec.ofNat 32 (secOf t)
  | _ => fld 16 (fracOf t) ||| BitVec.ofNat 32 (secOf t / 4294967296)

/-- MARK, at instant `t` of the turn. -/
def Hw.herdMark (h : Hw) (n : Fin 32) (new : Bool) (word : Fin 4) (t : Nat) : Turn × Hw :=
  let h := if new then h.herdStamp n t else h
  (.done, h.updCh n (fun c => { c with isr := latchWord c.latch word, isrN := 32 }))

/-- Execute one instruction. -/
def Hw.herdExec (h : Hw) (n : Fin 32) (i : Herd) (first : Bool) (t : Nat) (edge : Option Int) : Turn × Hw :=
  match i with
  | .br c a => h.herdBr n c a
  | .await s p x => h.herdAwait n s p x first edge
  | .shin s k => h.herdShin n s k first
  | .shout d k => h.herdShout n d k
  | .fetch e k => h.herdFetch n e k
  | .post e k => h.herdPost n e k
  | .copy d f s => h.herdCopy n d f s
  | .load d v => h.herdLoad n d v
  | .mark e w => h.herdMark n e w t

/-! ## A channel's turn (R378 to R380, R389, R392) -/

/-- A halt (R380): EN is cleared, F160 latches, `ibex.halt`. `cause` is the flag: 8 ILLEGAL, 9 PCFAULT. -/
def Hw.herdHalt (h : Hw) (n : Fin 32) (cause : Nat) : Hw :=
  let pc := (h.ibex.ch[n]).pc
  let h := h.updCh n (fun c => { c with cfg0 := c.cfg0 &&& ~~~(fld 27 1), halted := true, inj := none, injRun := false })
  let h := h.chFlag n cause
  (h.notice 20 1 "ibex.halt" [("ch", toString n.val), ("pc", toString pc),
    ("cause", if cause = 8 then "illegal" else "pcfault")]).fault 9

/-- REACHED at this turn, and CMPPAST when the write before it left it set (R389). -/
def Hw.herdCompare (h : Hw) (n : Fin 32) (t : Nat) : Hw :=
  let c := h.ibex.ch[n]
  let hit := decide ((t32 t - c.cmp).toNat < 2147483648)
  let h := h.updCh n (fun c => { c with reached := c.reached || hit, cmpNew := false })
  if c.cmpNew && hit then h.chFlag n 10 else h

/-- The delay an SD field loads with `s` side-set bits. -/
def sdDelay (s sd : Nat) : Nat := sd / 2 ^ s

/-- The channel's state after an instruction: a stall is retried; else delay and PC (R379, R392). -/
def Hw.herdFinish (h : Hw) (n : Fin 32) (injected : Bool) (sd : Nat) (r : Turn) : Hw :=
  (h.tcount 14 (match r with | .stall => 2 | _ => 1)).updCh n (fun c =>
    match r with
    | .stall => if injected then { c with injRun := true } else { c with stalled := true }
    | _ =>
      let pc := match r with
        | .jump p => p
        | _ => if injected then c.pc else if c.pc = c.wrapTop then c.wrapBot else (c.pc + 1) % 512
      { c with delay := sdDelay c.sideCount sd, pc := pc, postPend := false, stalled := false,
               inj := (if injected then none else c.inj), injRun := false })

/-- Execute the word `w` of this turn when its opcode is `op`; an undefined word halts the channel. -/
def Hw.herdRun (h : Hw) (n : Fin 32) (op : Nat) (w : BitVec 24) (injected : Bool) (t : Nat) (edge : Option Int) : Option Hw :=
  match herdDecode w with
  | none => some (h.herdHalt n 8)
  | some i =>
    if i.op ≠ op then none
    else
      let c := h.ibex.ch[n]
      let first := if injected then !c.injRun else !c.stalled
      let sd := ifld w 15 5
      let h := if injected && first then h.updCh n (fun c => { c with stalled := false, postPend := false }) else h
      let h := if first then h.sideSet n sd else h
      let (r, h) := h.herdExec n i first t edge
      some (h.herdFinish n injected sd r)

/-- The turn of channel `n`, `sub` model units after the tick, with the pins at the levels given, of an instruction of
opcode `op` (R379). A turn of another opcode is not this event and changes nothing. -/
def Hw.herdTurn (h : Hw) (n : Fin 32) (op : Nat) (pins : BitVec 48) (sub : Nat) (edge : Option Int) : Hw :=
  let c := h.ibex.ch[n]
  if !h.domUp .ibex || (!c.en && c.inj.isNone) then h
  else
    let t := h.time.axis + sub
    let h' := ({ h with ibex := { h.ibex with pinIn := pins } }).herdCompare n t
    if 0 < c.delay then h'.updCh n (fun c => { c with delay := c.delay - 1 })
    else match c.inj with
      | some w => (h'.herdRun n op w true t edge).getD h
      | none =>
        if c.pc < c.start ∨ c.wrapTop < c.pc then h'.herdHalt n 9
        else (h'.herdRun n op (h.herdWord c.pc) false t edge).getD h

/-- BR (R385). -/
def execBr (n : Fin 32) (pins : BitVec 48) (sub : Nat) (s : State) : Host.Outcome State Fault Refusal :=
  s.on (fun h => h.herdTurn n 0 pins sub none)
/-- AWAIT (R390). -/
def execAwait (n : Fin 32) (pins : BitVec 48) (sub : Nat) (edge : Option Int) (s : State) :
    Host.Outcome State Fault Refusal :=
  s.on (fun h => h.herdTurn n 1 pins sub edge)
/-- SHIN (R385, R387). -/
def execShin (n : Fin 32) (pins : BitVec 48) (sub : Nat) (s : State) : Host.Outcome State Fault Refusal :=
  s.on (fun h => h.herdTurn n 2 pins sub none)
/-- SHOUT (R385, R387). -/
def execShout (n : Fin 32) (pins : BitVec 48) (sub : Nat) (s : State) : Host.Outcome State Fault Refusal :=
  s.on (fun h => h.herdTurn n 3 pins sub none)
/-- FETCH (R386). -/
def execFetch (n : Fin 32) (pins : BitVec 48) (sub : Nat) (s : State) : Host.Outcome State Fault Refusal :=
  s.on (fun h => h.herdTurn n 4 pins sub none)
/-- POST (R386). -/
def execPost (n : Fin 32) (pins : BitVec 48) (sub : Nat) (s : State) : Host.Outcome State Fault Refusal :=
  s.on (fun h => h.herdTurn n 5 pins sub none)
/-- COPY (R385). -/
def execCopy (n : Fin 32) (pins : BitVec 48) (sub : Nat) (s : State) : Host.Outcome State Fault Refusal :=
  s.on (fun h => h.herdTurn n 6 pins sub none)
/-- LOAD (R385). -/
def execLoad (n : Fin 32) (pins : BitVec 48) (sub : Nat) (s : State) : Host.Outcome State Fault Refusal :=
  s.on (fun h => h.herdTurn n 7 pins sub none)
/-- MARK (R385, R391). -/
def execMark (n : Fin 32) (pins : BitVec 48) (sub : Nat) (s : State) : Host.Outcome State Fault Refusal :=
  s.on (fun h => h.herdTurn n 8 pins sub none)

/-! ## Host access to the channels (R382, R388, R392, R399) -/

/-- While `out.irigb.enable` is on, channel 31 and words 472 to 511 are reserved (R216). -/
def Hw.irigReserved (h : Hw) : Bool := h.effB .outOEnable 12

/-- The register offset of a channel, and of a lane. -/
def chOff (n : Fin 32) (o : Nat) : Nat := 0xD02000 + 0x40 * n.val + o
def kidOff (k : Fin 8) (o : Nat) : Nat := 0xD03000 + 0x80 * k.val + o

/-- What a register write does to a channel; channel 31 takes none while IRIG-B is enabled (R399). -/
def Hw.chFree (h : Hw) (n : Fin 32) (f : Hw → Hw) : Hw := if n = 31 ∧ h.irigReserved then h else f h

/-- Queue an injected instruction (R392). -/
def Hw.inject (h : Hw) (n : Fin 32) (w : BitVec 24) : Hw :=
  if (h.ibex.ch[n]).inj.isSome then h.chFlag n 6 else h.updCh n (fun c => { c with inj := some w, injRun := false })

/-- IBEX_INJECT: a register write of IBEX_CHn_INJECT. -/
def execIbexInject (n : Fin 32) (v : Word) (s : State) : Host.Outcome State Fault Refusal :=
  s.onWrite (fun h => if !h.domUp .ibex then h.isoRecord (chOff n 0x24) else h.chFree n (fun h => h.inject n (v.setWidth 24)))

/-- A word for a TX FIFO: discarded with HOSTOVF when it is full (R388). -/
def Hw.txfPut (h : Hw) (n : Fin 32) (v : Word) : Hw :=
  if (h.ibex.ch[n]).tx.length < 8 then h.updCh n (fun c => { c with tx := c.tx ++ [v] }) else h.chFlag n 4

/-- IBEX_TXF_WRITE (R388). -/
def execIbexTxfWrite (n : Fin 32) (v : Word) (s : State) : Host.Outcome State Fault Refusal :=
  s.onWrite (fun h => if !h.domUp .ibex then h.isoRecord (chOff n 0x28) else h.chFree n (fun h => h.txfPut n v))

/-- The head of an RX FIFO, removed; 0 with RXEMPTY when it is empty (R388). -/
def Hw.rxfTake (h : Hw) (n : Fin 32) : Word × Hw :=
  match (h.ibex.ch[n]).rx with
  | [] => (0, h.chFlag n 5)
  | w :: r => (w, h.updCh n (fun c => { c with rx := r }))

/-- IBEX_RXF_READ (R388). -/
def execIbexRxfRead (n : Fin 32) (s : State) : Host.Outcome State Fault Refusal :=
  s.onRead (fun h =>
    if !h.domUp .ibex then (h.isoRecord (chOff n 0x2C)).ret [0]
    else
      let (w, h) := h.rxfTake n
      h.ret [w])

/-- A restart (R399): PC to START; X, Y, ISR, OSR, counts, stall, delay, CMP, REACHED, LAST and both FIFOs are cleared. -/
def Hw.chRestart (h : Hw) (n : Fin 32) : Hw :=
  h.updCh n (fun c => { c with
    pc := c.start, x := 0, y := 0, isr := 0, isrN := 0, osr := 0, osrN := 0, stalled := false, postPend := false,
    delay := 0, cmp := 0, reached := false, cmpNew := true, last := 0, tx := [], rx := [] })

/-- IBEX_RESTART: CTRL.RESTART of a channel. -/
def execIbexRestart (n : Fin 32) (s : State) : Host.Outcome State Fault Refusal :=
  s.onWrite (fun h => if !h.domUp .ibex then h.isoRecord (chOff n 0x0C) else h.chFree n (fun h => h.chRestart n))

/-- Empty both FIFOs. -/
def Hw.chFlush (h : Hw) (n : Fin 32) : Hw := h.updCh n (fun c => { c with tx := [], rx := [] })

/-- IBEX_FLUSH: CTRL.FLUSH empties both FIFOs. -/
def execIbexFlush (n : Fin 32) (s : State) : Host.Outcome State Fault Refusal :=
  s.onWrite (fun h => if !h.domUp .ibex then h.isoRecord (chOff n 0x0C) else h.chFree n (fun h => h.chFlush n))

/-- `ibex.busy`. -/
def Hw.ibexBusy (h : Hw) (unit : String) : Hw := h.notice 20 3 "ibex.busy" [("unit", unit)]

/-- Replace word `k` of three. -/
def putCfg (c0 c1 c2 : Word) (k : Fin 3) (v : Word) : Word × Word × Word :=
  if k = 0 then (v, c1, c2) else if k = 1 then (c0, v, c2) else (c0, c1, v)

/-- The outcome of a configuration write: 0 taken, 1 busy, 2 out of range (R381, R382). `enBit` is EN of word 0. -/
def cfgTest (old new : Word × Word × Word) (enBit : Nat) (k : Fin 3) (ok : Word → Word → Word → Bool) : Nat :=
  let same0 := decide ((old.1 ^^^ new.1) &&& ~~~(fld enBit 1) = 0)
  if old.1.getLsbD enBit && !(decide (k = 0) && same0) then 1
  else if ok new.1 new.2.1 new.2.2 then 0 else 2

/-- Write a channel's configuration word. Enabling clears HALTED. -/
def Hw.chCfg (h : Hw) (n : Fin 32) (k : Fin 3) (v : Word) : Nat × Hw :=
  let c := h.ibex.ch[n]
  let new := putCfg c.cfg0 c.cfg1 c.cfg2 k v
  let t := cfgTest (c.cfg0, c.cfg1, c.cfg2) new 27 k chCfgOk
  (t, if t = 0 then h.updCh n (fun c => { c with
      cfg0 := new.1, cfg1 := new.2.1, cfg2 := new.2.2,
      halted := c.halted && !(new.1.getLsbD 27 && !c.cfg0.getLsbD 27) }) else h)

/-- Write a lane's configuration word. -/
def Hw.kidCfg (h : Hw) (n : Fin 8) (k : Fin 3) (v : Word) : Nat × Hw :=
  let c := h.ibex.kid[n]
  let new := putCfg c.cfg0 c.cfg1 c.cfg2 k v
  let t := cfgTest (c.cfg0, c.cfg1, c.cfg2) new 31 k kidCfgOk
  (t, if t = 0 then h.updKid n (fun c => { c with cfg0 := new.1, cfg1 := new.2.1, cfg2 := new.2.2 }) else h)

/-- A register write of a channel's configuration word. -/
def Hw.chCfgWrite (h : Hw) (n : Fin 32) (k : Fin 3) (v : Word) : Hw :=
  h.chFree n (fun h =>
    let (t, h') := h.chCfg n k v
    if t = 0 then h' else if t = 1 then h.ibexBusy ("ch" ++ toString n.val) else h.regRange (chOff n (4 * k.val)))

/-- A register write of a lane's configuration word. -/
def Hw.kidCfgWrite (h : Hw) (n : Fin 8) (k : Fin 3) (v : Word) : Hw :=
  let (t, h') := h.kidCfg n k v
  if t = 0 then h' else if t = 1 then h.ibexBusy ("kid" ++ toString n.val) else h.regRange (kidOff n (4 * k.val))

/-- IBEX_CFG_WRITE (R381, R382): word `k` of channel `u` below 32, of lane `u - 32` above. -/
def execIbexCfgWrite (u : Fin 40) (k : Fin 3) (v : Word) (s : State) : Host.Outcome State Fault Refusal :=
  s.onWrite (fun h =>
    if hu : u.val < 32 then
      let n : Fin 32 := ⟨u.val, hu⟩
      if !h.domUp .ibex then h.isoRecord (chOff n (4 * k.val)) else h.chCfgWrite n k v
    else
      let n : Fin 8 := ⟨u.val - 32, by omega⟩
      if !h.domUp .ibex then h.isoRecord (kidOff n (4 * k.val)) else h.kidCfgWrite n k v)

/-- An enabled channel covers a store word (R399). -/
def Hw.covered (h : Hw) (a : Nat) : Bool :=
  h.ibex.ch.toList.any (fun c => c.en && decide (c.start ≤ a ∧ a ≤ c.wrapTop))

/-- A store word is written whole. -/
def Hw.storePut (h : Hw) (a : Nat) (v : Word) : Hw :=
  { h with ibex := { h.ibex with store := sparseSet 0 a (v &&& 0xFFFFFF) h.ibex.store } }

/-- A register write of a store word (R399). -/
def Hw.storeWrite (h : Hw) (a : Nat) (v : Word) : Hw :=
  if 472 ≤ a ∧ h.irigReserved then h else if h.covered a then h.ibexBusy "store" else h.storePut a v

/-- IBEX_STORE_WRITE (R399). -/
def execIbexStoreWrite (a : Fin 512) (v : Word) (s : State) : Host.Outcome State Fault Refusal :=
  s.onWrite (fun h => if !h.domUp .ibex then h.isoRecord (0xD01000 + 4 * a.val) else h.storeWrite a v)

/-! ## Kid lanes (R394 to R396) -/

/-- Samples shifted into SR, and whether the lane matches on it (R395). -/
def KidLane.sample (c : KidLane) (b : Bool) : BitVec 64 × Bool :=
  let sr := (c.sr <<< 1) ||| (if b then 1#64 else 0#64)
  (sr, decide (c.hold = 0) && decide ((sr ^^^ c.pattern) &&& c.mask = 0))

/-- The low and high words of a 64-bit vector. -/
def lo64 (b : BitVec 64) : Word := b.setWidth 32
def hi64 (b : BitVec 64) : Word := (b >>> 32).setWidth 32

/-- A capture record of Table 18.6. -/
def Hw.kidRecord (h : Hw) (k : Fin 8) (t : Nat) : Hw :=
  let c := h.ibex.kid[k]
  let bad := !h.islandOk 35
  let r : List Word :=
    [fld 0 k.val ||| flag 3 bad ||| flag 4 c.ovf ||| flag 5 c.stale ||| flag 6 c.pinClk ||| fld 16 (c.seq % 65536),
     BitVec.ofNat 32 (nsOf t), BitVec.ofNat 32 (secOf t), BitVec.ofNat 32 (secOf t / 4294967296) ||| fld 16 (fracOf t),
     lo64 c.sr, hi64 c.sr]
  let h := h.updKid k (fun c =>
    if c.cap.length < 16 then { c with cap := c.cap ++ [r], seq := (c.seq + 1) % 65536, ovf := false, stale := false }
    else { c with seq := (c.seq + 1) % 65536, ovf := true, stale := false })
  let h := if c.cap.length < 16 then h else h.kidFlag k 0
  if bad then h.kidFlag k 3 else h

/-- AUTO_NEXT: the next pair, or STALE. -/
def Hw.kidNext (h : Hw) (k : Fin 8) : Hw :=
  match (h.ibex.kid[k]).load with
  | (p, m) :: r => h.updKid k (fun c => { c with pattern := p, mask := m, load := r })
  | [] => (h.updKid k (fun c => { c with stale := true })).kidFlag k 1

/-- A match: event, record, next pair; the samples that follow are held off. -/
def Hw.kidMatch (h : Hw) (k : Fin 8) (t : Nat) : Hw :=
  let c := h.ibex.kid[k]
  let h := h.tcount 14 5
  let h := if c.cfg1.getLsbD 8 then h.raiseEvent (88 + k.val) else h
  let h := if c.cfg1.getLsbD 9 then h.kidRecord k t else h
  let h := if c.cfg1.getLsbD 10 then h.kidNext k else h
  h.updKid k (fun c => { c with hold := c.holdoff })

/-- A lane runs. -/
def Hw.kidOn (h : Hw) (k : Fin 8) : Bool := h.domUp .ibex && (h.ibex.kid[k]).en

/-- LANE_SAMPLE (R394): a sample that makes no match. -/
def execLaneSample (k : Fin 8) (b : Bool) (s : State) : Host.Outcome State Fault Refusal :=
  s.on (fun h =>
    let (sr, hit) := (h.ibex.kid[k]).sample b
    h.when (h.kidOn k && !hit) (fun h => h.updKid k (fun c => { c with sr := sr, hold := c.hold - 1 })))

/-- KID_MATCH (R395): a sample, taken `sub` after the tick, that completes a match. -/
def execKidMatch (k : Fin 8) (b : Bool) (sub : Nat) (s : State) : Host.Outcome State Fault Refusal :=
  s.on (fun h =>
    let (sr, hit) := (h.ibex.kid[k]).sample b
    h.when (h.kidOn k && hit) (fun h => (h.updKid k (fun c => { c with sr := sr })).kidMatch k (h.time.axis + sub)))

/-- Two words as one of 64 bits. -/
def join64 (lo hi : Word) : BitVec 64 := hi ++ lo

/-- The four words apply as one pair when MASK_HI is written (R395, R8). -/
def Hw.kidPair (h : Hw) (k : Fin 8) (v : Word) : Hw :=
  let c := h.ibex.kid[k]
  let p := join64 (h.stageGet (kidOff k 0x10) (lo64 c.pattern)) (h.stageGet (kidOff k 0x14) (hi64 c.pattern))
  let m := join64 (h.stageGet (kidOff k 0x18) (lo64 c.mask)) v
  (h.updKid k (fun c => { c with pattern := p, mask := m })).stageDrop (kidOff k 0x10) 12

/-- KID_MASK_HI_WRITE. -/
def execKidMaskHiWrite (k : Fin 8) (v : Word) (s : State) : Host.Outcome State Fault Refusal :=
  s.onWrite (fun h => if !h.domUp .ibex then h.isoRecord (kidOff k 0x1C) else h.kidPair k v)

/-- A word for a load FIFO: the fourth completes a pair; a word that finds 4 pairs is discarded with LOADOVF (R396). -/
def Hw.kidLoad (h : Hw) (k : Fin 8) (v : Word) : Hw :=
  let c := h.ibex.kid[k]
  if 4 ≤ c.load.length then h.kidFlag k 2
  else
    match c.loadPart ++ [v] with
    | [a, b, m, n] => h.updKid k (fun c => { c with load := c.load ++ [(join64 a b, join64 m n)], loadPart := [] })
    | l => h.updKid k (fun c => { c with loadPart := l })

/-- KID_LOAD_WRITE (R396). -/
def execKidLoadWrite (k : Fin 8) (v : Word) (s : State) : Host.Outcome State Fault Refusal :=
  s.onWrite (fun h => if !h.domUp .ibex then h.isoRecord (kidOff k 0x2C) else h.kidLoad k v)

/-- The head record, removed and captured whole; 0 with CAPEMPTY when there is none (R396). -/
def Hw.kidCap (h : Hw) (k : Fin 8) : Word × Hw :=
  match (h.ibex.kid[k]).cap with
  | [] => (0, h.kidFlag k 4)
  | r :: l => (r.headD 0, h.updKid k (fun c => { c with cap := l, popped := r }))

/-- KID_CAP0_READ (R396). -/
def execKidCap0Read (k : Fin 8) (s : State) : Host.Outcome State Fault Refusal :=
  s.onRead (fun h =>
    if !h.domUp .ibex then (h.isoRecord (kidOff k 0x30)).ret [0]
    else
      let (w, h) := h.kidCap k
      h.ret [w])

/-! ## Loading the store and the configurations (R400, R125) -/

/-- The factory set: the IRIG-B program in words 472 to 511 and channel 31's configuration, disabled. -/
def factoryIbex : IbexSt :=
  { store := (List.range 40).foldl (fun l k =>
      sparseSet 0 (472 + k) (Config.factoryHerd (472 + k) &&& 0xFFFFFF) l) []
    ch := (Vector.replicate 32 ({} : HerdCh)).set 31
      { cfg0 := Config.factoryHerd 512 &&& ~~~(fld 27 1), cfg1 := Config.factoryHerd 513, cfg2 := Config.factoryHerd 514 } }

/-- Entries of 16 bytes: number, three reserved, three words. -/
def ibexEntries (l : List Byte) (n : Nat) : List (Nat × Word × Word × Word) :=
  (List.range n).map (fun i =>
    let at_ := fun o => BitVec.ofNat 32 (beNat ((l.drop (16 * i + o)).take 4))
    (beNat ((l.drop (16 * i)).take 1), at_ 4, at_ 8, at_ 12))

/-- What an IBEX section holds (R125). -/
def imageIbex (sec : List Byte) : IbexSt :=
  let words := beNat (sec.take 2)
  let chans := (sec.getD 2 0).toNat
  let lanes := (sec.getD 3 0).toNat
  let entries := sec.drop (4 + (3 * words + 3) / 4 * 4)
  let s0 : IbexSt := { store := (List.range (min 512 words)).foldl (fun l k =>
    sparseSet 0 k (BitVec.ofNat 32 (beNat ((sec.drop (4 + 3 * k)).take 3))) l) [] }
  let s1 := (ibexEntries entries chans).foldl (fun (s : IbexSt) e =>
    if he : e.1 < 32 then
      { s with ch := s.ch.set e.1 { cfg0 := e.2.1, cfg1 := e.2.2.1, cfg2 := e.2.2.2, pc := bits e.2.1 0 9, cmpNew := true } }
    else s) s0
  (ibexEntries (entries.drop (16 * chans)) lanes).foldl (fun (s : IbexSt) e =>
    if he : e.1 < 8 then { s with kid := s.kid.set e.1 { cfg0 := e.2.1, cfg1 := e.2.2.1, cfg2 := e.2.2.2 } }
    else s) s1

/-- A load of the store and every configuration (R400): `ibex.reload`. -/
def Hw.ibexLoad (h : Hw) (sec : Option (List Byte)) : Hw :=
  let i := match sec with
    | some l => imageIbex l
    | none => factoryIbex
  (({ h with ibex := { i with pinIn := h.ibex.pinIn } }).regsFresh (fun o => inRegs 0xD00000 0x100000 o)).notice 20 2 "ibex.reload" []

end Sys2Proof.Machine
end

