-- ==== Sys2Proof/Machine/Dma.lean ====
section
/-!
DEFINITION. The DMA engine and the event matrix (chapter 19): descriptors and their check, passes, bursts, rings, ends,
aborts and pauses (R401 to R417), and the routing of event sources to task inputs (R418 to R420). A burst is one step: what
arrives while it runs is seen when it has ended (R416, R417).
-/
set_option autoImplicit false

namespace Sys2Proof.Machine

/-! ## Descriptors (R401 to R406) -/

/-- Change one channel. -/
def Hw.updDma (h : Hw) (n : Fin 16) (f : DmaCh → DmaCh) : Hw :=
  { h with dma := { h.dma with ch := h.dma.ch.set n (f h.dma.ch[n]) } }

/-- The sizes WIN and UNIT code (Table 19.7). -/
def dmaSizes : List Nat := [4, 8, 16, 24, 32, 64]

/-- The fields of DMA_CHn_CFG. -/
def DmaCh.srcFix (c : DmaCh) : Bool := c.cfg.getLsbD 0
def DmaCh.dstFix (c : DmaCh) : Bool := c.cfg.getLsbD 1
def DmaCh.win (c : DmaCh) : Nat := dmaSizes.getD (bits c.cfg 2 3) 4
def DmaCh.unit (c : DmaCh) : Nat := dmaSizes.getD (bits c.cfg 5 3) 4
def DmaCh.swap (c : DmaCh) : Nat := bits c.cfg 8 2
def DmaCh.prio (c : DmaCh) : Fin 4 := Fin.ofNat 4 (bits c.cfg 10 2)
def DmaCh.ring (c : DmaCh) : Nat := bits c.cfg 12 2
def DmaCh.halfEn (c : DmaCh) : Bool := c.cfg.getLsbD 14
def DmaCh.fullEn (c : DmaCh) : Bool := c.cfg.getLsbD 15
def DmaCh.statEn (c : DmaCh) : Bool := c.cfg.getLsbD 16
def DmaCh.pace (c : DmaCh) : Nat := bits c.cfg 17 7

/-- MARK and HYST in force: three quarters and one quarter of COUNT until one is written (Table 19.6). -/
def DmaCh.markVal (c : DmaCh) : Nat := c.mark.getD (c.count * 3 / 4)
def DmaCh.hystVal (c : DmaCh) : Nat := c.hyst.getD (c.count / 4)

/-- A side lies in register space (ADDR_HI[31]), and its offset there or in Store. -/
def isReg (a : Nat) : Bool := a.testBit 63
def sideOff (a : Nat) : Nat := a % 9223372036854775808

/-- An address of Table 19.1: a Store offset of 33 bits, or a BAR0 offset in a block range or the Keep window. -/
def dmaAddrOk (a : Nat) : Bool :=
  if isReg a then
    let o := sideOff a
    decide (o < 0x4000000) && (decide (o < 0x1300000) || decide (0x2000000 ≤ o ∧ o < 0x2200000)) && (bar0Domain o).isSome
  else decide (a < storeSize)

/-- The ring lies on the destination, or on the source (R411): the Store side that increments. -/
def DmaCh.dstRing (c : DmaCh) : Bool := !isReg c.dst && !c.dstFix
def DmaCh.srcRing (c : DmaCh) : Bool := !c.dstRing && !isReg c.src && !c.srcFix

/-- A side obeys R401 and R402. -/
def sideOk (a count : Nat) (fix : Bool) : Bool :=
  dmaAddrOk a && (if isReg a || fix then decide (a % 4 = 0 ∧ count % 4 = 0) else true)

/-- The megabyte of the block a PACE asks (Table 19.2), or `none` for a value that is not defined. -/
def paceBlock (p : Nat) : Option Nat :=
  if 1 ≤ p ∧ p ≤ 40 then some 5 else if 41 ≤ p ∧ p ≤ 120 then some 13 else if p = 121 then some 4 else none

/-- A side lies in a pace's block. -/
def inBlock (a b : Nat) : Bool := isReg a && decide (sideOff a / 0x100000 = b)

/-- PACE, UNIT and WIN agree (R406, R407). -/
def DmaCh.paceOk (c : DmaCh) : Bool :=
  (decide (c.pace = 0) ||
    (match paceBlock c.pace with
     | some b => (inBlock c.src b || inBlock c.dst b) && decide (c.count % c.unit = 0)
     | none => false)) &&
  (!(c.srcFix || c.dstFix) || decide (c.unit % c.win = 0))

/-- The ring obeys *Rings* (R411, R412). -/
def DmaCh.ringOk (c : DmaCh) : Bool :=
  decide (c.ring = 0) ||
  (decide (c.ring ≠ 3 ∧ c.count % c.unit = 0 ∧ 2 * c.unit ≤ c.count) && (c.dstRing || c.srcRing) &&
    (decide (c.ring = 2) || decide (1 ≤ c.markVal ∧ c.markVal ≤ c.count ∧ c.hystVal ≤ c.markVal)))

/-- No byte of the destination lies in the journal region. -/
def DmaCh.dstFree (c : DmaCh) : Bool :=
  isReg c.dst || decide (c.dst + (if c.dstFix then c.win else c.count) ≤ journalBase ∨ journalEnd ≤ c.dst)

/-- The status record's address: in Store, 16-byte aligned, not in the journal (R414). -/
def DmaCh.statOk (c : DmaCh) : Bool :=
  !c.statEn || decide (c.stat % 16 = 0 ∧ c.stat < storeSize ∧ (c.stat < journalBase ∨ journalEnd ≤ c.stat))

/-- COUNT is a whole number of swap groups (R404). -/
def DmaCh.swapOk (c : DmaCh) : Bool :=
  decide (c.swap = 0) || decide (c.count % (if c.swap = 1 then 2 else 4) = 0)

/-- The check of R406. -/
def DmaCh.check (c : DmaCh) : Bool :=
  decide (1 ≤ c.count ∧ c.count ≤ 16777216 ∧ bits c.cfg 2 3 < 6 ∧ bits c.cfg 5 3 < 6) &&
  sideOk c.src c.count c.srcFix && sideOk c.dst c.count c.dstFix && c.swapOk && c.paceOk && c.ringOk && c.dstFree && c.statOk

/-! ## Ends (R413 to R415) -/

/-- The channel name in notices. -/
def dmaName (n : Fin 16) : String := toString n.val

/-- `dma.half` and `dma.full` (`which` 1 and 2): the event bit, the event source, and the notice at most once per second with
its count. -/
def Hw.dmaPoint (h : Hw) (n : Fin 16) (which : Fin 2) : Hw :=
  let c := h.dma.ch[n]
  let full := decide (which = 1)
  let h := (h.setDmaEvt n (which.val + 1)).raiseEvent (16 * (which.val + 1) + n.val)
  let at_ := if full then c.fullAt else c.halfAt
  let num := (if full then c.fullN else c.halfN) + 1
  let due := match at_ with
    | some t => h.passed t 1000000000000
    | none => true
  let h := h.updDma n (fun c =>
    if full then { c with fullAt := (if due then some h.time.up else c.fullAt), fullN := (if due then 0 else num) }
    else { c with halfAt := (if due then some h.time.up else c.halfAt), halfN := (if due then 0 else num) })
  if due then
    h.deliver { stem := if full then "dma.full" else "dma.half", args := [("ch", dmaName n), ("count", toString num)] }
  else h

/-- The residue: bytes of the pass, in a ring of its present round, not written (R414). -/
def DmaCh.left (c : DmaCh) : Nat := if c.ring = 0 then c.wcount - c.done else c.wcount - c.done % max 1 c.wcount

/-- The status record of R414. -/
def DmaCh.statusRecord (c : DmaCh) (code residue : Nat) (axis : Nat) : List Byte :=
  leBytes 1 code ++ leBytes 1 (b2n (decide (c.ring ≠ 0)) + 2 * b2n c.late) ++ leBytes 2 0 ++ leBytes 4 residue ++
  leBytes 4 (nsOf axis) ++ leBytes 4 (secOf axis % 4294967296)

/-- The names of Table 19.3. -/
def dmaCodeName (c : Nat) : String :=
  (["done", "aborted", "badcfg", "access", "isolated", "ecc", "reset"][c]?).getD ""

/-- A pass ends with a code (R414, R415). -/
def Hw.dmaEnd (h : Hw) (n : Fin 16) (code : Nat) : Hw :=
  let c := h.dma.ch[n]
  let residue := if code = 2 then c.wcount else if c.issued then 0 else c.left
  let h := if c.statEn && decide (code ≠ 6) && c.statOk && h.domUp .store then
      h.writeStore c.stat (c.statusRecord code residue h.time.axis) else h
  let h := h.updDma n (fun c => { c with st := .ended, code := code, residue := residue, issued := false })
  let h := ((h.raiseEvent n.val).setDmaEvt n 0).tcount 15 4
  let h := if code = 0 then h else h.setDmaEvt n 4
  if code ≠ 0 ∨ c.fullEn then
    h.deliver { stem := "dma.end",
                args := [("ch", dmaName n), ("code", dmaCodeName code), ("residue", toString residue)] }
  else h

/-! ## Starting, aborting, pausing (R405, R416, R417) -/

/-- The start and abort task inputs of a channel. -/
def dmaStartTask (n : Fin 16) : Fin 96 := ⟨n.val, by omega⟩
def dmaAbortTask (n : Fin 16) : Fin 96 := ⟨80 + n.val, by omega⟩

/-- A pass is under way. -/
def DmaCh.busy (c : DmaCh) : Bool := decide (c.st = .pending ∨ c.st = .moving ∨ c.st = .paused)

/-- Arrivals at a task input (R420): those beyond 15 are lost and set OVF. -/
def Hw.taskArrive (h : Hw) (t : Fin 96) (a : Nat) : Hw :=
  let c := h.evt.cnt[t]
  let lost := c + a - 15
  let first := !h.evt.ovf[t]
  let h := { h with evt := { h.evt with cnt := h.evt.cnt.set t (min 15 (c + a)) } }
  let h := h.tcount 15 5 a
  if lost = 0 then h
  else
    let h := { h with evt := { h.evt with ovf := h.evt.ovf.set t true, lastOvf := t.val } }
    let h := h.tcount 15 6 lost
    if first then h.notice 22 7 "evt.ovf" [("task", taskNames.getD t "")] else h

/-- An arrival at a start input during a ring pass sets START_IGN. -/
def Hw.startIgn (h : Hw) (n : Fin 16) : Hw :=
  let c := h.dma.ch[n]
  if c.busy && decide (c.ring ≠ 0) then h.setDmaEvt n 5 else h

/-- The channel consumes one arrival and begins a pass, or ends at once with BADCFG (R405, R406). -/
def Hw.dmaBegin (h : Hw) (n : Fin 16) : Hw :=
  let t := dmaStartTask n
  let c := h.dma.ch[n]
  if h.evt.cnt[t] = 0 ∨ c.busy then h
  else
    let h := { h with evt := { h.evt with cnt := h.evt.cnt.set t (h.evt.cnt[t] - 1) } }
    let h := h.updDma n (fun c => { c with
      wsrc := c.src, wdst := c.dst, wcount := c.count, done := 0, issued := false, late := false, code := 0, st := .pending
      eng := if c.ring = 0 then c.eng else 0 })
    if c.check then h else h.dmaEnd n 2

/-- An abort (R416). -/
def Hw.dmaAbort (h : Hw) (n : Fin 16) : Hw :=
  let c := h.dma.ch[n]
  if c.st = .moving then h.updDma n (fun c => { c with late := true })
  else
    let h := { h with evt := { h.evt with cnt := h.evt.cnt.set (dmaStartTask n) 0 } }
    if c.busy then h.dmaEnd n 1 else h

/-- A pause: no further burst is taken. -/
def Hw.dmaPause (h : Hw) (n : Fin 16) : Hw :=
  h.updDma n (fun c => if c.st = .pending then { c with st := .paused } else c)

/-- The return to arbitration. -/
def Hw.dmaResume (h : Hw) (n : Fin 16) : Hw :=
  h.updDma n (fun c => if c.st = .paused then { c with st := .pending } else c)

/-- Channel 15's registers take no write while IRIG-B is enabled (R216). -/
def Hw.dmaReserved (h : Hw) (n : Fin 16) : Bool := h.irigReserved && decide (n = 15)

/-- The offset of a channel register. -/
def dmaOff (n : Fin 16) (o : Nat) : Nat := 0xE01000 + 0x80 * n.val + o

/-- A host write of CTRL under R65 and R216. -/
def Hw.dmaCtrl (h : Hw) (n : Fin 16) (f : Hw → Hw) : Hw :=
  if !h.domUp .keep then h.isoRecord (dmaOff n 0x18) else if h.dmaReserved n then h else f h

/-- CTRL.START: one arrival at the start input, consumed at once by an idle channel. -/
def Hw.dmaStartNow (h : Hw) (n : Fin 16) : Hw := ((h.startIgn n).taskArrive (dmaStartTask n) 1).dmaBegin n

/-- DMA_START (R405): by CTRL.START, or an arrival that waits at the start input is consumed. -/
def execDmaStart (n : Fin 16) (ctrl : Bool) (s : State) : Host.Outcome State Fault Refusal :=
  if ctrl then s.onWrite (fun h => h.dmaCtrl n (fun h => h.dmaStartNow n)) else s.on (fun h => h.when (h.domUp .keep) (fun h => h.dmaBegin n))

/-- DMA_ABORT (R416), by CTRL.ABORT; the abort task runs in EVENT_ARRIVAL. -/
def execDmaAbort (n : Fin 16) (s : State) : Host.Outcome State Fault Refusal :=
  s.onWrite (fun h => h.dmaCtrl n (fun h => h.dmaAbort n))

/-- DMA_PAUSE (R417). -/
def execDmaPause (n : Fin 16) (s : State) : Host.Outcome State Fault Refusal :=
  s.onWrite (fun h => h.dmaCtrl n (fun h => h.dmaPause n))

/-- DMA_RESUME (R417). -/
def execDmaResume (n : Fin 16) (s : State) : Host.Outcome State Fault Refusal :=
  s.onWrite (fun h => h.dmaCtrl n (fun h => h.dmaResume n))

/-! ## Rings (R411, R412) -/

/-- The level of a ring. -/
def DmaCh.level (c : DmaCh) : Nat := if c.dstRing then (c.eng - c.host).toNat else (c.host - c.eng).toNat

/-- A `flow` ring lacks the space or the data of a unit. -/
def DmaCh.ringShort (c : DmaCh) : Bool :=
  decide (c.ring = 1) && (if c.dstRing then decide (c.wcount < c.level + c.unit) else decide (c.level < c.unit))

/-- R412: MARK latches when the level rises to it, and re-arms below MARK - HYST once cleared. -/
def Hw.dmaMark (h : Hw) (n : Fin 16) : Hw :=
  let c := h.dma.ch[n]
  if c.ring ≠ 1 then h
  else
    let latched := (h.note.dmaEvt[n]).getLsbD 3
    let armed := c.markArmed || (!latched && decide (c.level + c.hystVal < c.markVal))
    if armed && decide (c.markVal ≤ c.level) then
      ((h.updDma n (fun c => { c with markArmed := false })).setDmaEvt n 3).deliver
        { stem := "dma.mark", args := [("ch", dmaName n), ("level", toString c.level)] }
    else h.updDma n (fun c => { c with markArmed := armed })

/-- A host write of RING_HOST; in `flow` one that leaves the level below 0 or above COUNT is ignored. -/
def Hw.dmaHostPut (h : Hw) (n : Fin 16) (v : Word) : Hw :=
  let c := h.dma.ch[n]
  let size := if c.busy then c.wcount else c.count
  let lev := if c.dstRing then (c.eng - v).toNat else (v - c.eng).toNat
  if c.ring = 1 ∧ size < lev then h.regRange (dmaOff n 0x24)
  else (h.updDma n (fun c => { c with host := v })).dmaMark n

/-- DMA_RING_HOST_WRITE (R411). -/
def execDmaRingHostWrite (n : Fin 16) (v : Word) (s : State) : Host.Outcome State Fault Refusal :=
  s.onWrite (fun h =>
    if !h.domUp .keep then h.isoRecord (dmaOff n 0x24) else if h.dmaReserved n then h else h.dmaHostPut n v)

/-! ## Bursts (R402 to R404, R407 to R410) -/

/-- The request source of a PACE is active (Table 19.2). -/
def Hw.paceActive (h : Hw) (p : Nat) : Bool :=
  if p = 0 then true
  else if hc : 1 ≤ p ∧ p ≤ 40 then !(h.cal.ch[(⟨p - 1, by omega⟩ : Fin 40)]).queue.isEmpty
  else if hc : 41 ≤ p ∧ p ≤ 72 then decide ((h.ibex.ch[(⟨p - 41, by omega⟩ : Fin 32)]).tx.length < 8)
  else if hc : 73 ≤ p ∧ p ≤ 104 then !(h.ibex.ch[(⟨p - 73, by omega⟩ : Fin 32)]).rx.isEmpty
  else if hc : 105 ≤ p ∧ p ≤ 112 then decide ((h.ibex.kid[(⟨p - 105, by omega⟩ : Fin 8)]).load.length < 4)
  else if hc : 113 ≤ p ∧ p ≤ 120 then !(h.ibex.kid[(⟨p - 113, by omega⟩ : Fin 8)]).cap.isEmpty
  else decide (p = 121) && !h.out.frame.isEmpty

/-- A channel can move (R407, R411); nothing moves while KEEP sleeps. -/
def Hw.dmaCan (h : Hw) (n : Fin 16) : Bool :=
  let c := h.dma.ch[n]
  h.domUp .keep && decide (h.pwr.st ≠ .graze) && decide (h.pwr.st ≠ .bed) && decide (c.st = .pending) && h.paceActive c.pace && !c.ringShort

/-- The half point (R415). -/
def DmaCh.halfPoint (c : DmaCh) : Nat := c.wcount / 2 / c.unit * c.unit

/-- The swap modes on one group of bytes (R404). -/
def swapBytes (m : Nat) : List Byte → List Byte
  | a :: b :: c :: d :: r =>
    (if m = 1 then [b, a, d, c] else if m = 2 then [d, c, b, a] else if m = 3 then [c, d, a, b] else [a, b, c, d]) ++
      swapBytes m r
  | [a, b] => if m = 1 then [b, a] else [a, b]
  | l => l

/-- What a side of a unit cannot do: 3 outside Table 19.1, 4 its block is isolated. -/
def Hw.sideErr (h : Hw) (a len win : Nat) (fix write : Bool) : Option Nat :=
  let n := if fix then min win len else len
  if isReg a then
    let o := sideOff a
    if !dmaAddrOk (a + n - 4) || !dmaAddrOk a then some 3 else if h.bar0Isolated o then some 4 else none
  else if storeSize < a + n ∨ (write ∧ a < journalEnd ∧ journalBase < a + n) then some 3
  else if !h.domUp .store then some 4 else none

/-- Read a unit's bytes from a side; `rd` reads a register. The flag says that Store gave an uncorrectable error. -/
def Hw.dmaTake (rd : Hw → Nat → Word × Hw) (h : Hw) (a len win : Nat) (fix : Bool) : List Byte × Bool × Hw :=
  if isReg a then
    (List.range (len / 4)).foldl (fun (x : List Byte × Bool × Hw) k =>
      let (w, h) := rd x.2.2 (sideOff a + (if fix then 4 * k % win else 4 * k))
      (x.1 ++ leBytes 4 w.toNat, x.2.1, h)) ([], false, h)
  else if fix then
    let (l, bad, h) := h.readStore a (min win len)
    ((List.range len).map (fun k => l.getD (k % win) 0), bad, h)
  else h.readStore a len

/-- Write a unit's bytes to a side; `wr` writes a register. -/
def Hw.dmaPut (wr : Hw → Nat → Word → Hw) (h : Hw) (a win : Nat) (fix : Bool) (l : List Byte) : Hw :=
  if isReg a then
    (List.range (l.length / 4)).foldl (fun (h : Hw) k =>
      wr h (sideOff a + (if fix then 4 * k % win else 4 * k)) (BitVec.ofNat 32 (leNat ((l.drop (4 * k)).take 4)))) h
  else if fix then
    (List.range ((l.length + win - 1) / win)).foldl (fun (h : Hw) k =>
      h.writeStore a ((l.drop (win * k)).take win)) h
  else h.writeStore a l

/-- A side's address for the unit at the pass's present place: an incrementing side advances with the stream, the ring's side
round its COUNT bytes. -/
def DmaCh.sideAt (c : DmaCh) (base : Nat) (fix onRing : Bool) : Nat :=
  if fix then base else if c.ring ≠ 0 ∧ onRing then base + c.done % c.wcount else base + c.done

/-- One unit has moved: the place, the ring index, half and full points, the last write issued. -/
def Hw.dmaMoved (h : Hw) (n : Fin 16) (len : Nat) : Hw :=
  let h := h.updDma n (fun c => { c with
    done := c.done + len, eng := (if c.ring = 0 then c.eng else c.eng + BitVec.ofNat 32 len) })
  let c := h.dma.ch[n]
  let pos := if c.ring = 0 then c.done else if c.done % c.wcount = 0 then c.wcount else c.done % c.wcount
  let h := (h.tcount 15 2 len).dmaMark n
  let h := if c.halfEn && decide (pos = c.halfPoint) then h.dmaPoint n 0 else h
  let h := if c.fullEn && decide (pos = c.wcount) then h.dmaPoint n 1 else h
  if c.ring = 0 ∧ c.done = c.wcount then h.updDma n (fun c => { c with issued := true }) else h

/-- The burst ends here (R408): half point, end, wrap. -/
def DmaCh.atPoint (c : DmaCh) : Bool :=
  decide (c.done % c.wcount = 0) || decide (c.done % c.wcount = c.halfPoint)

/-- The units of one burst: `fuel` more units, `moved` bytes so far. -/
def Hw.dmaUnits (rd : Hw → Nat → Word × Hw) (wr : Hw → Nat → Word → Hw) (h : Hw) (n : Fin 16) (moved : Nat) : Nat → Hw
  | 0 => h
  | fuel + 1 =>
    let c := h.dma.ch[n]
    let len := if c.ring ≠ 0 ∨ c.pace ≠ 0 then c.unit else min c.unit (c.wcount - c.done)
    if 256 < moved + len ∨ !h.paceActive c.pace ∨ c.ringShort ∨ (0 < moved ∧ c.atPoint) then h
    else
      let src := c.sideAt c.wsrc c.srcFix c.srcRing
      let dst := c.sideAt c.wdst c.dstFix c.dstRing
      match h.sideErr src len c.win c.srcFix false, h.sideErr dst len c.win c.dstFix true with
      | some e, _ => h.dmaEnd n e
      | none, some e => h.dmaEnd n e
      | none, none =>
        let (l, bad, h) := h.dmaTake rd src len c.win c.srcFix
        if bad then h.dmaEnd n 5
        else ((h.dmaPut wr dst c.win c.dstFix (swapBytes c.swap l)).dmaMoved n len).dmaUnits rd wr n (moved + len) fuel

/-- The channel the arbiter grants (R410): the highest priority, round-robin from the one after the last granted there. -/
def Hw.dmaGrant (h : Hw) : Option (Fin 16) :=
  let can := (List.finRange 16).filter (fun n => h.dmaCan n)
  let top := can.foldl (fun (m : Nat) n => max m (h.dma.ch[n]).prio.val) 0
  let at_ := can.filter (fun n => decide ((h.dma.ch[n]).prio.val = top))
  match h.dma.last[(Fin.ofNat 4 top)] with
  | none => at_.head?
  | some l => match at_.find? (fun n => decide (l < n)) with
    | some n => some n
    | none => at_.head?

/-- One burst of the channel granted: it is moving while its last write waits for the read-back, else pending again. -/
def Hw.dmaBurst (rd : Hw → Nat → Word × Hw) (wr : Hw → Nat → Word → Hw) (h : Hw) : Hw :=
  match h.dmaGrant with
  | none => h
  | some n =>
    let p := (h.dma.ch[n]).prio
    let h := { h with dma := { h.dma with last := h.dma.last.set p (some n) } }
    ((h.tcount 15 1).dmaUnits rd wr n 0 16).updDma n (fun c => if c.issued then { c with st := .moving } else c)

/-- DMA_PASS_END (R413): the read-back of the last word written, of a Store destination; then DONE, or ECC. -/
def execDmaPassEnd (n : Fin 16) (s : State) : Host.Outcome State Fault Refusal :=
  s.on (fun h =>
    let c := h.dma.ch[n]
    h.when (c.issued && decide (c.st = .moving)) (fun h =>
      if isReg c.wdst then h.dmaEnd n 0
      else
        let last := if c.dstFix then c.wdst + (c.wcount - 1) % c.win else c.wdst + c.wcount - 1
        let (_, bad, h) := h.readStore (last / 8 * 8) 8
        h.dmaEnd n (if bad then 5 else 0)))

/-! ## Descriptor registers -/

/-- R405: a descriptor takes no write while its channel is pending, moving or paused, or while starts wait. -/
def Hw.dmaLocked (h : Hw) (n : Fin 16) : Bool := (h.dma.ch[n]).busy || decide (h.evt.cnt[dmaStartTask n] ≠ 0)

/-- A write to a descriptor register. -/
def Hw.dmaWrite (h : Hw) (n : Fin 16) (f : DmaCh → DmaCh) : Hw :=
  if h.dmaReserved n then h
  else if h.dmaLocked n then h.say "dma.busy" [("ch", dmaName n)]
  else h.updDma n f

/-- A write of MARK or HYST; one that leaves HYST above MARK is discarded (R412). -/
def Hw.dmaMarkWrite (h : Hw) (n : Fin 16) (off : Nat) (f : DmaCh → DmaCh) : Hw :=
  let c := f h.dma.ch[n]
  if c.markVal < c.hystVal then h.regRange off else h.dmaWrite n f

/-- Put a field of `w` bits at bit `lo` of a word. -/
def setFld (x : Word) (lo w v : Nat) : Word := (x &&& ~~~(fld lo (2 ^ w - 1))) ||| fld lo (v % 2 ^ w)

/-- An address as a setting gives it: space, offset, window (0: incrementing). -/
def dmaSide (l : List Nat) : Nat × Bool × Nat :=
  (l.getD 0 0 * 9223372036854775808 + l.getD 1 0, decide (l.getD 2 0 ≠ 0), dmaSizes.idxOf (l.getD 2 4) % 6)

/-- A setting of Table 19.6 in the descriptor. -/
def DmaCh.take (c : DmaCh) (p : PathId) (v : SVal) : DmaCh :=
  match p, v with
  | .dmaChSrc, .nats l =>
    let (a, fix, w) := dmaSide l
    { c with src := a, cfg := if fix then setFld (setFld c.cfg 0 1 1) 2 3 w else setFld c.cfg 0 1 0 }
  | .dmaChDst, .nats l =>
    let (a, fix, w) := dmaSide l
    { c with dst := a, cfg := if fix then setFld (setFld c.cfg 1 1 1) 2 3 w else setFld c.cfg 1 1 0 }
  | .dmaChCount, .nat n => { c with count := n }
  | .dmaChUnit, .nat n => { c with cfg := setFld c.cfg 5 3 (dmaSizes.idxOf n % 6) }
  | .dmaChPace, .nat n => { c with cfg := setFld c.cfg 17 7 n }
  | .dmaChPrio, .nat n => { c with cfg := setFld c.cfg 10 2 n }
  | .dmaChSwap, .nat n => { c with cfg := setFld c.cfg 8 2 n }
  | .dmaChRing, .nat n => { c with cfg := setFld c.cfg 12 2 n }
  | .dmaChMark, .nat n => { c with mark := some n }
  | .dmaChHyst, .nat n => { c with hyst := some n }
  | .dmaChNotify, .nats l =>
    { c with cfg := setFld (setFld (setFld c.cfg 14 1 (b2n (l.contains 0))) 15 1 (b2n (l.contains 1))) 16 1 (b2n (l.contains 2)) }
  | .dmaChStatusAt, .nat n => { c with stat := n }
  | .dmaChHost, .nat n => { c with host := BitVec.ofNat 32 n }
  | _, _ => c

/-- The paths of a channel's descriptor. -/
def dmaPaths : List PathId :=
  [.dmaChSrc, .dmaChDst, .dmaChCount, .dmaChUnit, .dmaChPace, .dmaChPrio, .dmaChSwap, .dmaChRing, .dmaChMark, .dmaChHyst,
   .dmaChNotify, .dmaChStatusAt, .dmaChHost]

/-- DMA configured with the effective settings (R97, Table 5.4). -/
def Hw.dmaConfigure (h : Hw) : Hw :=
  (List.finRange 16).foldl (fun (h : Hw) (n : Fin 16) =>
    h.updDma n (fun c => dmaPaths.foldl (fun (c : DmaCh) p => c.take p (h.eff ⟨p, n.val, 0⟩)) c)) h

/-- The block reset of `dma`: every pass ends with RESET; descriptors, counters and masks of DMA take their reset values. -/
def Hw.dmaReset (h : Hw) : Hw :=
  let h := (List.finRange 16).foldl (fun (h : Hw) (n : Fin 16) => if (h.dma.ch[n]).busy then h.dmaEnd n 6 else h) h
  let tasks : List (Fin 96) := (List.finRange 16).map dmaStartTask ++ (List.finRange 16).map dmaAbortTask
  let h := tasks.foldl (fun (h : Hw) (t : Fin 96) =>
    { h with evt := { h.evt with cnt := h.evt.cnt.set t 0, src := h.evt.src.set t [] } }) h
  ({ h with dma := {}, note := { h.note with dmaEvt := Vector.replicate 16 0 } }).regsFresh (fun o => inRegs 0xE00000 0x80000 o)

/-! ## The event matrix (R418 to R420) -/

/-- The pulses that one cycle delivers: the longest prefix of the first `k` that wait with no source twice. -/
def cyclePulses : Nat → List Nat → List Nat → List Nat
  | 0, _, acc => acc
  | _ + 1, [], acc => acc
  | k + 1, e :: r, acc => if acc.contains e then acc else cyclePulses k r (acc ++ [e])

/-- What one run of an arm task does. -/
def Hw.armTask (h : Hw) (t : Fin 96) : Hw :=
  if hc : 16 ≤ t.val ∧ t.val < 56 then (if h.domUp .ref then h.gateTask ⟨t.val - 16, by omega⟩ else h)
  else if hc : 64 ≤ t.val ∧ t.val < 72 then h.sealSample ⟨t.val - 64, by omega⟩
  else if 72 ≤ t.val ∧ t.val < 80 then
    { h with pwr := { h.pwr with stepReq := h.pwr.stepReq ||| (1#8 <<< (t.val - 72)) } }
  else if hc : 80 ≤ t.val then h.dmaAbort ⟨t.val - 80, by omega⟩
  else h

/-- The arrivals of one cycle at one input: counted, and an arm task runs once. A start that comes in the cycle of an abort
is consumed first. -/
def Hw.routeTask (h : Hw) (cyc : List Nat) (t : Fin 96) : Hw :=
  let a := (h.evt.src[t].filter (fun e => cyc.contains e)).length
  if a = 0 then h
  else
    let h : Hw := if hs : t.val < 16 then h.startIgn ⟨t.val, hs⟩ else h
    let h := h.taskArrive t a
    let h : Hw :=
      if hc : 80 ≤ t.val then
        let n : Fin 16 := ⟨t.val - 80, by omega⟩
        if h.evt.src[dmaStartTask n].any (fun e => cyc.contains e) then h.dmaBegin n else h
      else h
    h.armTask t

/-- EVENT_ARRIVAL (R418, R420): the matrix registers in one dma cycle the oldest `k` pulses that wait. -/
def execEventArrival (k : Nat) (s : State) : Host.Outcome State Fault Refusal :=
  s.on (fun h =>
    let cyc := cyclePulses k h.evt.raised []
    let h := { h with evt := { h.evt with raised := h.evt.raised.drop cyc.length } }
    h.when (h.domUp .keep && decide (h.pwr.st ≠ .graze)) (fun h =>
      (List.finRange 96).foldl (fun (h : Hw) (t : Fin 96) => h.routeTask cyc t) h))

/-- The soft sources a word raises. -/
def Hw.evtSoft (h : Hw) (v : Word) : Hw :=
  (List.range 10).foldl (fun (h : Hw) k => if v.getLsbD k then h.raiseEvent (118 + k) else h) h

/-- EVT_SOFT_WRITE (R418). -/
def execEvtSoftWrite (v : Word) (s : State) : Host.Outcome State Fault Refusal :=
  s.onWrite (fun h => if !h.domUp .keep then h.isoRecord 0xE80000 else h.evtSoft v)

/-- A counting task: a DMA start or an Ibex wake (Table 19.5). -/
def countingTask (t : Fin 96) : Bool := decide (t.val < 16 ∨ (56 ≤ t.val ∧ t.val < 64))

/-- CLEAR of a task's counter: no effect on a counting task (Table 19.8). -/
def Hw.taskClear (h : Hw) (t : Fin 96) : Hw :=
  if countingTask t then h else { h with evt := { h.evt with cnt := h.evt.cnt.set t 0 } }

/-- EVT_TASK_CLEAR (R420). -/
def execEvtTaskClear (t : Fin 96) (s : State) : Host.Outcome State Fault Refusal :=
  s.onWrite (fun h => if !h.domUp .keep then h.isoRecord (0xE81010 + 0x20 * t.val) else h.taskClear t)

/-- W1C of a task's OVF; EVT_STATUS[7] falls with the last one. -/
def Hw.ovfClear (h : Hw) (t : Fin 96) : Hw :=
  let h := { h with evt := { h.evt with ovf := h.evt.ovf.set t false } }
  if h.evt.ovf.toList.any (fun b => b) then h.reEval 22 else h.w1cEvt 22 (fld 7 1)

/-- A route from an Ibex event source to an Ibex wake input (R419). -/
def badRoute (t : Fin 96) (l : List Nat) : Bool :=
  decide (56 ≤ t.val ∧ t.val < 64) && l.any (fun e => decide (88 ≤ e ∧ e < 100))

/-- Set a task's source mask. -/
def Hw.setRoute (h : Hw) (t : Fin 96) (l : List Nat) : Hw := { h with evt := { h.evt with src := h.evt.src.set t l } }

/-- A register write of one mask word; a route R397 forbids is discarded. -/
def Hw.routeWrite (h : Hw) (t : Fin 96) (w : Nat) (v : Word) : Hw :=
  let l := (h.evt.src[t]).filter (fun e => decide (e / 32 ≠ w)) ++ ((List.range 32).filter (fun j => v.getLsbD j)).map (· + 32 * w)
  if badRoute t l then h.regRange (0xE81000 + 0x20 * t.val + 4 * w) else h.setRoute t l

/-- The event matrix configured with the effective settings. -/
def Hw.evtConfigure (h : Hw) : Hw :=
  (List.finRange 96).foldl (fun (h : Hw) (t : Fin 96) => h.setRoute t (h.effL .evtTaskTSrc t.val)) h

end Sys2Proof.Machine
end

