-- ==== Sys2Proof/Machine/Operands.lean ====
section
/-!
DEFINITION. The operand forms of Mywi and of settings records: the value forms of Tables 7.2 and 7.3, the tests of R138
with their codes, and the forms and ranges of each path (the Range column of the path tables).
-/
set_option autoImplicit false

namespace Sys2Proof.Machine

/-- A code of Table 23.5, or a value. -/
abbrev Parse (α : Type) := Except Nat α

/-- An integer as a setting's value: natural numbers where it is not negative. -/
def sval (z : Int) : SVal := if z < 0 then .int z else .nat z.toNat

/-- The integer form of Table 7.2. -/
def parseInt? (l : List Char) : Option Int :=
  match l with
  | '-' :: r => (decNat? r).map (fun n => -(n : Int))
  | '+' :: r => (decNat? r).map (fun n => (n : Int))
  | _ => (decNat? l).map (fun n => (n : Int))

/-- Hexadecimal digits with `_` between digits. -/
def hexRun? (prev : Bool) (acc : Nat) : List Char → Option Nat
  | [] => if prev then some acc else none
  | '_' :: r => if prev ∧ r ≠ [] then hexRun? false acc r else none
  | c :: r => match hexVal? c with
    | some d => hexRun? true (acc * 16 + d) r
    | none => none

/-- The integer and hexadecimal forms. -/
def number? (l : List Char) : Option Int :=
  match l with
  | '0' :: 'x' :: r => (hexRun? false 0 r).map (fun n => (n : Int))
  | _ => parseInt? l

/-- A natural number in either form. -/
def natural? (l : List Char) : Option Nat :=
  match number? l with
  | some z => if z < 0 then none else some z.toNat
  | none => none

/-- Micro-hertz in a unit of frequency (Table 7.3). -/
def freqUnit (u : List Char) : Option Nat :=
  if u = ['m', 'H', 'z'] then some 1000 else if u = ['H', 'z'] then some 1000000
  else if u = ['k', 'H', 'z'] then some 1000000000 else if u = ['M', 'H', 'z'] then some 1000000000000
  else if u = ['G', 'H', 'z'] then some 1000000000000000 else none

/-- 10^-18 in the unit of fractional frequency. -/
def ratioUnit (u : List Char) : Option Nat := if u = ['p', 'p', 'b'] then some 1000000000 else none

/-- A quantity of one dimension in its finest units: E102 for another form, E305 for the unit, E306 below the finest
resolution (R138). -/
def quantity (dim : List Char → Option Nat) (l : List Char) : Parse Int :=
  let (neg, r) : Bool × List Char := match l with
    | '-' :: r => (true, r)
    | '+' :: r => (false, r)
    | _ => (false, l)
  match decFrac? r with
  | none => .error 102
  | some (n, d, u) =>
    if !u.all Char.isAlpha then .error 102
    else match dim u with
      | none => .error 305
      | some m =>
        if n * m % 10 ^ d ≠ 0 then .error 306
        else .ok (if neg then -((n * m / 10 ^ d : Nat) : Int) else (n * m / 10 ^ d : Nat))

/-- R138 on a number: the resolution, then the range. -/
def inRange (lo hi step z : Int) : Parse Int := if z % step ≠ 0 then .error 306 else if z < lo ∨ hi < z then .error 301 else .ok z

/-- A word: lowercase letters, digits, `_` and `-`. -/
def isWord (l : List Char) : Bool :=
  (match l with | c :: _ => c.isLower || c.isDigit | [] => false) &&
  l.all (fun c => c.isLower || c.isDigit || decide (c = '_' ∨ c = '-' ∨ c = '.'))

/-- The position of a token in a value list: E302 for a word outside it. -/
def enumOf (names : List String) (l : List Char) : Parse Nat :=
  match names.findIdx? (fun n => decide (n.toList = l)) with
  | some i => .ok i
  | none => if isWord l then .error 302 else .error 102

/-- Insert a number in a rising list with no repeats. -/
def insNat (a : Nat) : List Nat → List Nat
  | [] => [a]
  | b :: r => if a < b then a :: b :: r else if a = b then b :: r else b :: insNat a r

/-- A list in rising order with no repeats. -/
def sortNats (l : List Nat) : List Nat := l.foldl (fun a x => insNat x a) []

/-- One item of a list form: a number, or a range `a-b` (E302 when it descends). -/
def listItem (lo hi : Nat) (l : List Char) : Parse (List Nat) :=
  match splitAt '-' l with
  | [a] => match decNat? a with
    | some n => if n < lo ∨ hi < n then .error 301 else .ok [n]
    | none => .error 102
  | [a, b] => match decNat? a, decNat? b with
    | some x, some y =>
      if y < x then .error 302
      else if x < lo ∨ hi < y then .error 301 else .ok ((List.range (y + 1 - x)).map (· + x))
    | _, _ => .error 102
  | _ => .error 102

/-- Collect results, stopping at the first code. -/
def gather {α : Type} : List (Parse α) → Parse (List α)
  | [] => .ok []
  | .error e :: _ => .error e
  | .ok a :: r => match gather r with
    | .ok l => .ok (a :: l)
    | .error e => .error e

/-- The list form of Table 7.2 over numbers; `none` is the empty list as shown (R139, R472). -/
def natList (lo hi : Nat) (l : List Char) : Parse (List Nat) :=
  if l = ['n', 'o', 'n', 'e'] then .ok []
  else match gather ((splitAt ',' l).map (listItem lo hi)) with
    | .ok ls => .ok (sortNats ls.flatten)
    | .error e => .error e

/-- A list of names of a value list, as positions. -/
def nameList (names : List String) (l : List Char) : Parse (List Nat) :=
  if l = ['n', 'o', 'n', 'e'] then .ok []
  else match gather ((splitAt ',' l).map (enumOf names)) with
    | .ok ls => .ok (sortNats ls)
    | .error e => .error e

/-- Axis time: TAI seconds of 48 bits and nine digits of nanoseconds, as nanoseconds. -/
def axisNs (l : List Char) : Parse Nat :=
  match splitAt '.' l with
  | [a, b] => match decNat? a, decNat? b with
    | some s, some n => if b.length ≠ 9 then .error 102 else if 281474976710656 ≤ s then .error 301 else .ok (s * 1000000000 + n)
    | _, _ => .error 102
  | _ => .error 102

/-- Hex groups of 8 digits joined by `-`, as a number, with their count. -/
def hexGroups? (l : List Char) : Option (Nat × Nat) :=
  let gs := splitAt '-' l
  if gs.all (fun g => decide (g.length = 8) && g.all (fun c => (hexVal? c).isSome)) then
    some ((gs.flatten).foldl (fun a c => a * 16 + (hexVal? c).getD 0) 0, gs.length)
  else none

/-- A date as its day number: E102 for another form, E302 for no calendar day. -/
def dateDay (l : List Char) : Parse Nat :=
  match splitAt '-' l with
  | [y, m, d] =>
    if y.length = 4 ∧ m.length = 2 ∧ d.length = 2 then
      match decNat? y, decNat? m, decNat? d with
      | some y, some m, some d => if validDate y m d then .ok (dayNumber y m d) else .error 302
      | _, _, _ => .error 102
    else .error 102
  | _ => .error 102

/-! ## Addresses -/

/-- An IPv4 address in dotted decimal. -/
def ip4? (l : List Char) : Option Nat :=
  match (splitAt '.' l).map decNat? with
  | [some a, some b, some c, some d] =>
    if a < 256 ∧ b < 256 ∧ c < 256 ∧ d < 256 then some (((a * 256 + b) * 256 + c) * 256 + d) else none
  | _ => none

/-- Groups of an IPv6 address. -/
def ip6Groups? (l : List Char) : Option (List Nat) :=
  if l.isEmpty then some []
  else
    let gs := splitAt ':' l
    if gs.all (fun g => decide (1 ≤ g.length ∧ g.length ≤ 4) && g.all (fun c => (hexVal? c).isSome)) then
      some (gs.map (fun g => g.foldl (fun a c => a * 16 + (hexVal? c).getD 0) 0))
    else none

/-- Split at the first `::`. -/
def splitDouble : List Char → Option (List Char × List Char)
  | ':' :: ':' :: r => some ([], r)
  | c :: r => (splitDouble r).map (fun p => (c :: p.1, p.2))
  | [] => none

/-- An IPv6 address in the usual text form (RFC 4291; PRESUMED, notes/assumptions/60.md). -/
def ip6? (l : List Char) : Option Nat :=
  let num := fun (gs : List Nat) => gs.foldl (fun a g => a * 65536 + g) 0
  match splitDouble l with
  | some (a, b) => match ip6Groups? a, ip6Groups? b with
    | some x, some y =>
      if x.length + y.length ≤ 7 then some (num (x ++ List.replicate (8 - x.length - y.length) 0 ++ y)) else none
    | _, _ => none
  | none => match ip6Groups? l with
    | some x => if x.length = 8 then some (num x) else none
    | none => none

/-- An address of either family: 0 IPv4, 1 IPv6. -/
def addr? (l : List Char) : Option (Nat × Nat) :=
  match ip4? l with
  | some a => some (0, a)
  | none => (ip6? l).map (fun a => (1, a))

/-- An address with prefix length: family, address, length. -/
def prefixOf (l : List Char) : Parse (Nat × Nat × Nat) :=
  match splitAt '/' l with
  | [a, n] => match addr? a, decNat? n with
    | some (f, x), some k => if k ≤ (if f = 0 then 32 else 128) then .ok (f, x, k) else .error 301
    | _, _ => .error 102
  | _ => .error 102

/-- A list of up to eight addresses with prefix of one family (E303 beyond the limit of R251). -/
def prefixList (fam : Nat) (l : List Char) : Parse SVal :=
  if l = ['n', 'o', 'n', 'e'] then .ok (.nats [])
  else match gather ((splitAt ',' l).map prefixOf) with
    | .ok ps =>
      if ps.any (fun p => decide (p.1 ≠ fam)) then .error 302
      else if 8 < ps.length then .error 303
      else .ok (.nats (ps.flatMap (fun p => [p.2.1, p.2.2])))
    | .error e => .error e

/-! ## Quoted texts of one form each -/

/-- Split `l` at the last `c`. -/
def splitLast (c : Char) (l : List Char) : Option (List Char × List Char) :=
  let r := l.reverse
  let b := r.takeWhile (· ≠ c)
  if b.length < r.length then some ((r.drop (b.length + 1)).reverse, b.reverse) else none

/-- `<key>=` before the rest. -/
def keyed? (k : String) (l : List Char) : Option (List Char) := dropPre? (k ++ "=") l

/-- A natural number of at most `hi` (E102 for another form, E301 beyond). -/
def upTo (hi : Nat) (l : List Char) : Parse Nat :=
  match natural? l with
  | some n => if hi < n then .error 301 else .ok n
  | none => .error 102

/-- The same after a key; another key is E102. -/
def keyNat (k : String) (hi : Nat) (l : List Char) : Parse Nat :=
  match keyed? k l with
  | some r => upTo hi r
  | none => .error 102

/-- Entries of `utc.leap` (R514), as pairs of day and direction (1 insertion). -/
def leapEntry (l : List Char) : Parse (List Nat) :=
  match splitAt ' ' l with
  | [d, s] =>
    match dateDay d with
    | .error e => .error e
    | .ok day =>
      if !lastOfMonth day then .error 302
      else if s = ['+', '1'] then .ok [day, 1] else if s = ['-', '1'] then .ok [day, 0] else .error 302
  | [d] => match dateDay d with
    | .ok _ => .error 302
    | .error e => .error e
  | _ => .error 102

/-- `prong.rule.N`: prefix, length and class as family, address, length and class. -/
def ruleText (l : List Char) : Parse SVal :=
  match splitLast ':' l with
  | some (p, c) => match prefixOf p, upTo 63 c with
    | .ok (f, a, n), .ok k => .ok (.nats [f, a, n, k])
    | .error e, _ => .error e
    | _, .error e => .error e
  | none => .error 102

/-- `prong.client`: address, class and static as numbers. -/
def clientText (l : List Char) : Parse SVal :=
  match splitAt ',' l with
  | a :: r =>
    match addr? a with
    | none => .error 102
    | some (f, x) =>
      match r with
      | [] => .ok (.nats [f, x, 0, 0])
      | [c] => match keyed? "class" c with
        | some n => (upTo 63 n).map (fun k => .nats [f, x, k, 0])
        | none => (keyNat "static" 1 c).map (fun k => .nats [f, x, 0, k])
      | [c, s] => match keyNat "class" 63 c, keyNat "static" 1 s with
        | .ok k, .ok t => .ok (.nats [f, x, k, t])
        | .error e, _ => .error e
        | _, .error e => .error e
      | _ => .error 102
  | [] => .error 102

/-- `lat.lN.via`: direct, or `pX_lK_vV`. -/
def viaText (l : List Char) : Parse SVal :=
  if l = "direct".toList then .ok (.nats [])
  else match splitAt '_' l with
    | ['p' :: a, 'l' :: b, 'v' :: c] => match decNat? a, decNat? b, decNat? c with
      | some x, some y, some z => if 3 < x ∨ 3 < y ∨ z < 1 ∨ 4094 < z then .error 301 else .ok (.nats [x, y, z])
      | _, _, _ => .error 102
    | _ => .error 102

/-- One entry of `deck.dkN.slots`: MID as hex groups and length. -/
def slotEntry (l : List Char) : Parse (List Nat) :=
  match splitAt ':' l with
  | [m, t] => match hexGroups? m, quantity timeUnitPs t with
    | some (x, 2), .ok ps => match inRange 10000000 8000000000 10000000 ps with
      | .ok v => .ok [x, (v / 10000000).toNat]
      | .error e => .error e
    | _, .error e => .error e
    | _, _ => .error 102
  | _ => .error 102

/-- Two numbers joined by `+`. -/
def plusPair (hi : Nat) (l : List Char) : Parse (List Nat) :=
  match splitAt '+' l with
  | [a, b] => match upTo 47 a, upTo hi b with
    | .ok x, .ok y => .ok [x, y]
    | .error e, _ => .error e
    | _, .error e => .error e
  | _ => .error 102

/-- A word that must be one of two, after a key: 0 or 1. -/
def keyWord (k a b : String) (l : List Char) : Parse Nat :=
  match keyed? k l with
  | some r => if r = a.toList then .ok 0 else if r = b.toList then .ok 1 else .error 102
  | none => .error 102

/-- A number of at least 1 after a key. -/
def keyPos (k : String) (hi : Nat) (l : List Char) : Parse Nat :=
  match keyNat k hi l with
  | .ok 0 => .error 301
  | r => r

/-- The numbers of several parses, in order. -/
def numbers (l : List (Parse Nat)) : Parse SVal := (gather l).map .nats

/-- `ibex.chN.prog`, `.pins` and `.shift`, and `ibex.kidK.clock` (Table 18.7). -/
def ibexText (k : TextKind) (l : List Char) : Parse SVal :=
  match k, splitAt ',' l with
  | .prog, [a, b, c, d] => numbers [keyNat "start" 511 a, keyNat "bot" 511 b, keyNat "top" 511 c, keyNat "side" 5 d]
  | .pins, [a, b, c, d, e] =>
    match (keyed? "sout" a).map (plusPair 48), (keyed? "load" c).map (plusPair 7) with
    | some (.ok so), some (.ok lo) =>
      match numbers [keyNat "sin" 47 b, keyNat "side" 47 d, keyNat "br" 47 e] with
      | .ok (.nats [x, y, z]) => .ok (.nats (so ++ [x] ++ lo ++ [y, z]))
      | .error e => .error e
      | _ => .error 102
    | some (.error e), _ => .error e
    | _, some (.error e) => .error e
    | _, _ => .error 102
  | .shift, [a, b, c, d, e, f] =>
    numbers [keyWord "sin" "left" "right" a, keyWord "sout" "left" "right" b, keyPos "post" 32 c, keyPos "fetch" 32 d,
      keyWord "autopost" "off" "on" e, keyWord "autofetch" "off" "on" f]
  | .clock, [x, a, b] =>
    if x = "axis".toList then numbers [.ok 0, keyPos "div" 16777216 a, keyNat "phase" 16777215 b] else .error 102
  | .clock, [a, b] => numbers [.ok 1, keyNat "pin" 47 a, keyWord "edge" "rising" "falling" b]
  | _, _ => .error 102

/-- `ibex.store`: an address and up to 64 words of 24 bits. -/
def storeText (l : List Char) : Parse SVal :=
  match splitAt ':' l with
  | [a, ws] => match upTo 511 a, gather ((splitAt ',' ws).map (upTo 16777215)) with
    | .ok x, .ok l => if 64 < l.length ∨ 512 < x + l.length then .error 301 else .ok (.nats (x :: l))
    | .error e, _ => .error e
    | _, .error e => .error e
  | _ => .error 102

/-- `dma.chN.src` and `.dst`: space (0 Store, 1 BAR0), offset, window (0 for `inc`). -/
def dmaText (l : List Char) : Parse SVal :=
  match splitAt ',' l with
  | [a, m] =>
    let side : Option (Nat × List Char) := match dropPre? "store:" a with
      | some r => some (0, r)
      | none => (dropPre? "bar0:" a).map (fun r => (1, r))
    let win : Parse Nat :=
      if m = "inc".toList then .ok 0
      else match keyed? "fix" m with
        | some w => match upTo 64 w with
          | .ok n => if [4, 8, 16, 24, 32, 64].contains n then .ok n else .error 302
          | .error e => .error e
        | none => .error 102
    match side with
    | none => .error 102
    | some (s, r) => match upTo (if s = 0 then 8589934591 else 67108863) r, win with
      | .ok o, .ok w => .ok (.nats [s, o, w])
      | .error e, _ => .error e
      | _, .error e => .error e
  | _ => .error 102

/-- `pwr.graze.step.K`: period, offset, dwell and the action bits of CFG1, or nothing for `off`. -/
def gstepText (l : List Char) : Parse SVal :=
  if l = ['o', 'f', 'f'] then .ok (.nats [])
  else match splitAt ',' l with
    | [a, b, c, d] => match keyed? "do" d with
      | none => .error 102
      | some acts => match gather ((splitAt '+' acts).map (enumOf ["temp", "predict", "refobs", "cmp", "keepcal"])) with
        | .error e => .error e
        | .ok ls =>
          let bits := (sortNats ls).foldl (fun a i => a + 2 ^ (i + 1)) 0
          numbers [keyNat "every" 65535 a, keyNat "at" 65535 b, keyPos "dwell" 65535 c, .ok bits]
    | _ => .error 102

/-- The rails of Table 4.2 in the bit order of GLOBAL_SUPPLY.PG, lowercase. -/
def railNames : List String :=
  ["vdd_core", "vdd_sram", "vdd_sds", "vddh_sds", "vdd_store", "vddio_18", "vddio_33", "vdd_ana"]

/-- `<addr>[/<page>]` of a PMBus regulator. -/
def pmbPage (l : List Char) : Parse (Nat × Nat) :=
  match splitAt '/' l with
  | [a] => (upTo 127 a).map (fun x => (x, 0))
  | [a, p] => match upTo 127 a, upTo 31 p with
    | .ok x, .ok y => .ok (x, y)
    | .error e, _ => .error e
    | _, .error e => .error e
  | _ => .error 102

/-- One entry of `pmb.map`: rail, address and page. -/
def pmbEntry (l : List Char) : Parse (Nat × Nat × Nat) :=
  match splitAt '@' l with
  | [r, a] => match enumOf railNames r, pmbPage a with
    | .ok k, .ok (x, y) => .ok (k, x, y)
    | .error e, _ => .error e
    | _, .error e => .error e
  | _ => .error 102

/-- The entries of a `pmb.map` text. -/
def pmbMap (s : String) : Parse (List (Nat × Nat × Nat)) :=
  if s = "" then .ok [] else gather ((splitAt ',' s.toList).map pmbEntry)

/-- The parts of an account record: name, role code and the wrapped key (R150). -/
def accountParts (s : String) : Option (String × Nat × String) :=
  match splitAt ',' s.toList with
  | [n, r, w] =>
    let role := (["", "observer", "operator", "custodian"].findIdx? (fun x => decide (x.toList = r))).getD 0
    if role = 0 then none else some (String.ofList n, role, String.ofList w)
  | _ => none

/-- An account name (chapter 7, Login). -/
def nameOk (n : List Char) : Bool :=
  decide (1 ≤ n.length ∧ n.length ≤ 16) && n.all (fun c => c.isLower || c.isDigit || decide (c = '_')) &&
  !(["local", "reply", "end", "account"] : List String).any (fun x => decide (x.toList = n))

/-- An account record: E102 for another form, E302 when it does not unwrap here (R154). -/
def accountText (s : String) : Parse SVal :=
  match accountParts s with
  | none => .error 102
  | some (n, _, w) =>
    if !nameOk n.toList then .error 302
    else match hexGroups? w.toList with
      | some (x, 10) => if (Config.unwrapKey x).isSome then .ok (.str s) else .error 302
      | _ => .error 102

/-- The texts with a form of their own. -/
def parseText (k : TextKind) (l : List Char) : Parse SVal :=
  match k with
  | .leap => (gather ((splitAt ',' l).map leapEntry)).map (fun ls => .nats ls.flatten)
  | .banks => match natList 0 15 l with
    | .ok ls => if ls.contains 6 && ls.contains 7 then .ok (.nats ls) else .error 302
    | .error e => .error e
  | .pmbMap => match pmbMap (String.ofList l) with
    | .ok _ => .ok (.str (String.ofList l))
    | .error e => .error e
  | .account => accountText (String.ofList l)
  | .mgmtAddr =>
    if l = "dhcp".toList then .ok (.str "dhcp") else (prefixOf l).map (fun _ => .str (String.ofList l))
  | .gateway =>
    if l = "none".toList then .ok (.str "none")
    else if (addr? l).isSome then .ok (.str (String.ofList l)) else .error 102
  | .refMap => match mapTable? (String.ofList l) with
    | some _ => .ok (.str (String.ofList l))
    | none => .error 102
  | .pmbPage => (pmbPage l).map (fun p => .nats [p.1, p.2])
  | .period =>
    if l = "1pps".toList then .ok (.nats [0, 1000000000000])
    else if l = "pp2s".toList then .ok (.nats [1, 2000000000000])
    else if l = "10pps".toList then .ok (.nats [2, 100000000000])
    else match quantity timeUnitPs l with
      | .ok z => (inRange 1000000000 60000000000000 1000 z).map (fun z => .nats [3, z.toNat])
      | .error e => .error e
  | .ipv4List => prefixList 0 l
  | .ipv6List => prefixList 1 l
  | .rule => ruleText l
  | .client => clientText l
  | .keytab => match splitAt ',' l with
    | [a, b] => match upTo 8589934591 a, upTo 1048576 b with
      | .ok o, .ok n => if o < 0x180000000 ∨ 8589934592 < o + 32 * n then .error 301 else .ok (.nats [o, n])
      | .error e, _ => .error e
      | _, .error e => .error e
    | _ => .error 102
  | .via => viaText l
  | .slots => match gather ((splitAt ';' l).map slotEntry) with
    | .ok ls => if 32 < ls.length then .error 301 else .ok (.nats ls.flatten)
    | .error e => .error e
  | .ibexStore => storeText l
  | .prog => ibexText .prog l
  | .pins => ibexText .pins l
  | .shift => ibexText .shift l
  | .clock => ibexText .clock l
  | .dmaAddr => dmaText l
  | .evtSrc => (nameList eventNames l).map .nats
  | .gstep => gstepText l
  | .tallyRing => match splitAt ',' l with
    | [a, b] => numbers [upTo 8589934591 a, upTo 65536 b]
    | _ => .error 102
  | .irqList => (natList 0 3 l).map .nats
  | .msix => if l = "off".toList then .ok (.nats []) else (upTo 62 l).map (fun v => .nats [v])

/-- The value a token stands for on a path of the given form, or the code that refuses it (R138). -/
def parseValue (vt : VType) (s : String) : Parse SVal :=
  let l := s.toList
  match vt with
  | .none => .error 102
  | .bool => (enumOf ["off", "on"] l).map .nat
  | .enum names => (enumOf names l).map .nat
  | .enumList names => (nameList names l).map .nats
  | .time lo hi step _ => match quantity timeUnitPs l with
    | .ok z => (inRange lo hi step z).map sval
    | .error e => .error e
  | .freq lo hi step _ => match quantity freqUnit l with
    | .ok z => (inRange lo hi step z).map sval
    | .error e => .error e
  | .bw => match quantity freqUnit l with
    | .ok z => if bwTable.any (fun b => decide ((b : Int) = z)) then .ok (sval z) else .error 302
    | .error e => .error e
  | .ratio lo hi => match quantity ratioUnit l with
    | .ok z => (inRange lo hi 1 z).map sval
    | .error e => .error e
  | .int lo hi => match number? l with
    | some z => (inRange lo hi 1 z).map sval
    | none => .error 102
  | .intSet ls => match number? l with
    | some z => if ls.any (fun n => decide ((n : Int) = z)) then .ok (sval z) else .error 302
    | none => .error 102
  | .intSetList ls => match natList 0 (ls.foldl max 0) l with
    | .ok v => if v.all ls.contains then .ok (.nats v) else .error 302
    | .error e => .error e
  | .hex bits => (upTo (2 ^ bits - 1) l).map .nat
  | .hexInt lo hi => match number? l with
    | some z => (inRange lo hi 1 z).map sval
    | none => .error 102
  | .hexMul step hi => match number? l with
    | some z => (inRange 0 hi step z).map sval
    | none => .error 102
  | .natList lo hi most => match natList lo hi l with
    | .ok v => if most < v.length then .error 303 else .ok (.nats v)
    | .error e => .error e
  | .eid => if l = "auto".toList then .ok (.nat 4095) else (upTo 4094 l).map .nat
  | .axisTime => (axisNs l).map .nat
  | .text k => parseText k l

/-- The TYPE of Table 6.6 a path's record carries (R483, Table 23.4). -/
def recType : VType → Nat
  | .bool => 1
  | .enum _ => 7
  | .time _ _ _ _ => 4
  | .freq _ _ _ _ => 5
  | .bw => 5
  | .ratio _ _ => 6
  | .int lo _ => if lo < 0 then 3 else 2
  | .intSet _ => 2
  | .hex _ => 2
  | .hexInt _ _ => 2
  | .hexMul _ _ => 2
  | .eid => 2
  | .none => 0
  | .enumList _ => 8
  | .intSetList _ => 8
  | .natList _ _ _ => 8
  | .axisTime => 8
  | .text _ => 8

/-- The value a number of a SETTINGS record stands for on a path, or the code that refuses it (R103, R138). -/
def numberValue (vt : VType) (z : Int) : Parse SVal :=
  match vt with
  | .bool => if z = 0 ∨ z = 1 then .ok (sval z) else .error 301
  | .enum names => if 0 ≤ z ∧ z < names.length then .ok (sval z) else .error 301
  | .time lo hi step _ => (inRange lo hi step z).map sval
  | .freq lo hi step _ => (inRange lo hi step z).map sval
  | .bw => if bwTable.any (fun b => decide ((b : Int) = z)) then .ok (sval z) else .error 302
  | .ratio lo hi => (inRange lo hi 1 z).map sval
  | .int lo hi => (inRange lo hi 1 z).map sval
  | .intSet ls => if ls.any (fun n => decide ((n : Int) = z)) then .ok (sval z) else .error 302
  | .hex bits => (inRange 0 (2 ^ bits - 1) 1 z).map sval
  | .hexInt lo hi => (inRange lo hi 1 z).map sval
  | .hexMul step hi => (inRange 0 hi step z).map sval
  | .eid => (inRange 0 4095 1 z).map sval
  | _ => .error 301

/-! ## Values as shown (R472) -/

/-- The number of decimal digits of a unit of frequency in uHz, and its name. -/
def freqShow : Nat → Nat × String
  | 0 => (3, "mHz") | 1 => (6, "Hz") | 2 => (9, "kHz") | _ => (12, "MHz")

/-- Hexadecimal with the fewest digits. -/
def hexMin (n : Nat) : String := "0x" ++ hexPad (if n = 0 then 1 else Nat.log2 n / 4 + 1) n

/-- Dotted decimal. -/
def showIp4 (a : Nat) : String :=
  toString (a / 16777216 % 256) ++ "." ++ toString (a / 65536 % 256) ++ "." ++ toString (a / 256 % 256) ++ "." ++ toString (a % 256)

/-- An IPv6 address as eight groups. -/
def showIp6 (a : Nat) : String :=
  String.intercalate ":" ((List.range 8).map (fun i => let g := a / 65536 ^ (7 - i) % 65536; hexPad (if g = 0 then 1 else Nat.log2 g / 4 + 1) g))

/-- An address of a family. -/
def showAddr (f a : Nat) : String := if f = 0 then showIp4 a else showIp6 a

/-- Hex groups of a number of `k` 32-bit words. -/
def showGroups (k n : Nat) : String :=
  String.intercalate "-" ((List.range k).map (fun i => hexPad 8 (n / 2 ^ (32 * (k - 1 - i)))))

/-- Pairs of a flat list. -/
def pairsOf : List Nat → List (Nat × Nat)
  | a :: b :: r => (a, b) :: pairsOf r
  | _ => []

/-- A date. -/
def showDate (day : Nat) : String := let c := civil day; decPad 4 c.1 ++ "-" ++ decPad 2 c.2.1 ++ "-" ++ decPad 2 c.2.2

/-- A quoted string with its escapes. -/
def quoted (s : String) : String :=
  "\"" ++ String.ofList (s.toList.flatMap (fun c => if c = '"' ∨ c = '\\' then ['\\', c] else [c])) ++ "\""

/-- The texts with a form of their own, as shown. -/
def showText (k : TextKind) (v : SVal) : String :=
  match v with
  | .none => "none"
  | .str s => if s.toList.any (fun c => decide (c = ' ' ∨ c = ';' ∨ c = '"')) then quoted s else if s = "" then "none" else s
  | .nat n => toString n
  | .int z => toString z
  | .nats l =>
    match k, l with
    | .leap, l => String.intercalate "," ((pairsOf l).map (fun p => showDate p.1 ++ (if p.2 = 1 then " +1" else " -1")))
    | .period, [0, _] => "1pps"
    | .period, [1, _] => "pp2s"
    | .period, [2, _] => "10pps"
    | .period, [_, ps] => showPs 3 ps
    | .ipv4List, l => showList ((pairsOf l).map (fun p => showIp4 p.1 ++ "/" ++ toString p.2))
    | .ipv6List, l => showList ((pairsOf l).map (fun p => showIp6 p.1 ++ "/" ++ toString p.2))
    | .rule, [f, a, n, c] => quoted (showAddr f a ++ "/" ++ toString n ++ ":" ++ toString c)
    | .keytab, [o, n] => hexMin o ++ "," ++ toString n
    | .via, [p, q, w] => "p" ++ toString p ++ "_l" ++ toString q ++ "_v" ++ toString w
    | .via, _ => "direct"
    | .slots, l => if l.isEmpty then "none" else
        quoted (String.intercalate ";" ((pairsOf l).map (fun p => showGroups 2 p.1 ++ ":" ++ showPs 2 ((p.2 * 10000000 : Nat) : Int))))
    | .prog, [a, b, c, d] => quoted ("start=" ++ toString a ++ ",bot=" ++ toString b ++ ",top=" ++ toString c ++ ",side=" ++ toString d)
    | .pins, [a, b, c, d, e, f, g] =>
      quoted ("sout=" ++ toString a ++ "+" ++ toString b ++ ",sin=" ++ toString c ++ ",load=" ++ toString d ++ "+" ++ toString e ++
        ",side=" ++ toString f ++ ",br=" ++ toString g)
    | .shift, [a, b, c, d, e, f] =>
      let side := fun x => if x = 0 then "left" else "right"
      let sw := fun x => if x = 0 then "off" else "on"
      quoted ("sin=" ++ side a ++ ",sout=" ++ side b ++ ",post=" ++ toString c ++ ",fetch=" ++ toString d ++ ",autopost=" ++ sw e ++
        ",autofetch=" ++ sw f)
    | .clock, [0, d, p] => quoted ("axis,div=" ++ toString d ++ ",phase=" ++ toString p)
    | .clock, [1, p, e] => quoted ("pin=" ++ toString p ++ ",edge=" ++ (if e = 0 then "rising" else "falling"))
    | .dmaAddr, [s, o, w] =>
      quoted ((if s = 0 then "store:" else "bar0:") ++ hexMin o ++ "," ++ (if w = 0 then "inc" else "fix=" ++ toString w))
    | .evtSrc, l => showList (l.map (fun i => eventNames.getD i ""))
    | .gstep, [p, o, d, b] =>
      let acts := (["temp", "predict", "refobs", "cmp", "keepcal"].zip (List.range 5)).filter (fun a => b.testBit (a.2 + 1))
      quoted ("every=" ++ toString p ++ ",at=" ++ toString o ++ ",dwell=" ++ toString d ++ ",do=" ++ String.intercalate "+" (acts.map (·.1)))
    | .gstep, _ => "off"
    | .tallyRing, [o, r] => quoted (hexMin o ++ "," ++ toString r)
    | .msix, [v] => toString v
    | .msix, _ => "off"
    | .pmbPage, [a, p] => hexMin a ++ "/" ++ toString p
    | _, l => showList (l.map toString)

/-- A setting's value in the form its path takes (R139, R472). -/
def showVal (vt : VType) (v : SVal) : String :=
  match vt, v with
  | .text k, v => showText k v
  | _, .none => "none"
  | .bool, .nat n => if n = 0 then "off" else "on"
  | .enum names, .nat n => names.getD n ""
  | .enumList names, .nats l => showList (l.map (fun i => names.getD i ""))
  | .time _ _ _ u, .nat n => showPs u n
  | .time _ _ _ u, .int z => showPs u z
  | .freq _ _ _ u, .nat n => fixedDec (freqShow u).1 n ++ (freqShow u).2
  | .bw, .nat n => fixedDec 3 n ++ "mHz"
  | .ratio _ _, .nat n => fixedDec 9 n ++ "ppb"
  | .hex bits, .nat n => "0x" ++ hexPad (bits / 4) n
  | .hexInt _ _, .nat n => hexMin n
  | .hexMul _ _, .nat n => hexMin n
  | .eid, .nat n => if n = 4095 then "auto" else toString n
  | .axisTime, .nat n => toString (n / 1000000000) ++ "." ++ decPad 9 (n % 1000000000)
  | _, .nat n => toString n
  | _, .int z => toString z
  | _, .nats l => showList (l.map toString)
  | _, .str s => s

end Sys2Proof.Machine
end

