-- ==== Sys2Proof/Machine/Settings.lean ====
section
/-!
DEFINITION. Settings as a whole: names and identifiers of paths (R481, R482), what each mode withholds (R37, Table 2.7),
and the constraints between settings (the E303 rows of Table 23.5).
-/
set_option autoImplicit false

namespace Sys2Proof.Machine

/-! ## Paths as text -/

/-- The count of values of a segment's placeholder; none for a literal. -/
def Seg.count : Seg → Option Nat
  | .lit _ => none
  | .num _ n => some n
  | .named l => some l.names.length

/-- The number a segment's text stands for: a literal gives 0; `some none` is a number out of range. -/
def segMatch (g : Seg) (s : List Char) : Option (Option Nat) :=
  match g with
  | .lit x => if x.toList = s then some (some 0) else none
  | .num p n => match dropPre? p s with
    | some r => match decNat? r with
      | some k => if (toString k).toList ≠ r then none else some (if k < n then some k else none)
      | none => none
    | none => none
  | .named l => (l.names.findIdx? (fun x => decide (x.toList = s))).map some

/-- A name of a list with a number put into its first segment that is out of the list's range: the list holds the name
numbered 0. -/
def nameOut (l : List String) (s rest : List Char) : Bool :=
  let d := (s.reverse.takeWhile Char.isDigit).reverse
  decide (d ≠ [] ∧ (d.headD '0' ≠ '0' ∨ d.length = 1)) &&
  l.any (fun x => decide (x.toList = s.take (s.length - d.length) ++ '0' :: rest))

/-- Match a row's segments: the placeholder numbers in order, or out of range. A named placeholder may hold dots
(`evt.task.<t>`): its text takes up to four segments. -/
def matchSegs : List Seg → List (List Char) → Option (Option (List Nat))
  | [], [] => some (some [])
  | [], _ :: _ => none
  | _ :: _, [] => none
  | .named l :: gs, s :: ss =>
    let one : List Char := s
    let two : List Char := match ss with | t :: _ => s ++ '.' :: t | [] => []
    match l.names.findIdx? (fun x => decide (x.toList = one)), l.names.findIdx? (fun x => decide (x.toList = two)) with
    | some k, _ => (matchSegs gs ss).map (fun r => r.map (k :: ·))
    | none, some k => match ss with
      | _ :: r => (matchSegs gs r).map (fun r => r.map (k :: ·))
      | [] => none
    | none, none =>
      if nameOut l.names s [] then (if (matchSegs gs ss).isSome then some none else none)
      else match ss with
        | u :: r => if nameOut l.names s ('.' :: u) && (matchSegs gs r).isSome then some none else none
        | [] => none
  | .lit x :: gs, s :: ss => if x.toList = s then matchSegs gs ss else none
  | .num p n :: gs, s :: ss =>
    match segMatch (.num p n) s with
    | some (some k) => (matchSegs gs ss).map (fun r => r.map (k :: ·))
    | some none => match matchSegs gs ss with
      | some _ => some none
      | none => none
    | none => none

/-- The key a path names: `none` unknown, `some none` an instance out of range (E203). -/
def findPath (s : String) : Option (Option Key) :=
  let ss := splitAt '.' s.toList
  allPaths.findSome? (fun p =>
    match matchSegs p.row.pat ss with
    | some (some l) => some (some ⟨p, l.getD 0 0, l.getD 1 0⟩)
    | some none => some none
    | none => none)

/-- A segment with its number. -/
def segText (g : Seg) (k : Nat) : String :=
  match g with
  | .lit x => x
  | .num p _ => p ++ toString k
  | .named l => l.names.getD k ""

/-- The segments of a key as text. -/
def keySegs : List Seg → List Nat → List String
  | [], _ => []
  | .lit x :: gs, ks => x :: keySegs gs ks
  | g :: gs, k :: ks => segText g k :: keySegs gs ks
  | g :: gs, [] => segText g 0 :: keySegs gs []

/-- The path of a key. -/
def keyText (k : Key) : String := String.intercalate "." (keySegs k.p.row.pat [k.i, k.j])

/-- The last segment of a key's path. -/
def keyLast (k : Key) : String := (keySegs k.p.row.pat [k.i, k.j]).getLastD ""

/-- The counts of a row's placeholders. -/
def rowCounts (r : PathRow) : List Nat := r.pat.filterMap Seg.count

/-- INDEX of a key (R482). -/
def keyIndex (k : Key) : Nat :=
  match rowCounts k.p.row with
  | [] => 0
  | [_] => if k.p = .pinSignal then 0xFF else k.i
  | _ :: m :: _ => k.i * m + k.j

/-- PATH_ID (R481). -/
def pathIdOf (k : Key) : Nat :=
  let r := k.p.row
  r.chapter * 16777216 + r.table * 65536 + r.ordinal * 256 + keyIndex k

/-- The key of a PATH_ID, when the path exists. -/
def keyOfId (id : Nat) : Option Key :=
  match allPaths.find? (fun p => decide (pathIdOf ⟨p, 0, 0⟩ / 256 = id / 256)) with
  | none => none
  | some p =>
    let x := id % 256
    match rowCounts p.row with
    | [] => if x = 0 then some ⟨p, 0, 0⟩ else none
    | [n] => if x < n then some ⟨p, x, 0⟩ else none
    | n :: m :: _ => if x < n * m then some ⟨p, x / m, x % m⟩ else none

/-! ## Modes -/

/-- The first segment of a path. -/
def stemOf (p : PathId) : String := match p.row.pat with | .lit x :: _ => x | _ => ""

/-- A mode withholds a path, whatever the value (Table 2.7). -/
def withheldPath (mode : Nat) (k : Key) : Bool :=
  let graze := stemOf k.p = "pwr" && ((k.p.row.pat.getD 1 (.lit "")) = .lit "graze" || k.p = .pwrSleep)
  if mode = 1 then stemOf k.p = "deck" || graze
  else if mode = 2 then graze
  else if mode = 3 then
    (stemOf k.p = "port" && (rowCounts k.p.row) ≠ [] && decide (k.i = 2 ∨ k.i = 3)) ||
    k.p = .prongNtsRotate || k.p = .prongClassNtsRequire
  else false

/-- A mode withholds a value (Table 2.7). -/
def withheldVal (mode : Nat) (k : Key) (v : SVal) : Bool :=
  decide (mode = 3) &&
  match k.p, v with
  | .portPMode, .nat n => !([4, 6, 8] : List Nat).contains n
  | .prongGroups, .nats l => l.any (fun g => decide (g ≠ 0))
  | .latLVia, .nats (p :: _) => decide (p = 2 ∨ p = 3)
  | _, _ => false

/-- A record conflicts with a mode (R39). -/
def conflicts (mode : Nat) (k : Key) (v : SVal) : Bool :=
  (k.p.row.canSet || decide (k.p.row.role = 4)) && (withheldPath mode k || withheldVal mode k v)

/-! ## Constraints between settings -/

/-- The paths a path's constraint involves, as keys; none where it has no constraint. -/
def constraintOf (k : Key) : List Key :=
  match k.p with
  | .axisSignLimit | .axisLockUnc => [⟨.axisSignLimit, 0, 0⟩, ⟨.axisLockUnc, 0, 0⟩]
  | .outPulsePeriod | .outPulseWidth | .outPulseOffset =>
    [⟨.outPulsePeriod, k.i, 0⟩, ⟨.outPulseWidth, k.i, 0⟩, ⟨.outPulseOffset, k.i, 0⟩]
  | .outClkFreq | .outClkStd => [⟨.outClkFreq, k.i, 0⟩, ⟨.outClkStd, k.i, 0⟩]
  | .journalMark | .journalHyst => [⟨.journalMark, 0, 0⟩, ⟨.journalHyst, 0, 0⟩]
  | .deckDkSlots | .deckDkCoordSlot | .deckDkOpenMin | .deckDkMinRate | .deckDkMaxRate | .deckDkRole =>
    [⟨.deckDkSlots, k.i, 0⟩, ⟨.deckDkCoordSlot, k.i, 0⟩, ⟨.deckDkOpenMin, k.i, 0⟩, ⟨.deckDkMinRate, k.i, 0⟩,
     ⟨.deckDkMaxRate, k.i, 0⟩]
  | .steerAcqBw | .steerTrackBw => [⟨.steerAcqBw, 0, 0⟩, ⟨.steerTrackBw, 0, 0⟩]
  | .calChCmpLo | .calChCmpHi => [⟨.calChCmpLo, k.i, 0⟩, ⟨.calChCmpHi, k.i, 0⟩]
  | .calChMark | .calChHyst => [⟨.calChMark, k.i, 0⟩, ⟨.calChHyst, k.i, 0⟩]
  | .lpPtpRole => (List.range 4).map (fun j => ⟨.lpPtpRole, k.i, j⟩)
  | .lpPtpDelay | .lpPtpProfile => [⟨.lpPtpDelay, k.i, k.j⟩, ⟨.lpPtpProfile, k.i, k.j⟩]
  | .prongGroups => [⟨.prongGroups, 0, 0⟩]
  | .latLVia => [⟨.latLVia, k.i, 0⟩]
  | .lpVlan => (List.range 4).map (fun n => ⟨.latLVia, n, 0⟩) ++ [⟨.lpVlan, k.i, k.j⟩]
  | .pwrGrazeStep => [⟨.pwrGrazeStep, k.i, 0⟩]
  | .pwrGrazeOsc | .pwrGrazeOscWarm => (List.range 8).map (fun n => ⟨.pwrGrazeStep, n, 0⟩) ++ [⟨.pwrGrazeOsc, 0, 0⟩, ⟨.pwrGrazeOscWarm, 0, 0⟩]
  | .evtTaskTSrc => [⟨.evtTaskTSrc, k.i, 0⟩]
  | .tallyMark | .tallyHyst | .tallyRing => [⟨.tallyMark, 0, 0⟩, ⟨.tallyHyst, 0, 0⟩, ⟨.tallyRing, 0, 0⟩]
  | .tallyUC => [⟨.tallyUC, k.i, k.j⟩]
  | _ => []

/-- A Graze step's own constraint (R443): OFFSET below PERIOD; dwell and, under `rest`, warm-up within the period. -/
def Hw.gstepBad (h : Hw) (i : Nat) : Bool :=
  match h.effL .pwrGrazeStep i with
  | [p, o, d, _] =>
    if p = 0 then false
    else decide (p ≤ o) ||
      decide (p * 1000000000000 < d * 1000000000 + (if h.effN .pwrGrazeOsc = 1 then h.effN .pwrGrazeOscWarm else 0))
  | _ => false

/-- A tunnel's VLAN is in its logical port's list (R345). -/
def Hw.viaBad (h : Hw) (n : Nat) : Bool :=
  match h.effL .latLVia n with
  | [p, k, v] => !(h.effL .lpVlan p k).contains v
  | _ => false

/-- The settings in effect break the constraint that involves a path. -/
def Hw.violates (h : Hw) (k : Key) : Bool :=
  match k.p with
  | .axisSignLimit | .axisLockUnc => decide (h.effN .axisSignLimit < h.effN .axisLockUnc)
  | .outPulsePeriod | .outPulseWidth | .outPulseOffset =>
    let p := pulsePeriod (h.effL .outPulsePeriod k.i)
    decide (p < 2 * (h.effI .outPulseOffset k.i).natAbs ∨ p < h.effN .outPulseWidth k.i + 10000)
  | .outClkFreq | .outClkStd => decide (h.effN .outClkStd k.i = 1 ∧ 250000000000000 < h.effN .outClkFreq k.i)
  | .journalMark | .journalHyst => decide (h.effN .journalMark < h.effN .journalHyst)
  | .deckDkSlots | .deckDkCoordSlot | .deckDkOpenMin | .deckDkMinRate | .deckDkMaxRate | .deckDkRole =>
    !planFits (2 - h.effN .deckDkMinRate k.i) (h.effN .deckDkCoordSlot k.i) (h.effN .deckDkOpenMin k.i) (h.effL .deckDkSlots k.i) ||
    decide (h.effN .deckDkMinRate k.i < h.effN .deckDkMaxRate k.i)
  | .steerAcqBw | .steerTrackBw => decide (h.effN .steerAcqBw < h.effN .steerTrackBw)
  | .calChCmpLo | .calChCmpHi => decide (h.effI .calChCmpHi k.i < h.effI .calChCmpLo k.i)
  | .calChMark | .calChHyst => decide (h.effN .calChMark k.i < h.effN .calChHyst k.i)
  | .lpPtpRole => decide (1 < ((List.range 4).filter (fun j => decide (h.effN .lpPtpRole k.i j = 1))).length)
  | .lpPtpDelay | .lpPtpProfile => decide (h.effN .lpPtpDelay k.i k.j = 1 ∧ h.effN .lpPtpProfile k.i k.j ≠ 0)
  | .prongGroups => !(h.effL .prongGroups).contains 0
  | .latLVia => h.viaBad k.i
  | .lpVlan => (List.range 4).any (fun n => h.viaBad n)
  | .pwrGrazeStep => h.gstepBad k.i
  | .pwrGrazeOsc | .pwrGrazeOscWarm => (List.range 8).any (fun n => h.gstepBad n)
  | .evtTaskTSrc => if hk : k.i < 96 then badRoute ⟨k.i, hk⟩ (h.effL .evtTaskTSrc k.i) else false
  | .tallyMark | .tallyHyst | .tallyRing =>
    let size : Nat := (match h.eff ⟨.tallyRing, 0, 0⟩ with | .nats [_, r] => r | _ => 0)
    let mark : Nat := (match h.eff ⟨.tallyMark, 0, 0⟩ with | .nat n => n | _ => size * 3 / 4)
    let hyst : Nat := (match h.eff ⟨.tallyHyst, 0, 0⟩ with | .nat n => n | _ => size / 4)
    decide (mark < hyst) ||
      (match h.eff ⟨.tallyRing, 0, 0⟩ with | .nats [o, r] => !tallyRingOk o r | _ => false)
  | .tallyUC => if hu : k.i < 18 then decide (unitCodes ⟨k.i, hu⟩ < h.effN .tallyUC k.i k.j) else false
  | _ => false

end Sys2Proof.Machine
end

