-- ==== Sys2Proof/Machine/Image.lean ====
section
/-!
DEFINITION. The profile image (chapter 6): slots in flash, the checks of Table 6.3, sections and settings records, the
write of the inactive slot, activation, owner keys and the rollback count.
-/
set_option autoImplicit false

namespace Sys2Proof.Machine

/-! ## Flash and headers -/

/-- The first byte of a slot (R114). -/
def slotBase (n : Fin 2) : Nat := n.val * 4194304

/-- `n` bytes of a slot from an offset. -/
def ImgSt.bytes (m : ImgSt) (s : Fin 2) (o n : Nat) : List Byte :=
  (List.range n).map (fun k => sparseGet (0xFF : Byte) (slotBase s + o + k) m.flash)

/-- A big-endian number of a slot's header. -/
def ImgSt.num (m : ImgSt) (s : Fin 2) (o n : Nat) : Nat := beNat (m.bytes s o n)

/-- The header is intact: MAGIC, FORMAT, and a GENERATION that has been written. -/
def ImgSt.intact (m : ImgSt) (s : Fin 2) : Bool :=
  decide (m.num s 0 4 = 0x564C5049 ∧ m.num s 4 2 = 1 ∧ m.num s 8 4 ≠ 0xFFFFFFFF)

/-- The state code of IMG_SLOTn_INFO (R117): 0 not intact, 1 WRITING, 2 STAGED, 3 ACTIVE. -/
def ImgSt.stateCode (m : ImgSt) (s : Fin 2) : Nat :=
  if !m.intact s then 0
  else if m.num s 12 4 = 0x00FFFFFF then 2 else if m.num s 12 4 = 0x0000FFFF then 3 else 1

/-- GENERATION, 0 when the header is not intact. -/
def ImgSt.gen (m : ImgSt) (s : Fin 2) : Nat := if m.intact s then m.num s 8 4 else 0

/-- R118: the active slot. -/
def ImgSt.active (m : ImgSt) : Fin 2 :=
  let q := fun (s : Fin 2) => m.intact s && decide (m.stateCode s ≠ 2)
  if q 0 && q 1 then (if m.gen 0 < m.gen 1 then 1 else 0) else if q 1 then 1 else 0

/-- A section entry (Table 6.4). -/
structure Section where
  type : Nat
  off : Nat
  len : Nat
  hash : Nat
deriving DecidableEq, Repr

/-- The section entries of a slot's header. -/
def ImgSt.sections (m : ImgSt) (s : Fin 2) : List Section :=
  (List.range (m.num s 6 2)).map (fun i =>
    let o := 0x100 + 48 * i
    { type := m.num s o 2, off := m.num s (o + 4) 4, len := m.num s (o + 8) 4, hash := m.num s (o + 16) 32 })

/-- The length limit of a section type (Table 6.5); none for a type that fails check 1. -/
def sectionLimit (t : Nat) : Option Nat :=
  if t = 1 then some 262144 else if t = 2 then some 65536 else if t = 3 then some 786432 else if t = 4 then some 262144
  else if t = 5 then some 1024 else if 0x100 ≤ t ∧ t ≤ 0x1FF then some 4194304 else none

/-- R122 over the entries in order, from the end of the one before; the last ends at IMAGE_LEN. -/
def sectionsRise (len : Nat) : Nat → List Section → Bool
  | e, [] => decide (e = len)
  | e, x :: r =>
    decide (e ≤ x.off ∧ x.off % 16 = 0 ∧ x.off + x.len ≤ len) &&
    (match sectionLimit x.type with | some m => decide (x.len ≤ m) | none => false) && sectionsRise len (x.off + x.len) r

/-- The counts of Table 6.5. -/
def sectionCounts (l : List Section) : Bool :=
  let n := fun (t : Nat) => (l.filter (fun x => decide (x.type = t))).length
  decide (n 1 ≤ 1 ∧ n 2 ≤ 1 ∧ n 3 = 1 ∧ n 4 ≤ 1 ∧ n 5 ≤ 1)

/-! ## Sections -/

/-- A settings record as it stands in the image: PATH_ID, TYPE and VALUE. -/
structure Record where
  id : Nat
  type : Nat
  value : List Byte
deriving DecidableEq, Repr

/-- Round up to a multiple of 4. -/
def up4 (n : Nat) : Nat := (n + 3) / 4 * 4

/-- The LEN a TYPE takes (Table 6.6). -/
def recLenOk (type len : Nat) : Bool :=
  if type = 1 then decide (len = 1)
  else if 2 ≤ type ∧ type ≤ 6 then decide (len = 8)
  else if type = 7 then decide (len = 2)
  else if type = 8 then decide (1 ≤ len ∧ len ≤ 1000) else false

/-- `k` records back to back that end where the bytes end (R123). -/
def parseRecords : Nat → List Byte → Option (List Record)
  | 0, l => if l.isEmpty then some [] else none
  | k + 1, l =>
    if l.length < 8 then none
    else
      let type := beAt l 4 1
      let len := beAt l 6 2
      if beAt l 5 1 ≠ 0 ∨ !recLenOk type len ∨ l.length < 8 + up4 len then none
      else (parseRecords k (l.drop (8 + up4 len))).map
        (fun r => { id := beAt l 0 4, type := type, value := (l.drop 8).take len } :: r)

/-- A SETTINGS section. -/
def parseSettings (l : List Byte) : Option (List Record) :=
  if l.length < 8 ∨ 16384 < beAt l 0 4 then none else parseRecords (beAt l 0 4) (l.drop 8)

/-- An IBEX section has the three parts of R125, and its configurations meet R381. -/
def ibexSectionOk (l : List Byte) : Bool :=
  let w := beAt l 0 2
  let c := beAt l 2 1
  let k := beAt l 3 1
  let es := (l.drop (4 + up4 (3 * w)))
  decide (4 ≤ l.length ∧ w ≤ 512 ∧ c ≤ 32 ∧ k ≤ 8 ∧ l.length = 4 + up4 (3 * w) + 16 * (c + k)) &&
  (ibexEntries es c).all (fun e => decide (e.1 < 32) && chCfgOk e.2.1 e.2.2.1 e.2.2.2) &&
  (ibexEntries (es.drop (16 * c)) k).all (fun e => decide (e.1 < 8) && kidCfgOk e.2.1 e.2.2.1 e.2.2.2)

/-- The entries of an ANCHORS section: kind and certificate (R127). -/
def parseAnchors : Nat → List Byte → Option (List (Nat × List Byte))
  | 0, l => if l.isEmpty then some [] else none
  | k + 1, l =>
    if l.isEmpty then some []
    else
      let kind := beAt l 0 1
      let len := beAt l 2 2
      if l.length < 4 + up4 len ∨ 8192 < len ∨ kind < 1 ∨ 3 < kind then none
      else (parseAnchors k (l.drop (4 + up4 len))).map (fun r => (kind, (l.drop 4).take len) :: r)

/-- The counts of kinds that R127 allows. -/
def anchorsOk (l : List Byte) : Bool :=
  match parseAnchors 33 l with
  | some es =>
    let n := fun (k : Nat) => (es.filter (fun e => decide (e.1 = k))).length
    decide (es.length ≤ 32 ∧ n 1 ≤ 8 ∧ n 2 ≤ 1 ∧ n 3 ≤ 4)
  | none => false

/-- A RETURN_DELAY section's length agrees with its COUNT (R128). -/
def delaysOk (l : List Byte) : Bool := decide (4 ≤ l.length ∧ beAt l 0 2 ≤ 30 ∧ l.length = 4 + 4 * beAt l 0 2)

/-- A section parses under R123 to R127. -/
def sectionParses (type : Nat) (l : List Byte) : Bool :=
  if type = 1 then (parseSettings l).isSome else if type = 2 then ibexSectionOk l else if type = 4 then anchorsOk l
  else if type = 5 then delaysOk l else true

/-! ## The checks of Table 6.3 -/

/-- Check 1. -/
def ImgSt.structureOk (m : ImgSt) (s : Fin 2) : Bool :=
  m.intact s && decide (m.num s 0x20 2 = 0x4096 ∧ m.num s 0x22 2 ≤ Config.silicon.toNat ∧ m.num s 0x10 4 ≤ 4194304 ∧
    1 ≤ m.num s 6 2 ∧ m.num s 6 2 ≤ 16) &&
  sectionsRise (m.num s 0x10 4) 0x1000 (m.sections s) && sectionCounts (m.sections s) &&
  (m.sections s).all (fun x => sectionParses x.type (m.bytes s x.off x.len))

/-- Check 2. -/
def ImgSt.hashesOk (m : ImgSt) (s : Fin 2) : Bool :=
  (m.sections s).all (fun x => decide ((Config.sha256 (m.bytes s x.off x.len)).toNat = x.hash)) &&
  (m.sections s).all (fun x => decide (x.type ≠ 3) || decide (x.hash = m.num s 0x30 32))

/-- The O_SIG input: GENERATION and STATE read as ones (R116). -/
def ImgSt.ownerInput (m : ImgSt) (s : Fin 2) : List Byte := m.bytes s 0 8 ++ List.replicate 8 0xFF ++ m.bytes s 0x10 0x3F0

/-- The public key of T_KEY_IDX stands in ROM under its number; an owner's key is OWNER_KEY itself. -/
def ImgSt.tsigOk (m : ImgSt) (s : Fin 2) : Bool :=
  let k := m.num s 0x2C 1
  decide (k < 4) && !m.tkeyRevoked.getLsbD k && Config.verifies k (m.bytes s 0x20 64) (m.bytes s 0x60 64)

/-- Check 4. -/
def ImgSt.osigOk (m : ImgSt) (s : Fin 2) : Bool :=
  Config.verifies (4 + m.num s 0xA0 64) (m.ownerInput s) (m.bytes s 0x400 64)

/-- The hash of a slot's OWNER_KEY. -/
def ImgSt.ownerHash (m : ImgSt) (s : Fin 2) : BitVec 256 := Config.sha256 (m.bytes s 0xA0 64)

/-- The owner slot that holds a slot's owner and is not revoked. -/
def ImgSt.ownerSlot (m : ImgSt) (s : Fin 2) : Option (Fin 4) :=
  (List.finRange 4).find? (fun k => decide (m.owners[k] = some (m.ownerHash s)) && !m.ownerRevoked.getLsbD k)

/-- The first of checks 1 to `upto` that fails, 0 when all pass (R119). -/
def ImgSt.check (m : ImgSt) (s : Fin 2) (upto : Nat) : Nat :=
  if !m.structureOk s then 1
  else if !m.hashesOk s then 2
  else if !m.tsigOk s then 3
  else if !m.osigOk s then 4
  else if upto < 5 then 0
  else if (m.ownerSlot s).isNone then 5
  else if m.num s 0x28 4 < m.rollback then 6
  else if upto < 7 then 0
  else if m.stateCode s ≠ 3 then 7 else 0

/-- The IMG registers of a slot, filled from its header and a check's result. -/
def ImgSt.fill (m : ImgSt) (s : Fin 2) (result : Nat) : ImgSt :=
  let i : SlotInfo :=
    { state := m.stateCode s, result := result, fw := (if m.intact s then m.num s 0x24 4 else 0),
      rollback := (if m.intact s then m.num s 0x28 4 else 0), gen := m.gen s }
  { m with info := m.info.set s i }

/-! ## The image in use -/

/-- The slot in use. -/
def Hw.slotUsed (h : Hw) : Option (Fin 2) := if h.sys.slot = 1 then some 0 else if h.sys.slot = 2 then some 1 else none

/-- A section of the image in use. -/
def Hw.section_ (h : Hw) (t : Nat) : Option (List Byte) :=
  h.slotUsed.bind (fun s => ((h.img.sections s).find? (fun x => decide (x.type = t))).map (fun x => h.img.bytes s x.off x.len))

/-- FW_VERSION of the firmware that runs: the image's, or that of the ROM copy. -/
def Hw.fwVersion (h : Hw) : Nat := match h.slotUsed with | some s => h.img.num s 0x24 4 | none => Config.otpNat "rom_fw_version"

/-- R127: the anchors allow MGMT. Whether a certificate is for the engine's key is a free value. -/
def Hw.anchored (h : Hw) : Bool :=
  match (h.section_ 4).bind (parseAnchors 33) with
  | some es =>
    match es.filter (fun e => decide (e.1 = 2)) with
    | [c] => es.any (fun e => decide (e.1 = 1)) && Config.verifies (2 ^ 520) c.2 (Config.publicKey 0 (Config.otpNat "mgmt"))
    | _ => false
  | none => false

/-- The setting a record gives, or the E-code Mywi would have returned (R103). -/
def Record.setting (r : Record) : Parse (Key × SVal) :=
  match keyOfId r.id with
  | none => .error 201
  | some k =>
    let row := k.p.row
    if !(row.canSet || decide (row.role = 4)) || decide (row.vt = .none) then .error 201
    else if recType row.vt ≠ r.type then .error 302
    else
      let v : Parse SVal :=
        if r.type = 8 then parseValue row.vt (String.ofList (r.value.map (fun b => Char.ofNat b.toNat)))
        else if r.type = 3 ∨ r.type = 4 ∨ r.type = 6 then numberValue row.vt (ofTwos64 (beNat r.value))
        else numberValue row.vt (beNat r.value)
      v.map (fun v => (k, v))

/-- The settings records of the image in use. -/
def Hw.records (h : Hw) : List Record := ((h.section_ 1).bind parseSettings).getD []

/-- The mode of the image in use: its `system.mode` record, else Relay (R47). -/
def Hw.imageMode (h : Hw) : Nat :=
  h.records.foldl (fun m r => match r.setting with
    | .ok (k, .nat n) => if k.p = .systemMode then n + 1 else m
    | _ => m) 2

/-- `boot.record` (R103). -/
def Hw.bootRecord (h : Hw) (i code : Nat) : Hw :=
  h.noticeKeep 2 1 "boot.record" [("index", toString i), ("code", "E" ++ toString code)]

/-- `system.skip` (R48). -/
def Hw.systemSkip (h : Hw) (k : Key) : Hw :=
  let h := { h with sys := { h.sys with skipped := h.sys.skipped ++ [keyText k] } }
  h.noticeKeep 0 1 "system.skip" [("path", keyText k)]

/-- The records that apply under a mode, in image order with their indices; the others are reported (R48, R103). -/
def Hw.takeRecords (h : Hw) (mode : Nat) : List (Nat × Key × SVal) × Hw :=
  (h.records.zip (List.range h.records.length)).foldl (fun (a : List (Nat × Key × SVal) × Hw) (r : Record × Nat) =>
    match r.1.setting with
    | .error e => (a.1, a.2.bootRecord r.2 e)
    | .ok (k, v) => if conflicts mode k v then (a.1, a.2.systemSkip k) else (a.1 ++ [(r.2, k, v)], a.2)) ([], h)

/-- One failing constraint: the last record among those that set the paths involved. -/
def Hw.badRecord (h : Hw) (l : List (Nat × Key × SVal)) : Option (Nat × Key × SVal) :=
  match l.find? (fun r => h.violates r.2.1) with
  | some r => (l.filter (fun x => (constraintOf r.2.1).contains x.2.1)).getLast?
  | none => none

/-- R103: constraints are tested against the resulting settings until none fails. -/
def Hw.settleRecords (h : Hw) (l : List (Nat × Key × SVal)) : Nat → Hw
  | 0 => h
  | k + 1 =>
    let h := { h with sett := { h.sett with profile := l.map (fun (x : Nat × Key × SVal) => x.2) } }
    match h.badRecord l with
    | none => h
    | some b => (h.bootRecord b.1 303).settleRecords (l.filter (fun x => decide (x.1 ≠ b.1))) k

/-- Apply the image's settings under a mode (R103); the Mywi-set values are as they stand. -/
def Hw.applyProfile (h : Hw) (mode : Nat) : Hw :=
  let (l, h) := h.takeRecords mode
  h.settleRecords l (l.length + 1)

/-! ## Return delays (R128, Table 20.5) -/

/-- The OTP return delay and its floor in us, by domain code and state left (1 TRIM, 2 GRAZE, 3 BED). -/
def otpDelay (d f : Nat) : Option (Nat × Nat) :=
  if f < 1 ∨ 3 < f then none
  else if d = 1 then (if f = 2 then some (150, 120) else if f = 3 then some (1500, 1000) else none)
  else if d = 2 then (if f = 2 then some (250, 200) else if f = 3 then some (5000, 3000) else none)
  else if d = 9 then (if f = 1 then some (100, 80) else if f = 2 then some (300, 250) else some (160000, 150000))
  else if d = 3 then some (400, 300) else if d = 4 then some (200, 150) else if d = 5 then some (100, 80)
  else if d = 6 then some (300, 250) else if d = 7 then some (50, 40) else if d = 8 then some (2000, 1500) else none

/-- The delay in effect. -/
def Hw.returnDelay (h : Hw) (d f : Nat) : Nat :=
  match h.pwr.rdelay.find? (fun e => decide (e.1 = d ∧ e.2.1 = f)) with
  | some e => e.2.2
  | none => ((otpDelay d f).map (·.1)).getD 0

/-- Take the RETURN_DELAY section: a delay below its floor is raised to it and reported; an entry for a pair that never
occurs is ignored (R428). -/
def Hw.takeDelays (h : Hw) : Hw :=
  let h := { h with pwr := { h.pwr with rdelay := [] } }
  match h.section_ 5 with
  | none => h
  | some l =>
    (List.range (beAt l 0 2)).foldl (fun (h : Hw) i =>
      let d := beAt l (4 + 4 * i) 1
      let f := beAt l (5 + 4 * i) 1
      let us := beAt l (6 + 4 * i) 2
      match otpDelay d f with
      | none => h
      | some (_, fl) =>
        let h := if us < fl then h.bootRecord i 301 else h
        { h with pwr := { h.pwr with rdelay := (d, f, max us fl) :: h.pwr.rdelay.filter (fun e => decide (e.1 ≠ d ∨ e.2.1 ≠ f)) } }) h

/-! ## Choosing a slot (R101, R102) -/

/-- `boot.slot` for one of its causes. -/
def Hw.bootSlot (h : Hw) (slot cause : String) : Hw := h.noticeKeep 2 3 "boot.slot" [("slot", slot), ("cause", cause)]

/-- The name of a slot. -/
def slotName (s : Fin 2) : String := if s = 0 then "a" else "b"

/-- Check one slot for use: its RESULT, and SLOT_x_BAD with F201 when it fails. -/
def Hw.trySlot (h : Hw) (s : Fin 2) : Bool × Hw :=
  let r := h.img.check s 7
  let h := { h with img := h.img.fill s r }
  if r = 0 then (true, h)
  else
    let h := { h with sys := { h.sys with aBad := h.sys.aBad || decide (s = 0), bBad := h.sys.bBad || decide (s = 1) } }
    (false, (h.bootSlot (slotName s) "bad").fault 10)

/-- R101: the active slot, then the other; R102: factory defaults when neither passes. -/
def Hw.chooseSlot (h : Hw) : Hw :=
  let a := h.img.active
  let b : Fin 2 := 1 - a
  let h := { h with img := (h.img.fill a 0).fill b 0 }
  let use := fun (h : Hw) (s : Fin 2) => { h with sys := { h.sys with slot := s.val + 1, factory := false } }
  match h.trySlot a with
  | (true, h) => use h a
  | (false, h) => match h.trySlot b with
    | (true, h) => use h b
    | (false, h) => (({ h with sys := { h.sys with slot := 0, factory := true } }).bootSlot "factory" "none").fault 11

/-! ## Writing the inactive slot (R129 to R132) -/

/-- The slot not in use. -/
def Hw.inactiveSlot (h : Hw) : Fin 2 :=
  match h.slotUsed with
  | some s => 1 - s
  | none => if h.img.gen 1 < h.img.gen 0 then 1 else 0

/-- Image and OTP commands are refused while one of them or a restart is in progress (R132). -/
def Hw.imageBusy (h : Hw) : Bool :=
  h.img.write.isSome || h.sys.restart.isSome || h.sys.changing || decide (h.sys.inReset ≠ []) || !h.sys.done

/-- The GENERATION a write takes. -/
def ImgSt.nextGen (m : ImgSt) : Nat := max (m.gen 0) (m.gen 1) + 1

/-- Start a slot write from Store or from staged bytes. -/
def Hw.imageStart (h : Hw) (store : Option Nat) (bytes : List Byte) (len : Nat) : Except Nat Hw :=
  if h.imageBusy then .error 501
  else if 4194304 < len then .error 304
  else if 0xFFFFFFFF ≤ h.img.nextGen then .error 502
  else .ok { h with img := { h.img with
    write := some { slot := h.inactiveSlot, store := store, bytes := bytes, len := len, step := 1 } } }

/-- Cells of a byte string that are not erased, from an offset. -/
def flashCells : Nat → List Byte → List (Nat × Byte)
  | _, [] => []
  | a, b :: r => if b = 0xFF then flashCells (a + 1) r else (a, b) :: flashCells (a + 1) r

/-- Erase `[lo, hi)` and program bytes from `lo`. -/
def ImgSt.program (m : ImgSt) (lo hi : Nat) (l : List Byte) : ImgSt :=
  { m with flash := m.flash.filter (fun c => decide (c.1 < lo)) ++ flashCells lo l ++ m.flash.filter (fun c => decide (hi ≤ c.1)) }

/-- Program the four bytes of STATE. -/
def ImgSt.setState (m : ImgSt) (s : Fin 2) (v : Nat) : ImgSt :=
  { m with flash := (beBytes 4 v).zip (List.range 4) |>.foldl (fun f p => sparseSet (0xFF : Byte) (slotBase s + 12 + p.2) p.1 f) m.flash }

/-- The notice `image.write`. -/
def Hw.imageNotice (h : Hw) (bit : Nat) (s : Fin 2) (gen : Nat) (result : String) : Hw :=
  h.notice 26 bit "image.write" [("slot", slotName s), ("gen", toString gen), ("result", result)]

/-- What a write programs (R129): the source's bytes with the new GENERATION and STATE left at WRITING. -/
def Hw.writeBytes (h : Hw) (w : SlotWrite) : List Byte :=
  let src := match w.store with
    | some o => h.peekN o w.len
    | none => w.bytes ++ List.replicate (w.len - w.bytes.length) 0xFF
  (src.take 8 ++ beBytes 4 h.img.nextGen ++ List.replicate 4 0xFF ++ src.drop 16).take w.len

/-- The slot erased to the end of the write's last sector, then the first `n` bytes programmed; no write is in progress. -/
def Hw.writeSlot (h : Hw) (w : SlotWrite) (n : Nat) : ImgSt :=
  let top := slotBase w.slot + max 4096 ((w.len + 4095) / 4096 * 4096)
  { h.img with write := none }.program (slotBase w.slot) top ((h.writeBytes w).take n)

/-- A write that ends early: how much of it is programmed is a free value. -/
def Hw.writePart (h : Hw) (w : SlotWrite) : ImgSt × Hw :=
  let (n, h) := h.fresh
  (h.writeSlot w (n % (w.len + 1)), h)

/-- IMAGE_WRITE_DONE (R129): steps 1 to 6. `flashOk` is false when the flash reports an erase or program error. -/
def execImageWriteDone (flashOk : Bool) (s : State) : Host.Outcome State Fault Refusal :=
  s.on (fun h =>
    match h.img.write with
    | none => h
    | some w =>
      let gen := h.img.nextGen
      if !flashOk then
        let (m, h) := h.writePart w
        (({ h with img := m.fill w.slot 0 }).imageNotice 1 w.slot gen "E706").fault 13
      else
        let m := h.writeSlot w w.len
        let r := m.check w.slot 4
        if r ≠ 0 then ({ h with img := m.fill w.slot r }).imageNotice 1 w.slot gen "E705"
        else ({ h with img := (m.setState w.slot 0x00FFFFFF).fill w.slot 0 }).imageNotice 0 w.slot gen "staged")

/-- A Warden restart abandons a write in WRITING; the new sessions hear of it. -/
def Hw.imageAbandon (h : Hw) : Hw :=
  match h.img.write with
  | none => h
  | some w =>
    let gen := h.img.nextGen
    let (m, h) := h.writePart w
    let h := ({ h with img := m.fill w.slot 0 }).setEvt 26 1
    { h with note := { h.note with forNew := h.note.forNew ++
      [{ stem := "image.write", args := [("slot", slotName w.slot), ("gen", toString gen), ("result", "abandoned")] }] } }

/-- The STAGED slot. -/
def ImgSt.staged (m : ImgSt) : Option (Fin 2) := (List.finRange 2).find? (fun s => decide (m.stateCode s = 2))

/-- R131 but the restart: the STAGED slot passes checks 1 to 6, becomes ACTIVE, and an IMAGE record is appended. -/
def Hw.imageActivate (h : Hw) : Except Nat Hw :=
  if h.imageBusy then .error 501
  else match h.img.staged with
    | none => .error 410
    | some s =>
      if h.img.check s 6 ≠ 0 then .error 410
      else
        let m := h.img
        let h := { h with img := (m.setState s 0x0000FFFF).fill s 0 }
        let h := h.journal 0x16 (beBytes 1 s.val ++ beBytes 4 (m.gen s) ++ beBytes 4 (m.num s 0x24 4) ++ beBytes 1 (m.num s 0x28 4))
        .ok (h.setEvt 26 2)

/-- Burn OTP with a record of it (R120, R121). -/
def Hw.otpBurn (h : Hw) (m : ImgSt) (action index : Nat) (value : Nat) : Hw :=
  ((({ h with img := m }).journal 0x17 (beBytes 1 action ++ beBytes 1 index ++ beBytes 32 value))).setEvt 26 3

/-- `image owner enroll`: the slot passes checks 1 to 4 and an owner slot is free. -/
def Hw.ownerEnroll (h : Hw) (s : Fin 2) : Except Nat Hw :=
  if h.imageBusy then .error 501
  else if h.img.check s 4 ≠ 0 then .error 410
  else match (List.finRange 4).find? (fun k => decide (h.img.owners[k] = none)) with
    | none => .error 410
    | some k =>
      let v := h.img.ownerHash s
      .ok (h.otpBurn { h.img with owners := h.img.owners.set k (some v) } 1 k.val v.toNat)

/-- `image owner revoke`: refused when it would leave no unrevoked key while the image in use depends on that key. -/
def Hw.ownerRevoke (h : Hw) (k : Fin 4) : Except Nat Hw :=
  if h.imageBusy then .error 501
  else match h.img.owners[k] with
    | none => .error 410
    | some v =>
      let others := (List.finRange 4).any (fun j => decide (j ≠ k) && (h.img.owners[j]).isSome && !h.img.ownerRevoked.getLsbD j)
      let used : Bool := match h.slotUsed with | some s => decide (h.img.ownerHash s = v) | none => false
      if !others && used then .error 410
      else .ok (h.otpBurn { h.img with ownerRevoked := h.img.ownerRevoked ||| (1#4 <<< k.val) } 2 k.val v.toNat)

/-- `image rollback commit`: the count takes ROLLBACK of the slot in use; with no slot in use there is none (E410). -/
def Hw.rollbackCommit (h : Hw) : Except Nat Hw :=
  if h.imageBusy then .error 501
  else match h.slotUsed with
    | none => .error 410
    | some s =>
      let v := max h.img.rollback (h.img.num s 0x28 4)
      .ok (h.otpBurn { h.img with rollback := v } 3 0 v)

end Sys2Proof.Machine
end

