-- ==== Sys2Proof/Machine/Blocks.lean ====
section
/-!
DEFINITION. Blocks leaving and entering service: what a block loses when its domain drops or it is reset, and its
configuration from the settings in effect (R38, R97, R400, R422, R432); Ibex settings as configuration words.
-/
set_option autoImplicit false

namespace Sys2Proof.Machine

/-! ## Ibex settings -/

/-- The configuration words a channel setting changes: word number and new value (Table 18.1). -/
def chSetting (c : HerdCh) (p : PathId) (v : SVal) : List (Fin 3 × Word) :=
  match p, v with
  | .ibexChEnable, .nat n => [(0, setFld c.cfg0 27 1 n)]
  | .ibexChProg, .nats [a, b, t, s] => [(0, setFld (setFld (setFld (setFld c.cfg0 0 9 a) 9 9 b) 18 9 t) 28 3 s)]
  | .ibexChPins, .nats [so, sn, si, lo, ln, sd, br] =>
    [(1, setFld (setFld (setFld (setFld (setFld c.cfg1 0 6 so) 6 6 sn) 12 6 si) 18 6 sd) 24 6 br),
     (2, setFld (setFld c.cfg2 0 6 lo) 6 3 ln)]
  | .ibexChShift, .nats [si, so, p, f, ap, af] =>
    [(2, setFld (setFld (setFld (setFld (setFld (setFld c.cfg2 9 5 p) 14 5 f) 19 1 ap) 20 1 af) 21 1 si) 22 1 so)]
  | _, _ => []

/-- The same for a lane (Table 18.5). -/
def kidSetting (c : KidLane) (p : PathId) (v : SVal) : List (Fin 3 × Word) :=
  match p, v with
  | .ibexKidEnable, .nat n => [(0, setFld c.cfg0 31 1 n)]
  | .ibexKidPin, .nat n => [(0, setFld c.cfg0 24 6 n)]
  | .ibexKidClock, .nats [0, d, ph] => [(0, setFld (setFld c.cfg0 0 24 (d - 1)) 30 1 0), (2, setFld c.cfg2 0 24 ph)]
  | .ibexKidClock, .nats [_, pin, e] => [(0, setFld c.cfg0 30 1 1), (1, setFld (setFld c.cfg1 0 6 pin) 6 1 e)]
  | .ibexKidOnMatch, .nats l =>
    [(1, setFld (setFld (setFld c.cfg1 8 1 (b2n (l.contains 0))) 9 1 (b2n (l.contains 1))) 10 1 (b2n (l.contains 2)))]
  | .ibexKidHoldoff, .nat n => [(1, setFld c.cfg1 11 5 n)]
  | _, _ => []

/-- All words of `ws` on a channel's three, checked together: 0 done, 1 busy (R382), 2 not allowed (R381). -/
def Hw.chWords (h : Hw) (n : Fin 32) (ws : List (Fin 3 × Word)) : Nat × Hw :=
  let c := h.ibex.ch[n]
  let new := ws.foldl (fun (a : Word × Word × Word) w => putCfg a.1 a.2.1 a.2.2 w.1 w.2) (c.cfg0, c.cfg1, c.cfg2)
  let k : Fin 3 := if ws.all (fun w => decide (w.1 = 0)) then 0 else 1
  let t := cfgTest (c.cfg0, c.cfg1, c.cfg2) new 27 k chCfgOk
  (t, if t = 0 then h.updCh n (fun c => { c with
      cfg0 := new.1, cfg1 := new.2.1, cfg2 := new.2.2,
      halted := c.halted && !(new.1.getLsbD 27 && !c.cfg0.getLsbD 27) }) else h)

/-- The same on a lane. -/
def Hw.kidWords (h : Hw) (n : Fin 8) (ws : List (Fin 3 × Word)) : Nat × Hw :=
  let c := h.ibex.kid[n]
  let new := ws.foldl (fun (a : Word × Word × Word) w => putCfg a.1 a.2.1 a.2.2 w.1 w.2) (c.cfg0, c.cfg1, c.cfg2)
  let k : Fin 3 := if ws.all (fun w => decide (w.1 = 0)) then 0 else 1
  let t := cfgTest (c.cfg0, c.cfg1, c.cfg2) new 31 k kidCfgOk
  (t, if t = 0 then
      h.updKid n (fun c => { c with cfg0 := new.1, cfg1 := new.2.1, cfg2 := new.2.2 }) else h)

/-- Take one Ibex setting: 0, or the E-code that refuses it (R381, R382, R399). -/
def Hw.ibexTake (h : Hw) (k : Key) (v : SVal) : Nat × Hw :=
  let code := fun (r : Nat × Hw) => (if r.1 = 0 then 0 else if r.1 = 1 then 507 else 303, r.2)
  match k.p, v with
  | .ibexStore, .nats (a :: ws) =>
    let as := (List.range ws.length).map (· + a)
    if as.any (fun x => decide (472 ≤ x) && h.irigReserved) || as.any h.covered then (507, h)
    else (0, (as.zip ws).foldl (fun (h : Hw) p => h.storePut p.1 (BitVec.ofNat 32 p.2)) h)
  | .ibexChInject, .nat w =>
    if hn : k.i < 32 then
      if k.i = 31 && h.irigReserved then (507, h)
      else if (h.ibex.ch[k.i]).inj.isSome then (507, h) else (0, h.inject ⟨k.i, hn⟩ (BitVec.ofNat 24 w))
    else (0, h)
  | .ibexKidPattern, .nat n =>
    if hn : k.i < 8 then (0, h.updKid ⟨k.i, hn⟩ (fun c => { c with pattern := BitVec.ofNat 64 n })) else (0, h)
  | .ibexKidMask, .nat n =>
    if hn : k.i < 8 then (0, h.updKid ⟨k.i, hn⟩ (fun c => { c with mask := BitVec.ofNat 64 n })) else (0, h)
  | .ibexChEnable, v | .ibexChProg, v | .ibexChPins, v | .ibexChShift, v =>
    if hn : k.i < 32 then
      if k.i = 31 && h.irigReserved then (507, h) else code (h.chWords ⟨k.i, hn⟩ (chSetting h.ibex.ch[k.i] k.p v))
    else (0, h)
  | .ibexKidEnable, v | .ibexKidPin, v | .ibexKidClock, v | .ibexKidOnMatch, v | .ibexKidHoldoff, v =>
    if hn : k.i < 8 then code (h.kidWords ⟨k.i, hn⟩ (kidSetting h.ibex.kid[k.i] k.p v)) else (0, h)
  | _, _ => (0, h)

/-- The stem of a path is `ibex` and its value lives in the Ibex registers. -/
def isIbex (p : PathId) : Bool := stemOf p = "ibex" && decide (p ≠ .ibexPinPull)

/-- Apply the Mywi-set Ibex values, enables last (R97: the settings in effect). -/
def Hw.ibexApply (h : Hw) : Hw :=
  let l := h.sett.mywi.reverse.filter (fun e => isIbex e.1.p && decide (e.1.p ≠ .ibexChInject))
  let isEn := fun (e : Key × SVal) => decide (e.1.p = .ibexChEnable ∨ e.1.p = .ibexKidEnable)
  ((l.filter (fun e => !isEn e)) ++ l.filter isEn).foldl (fun (h : Hw) e => (h.ibexTake e.1 e.2).2) h

/-- Load the Ibex programs (R400) and apply the settings in effect. -/
def Hw.ibexSetup (h : Hw) : Hw := (h.ibexLoad (h.section_ 2)).ibexApply

/-- Set a domain's state. -/
def Hw.setDom (h : Hw) (d : Domain) (x : DomSt) : Hw := { h with pwr := { h.pwr with dom := h.pwr.dom.set d.idx x } }

/-! ## Leaving service -/

/-- A port's links drop, its frames are dropped and its registers take their reset values. -/
def Hw.portClear (h : Hw) (p : Fin 4) : Hw :=
  let h := (List.finRange 4).foldl (fun (h : Hw) (k : Fin 4) =>
    if ((h.port.p[p]).lanes[k]).st = .up then h.laneDown p k else h.lpDrop (lpNo p k)) h
  h.updPort p (fun _ => {})

/-- A pipeline group's pipelines are empty and its counters 0. -/
def Hw.groupClear (h : Hw) (g : Fin 4) : Hw :=
  let h := (List.finRange 16).foldl (fun (h : Hw) (q : Fin 16) =>
    if q.val / 4 = g.val then h.updPipe q (fun _ => {}) else h) h
  { h with prong := { h.prong with cnt := h.prong.cnt.set g (Vector.replicate 18 0) } }

/-- Every pipeline group; what lies outside them in the PIPE domain goes too. The NTS ring and its epoch are in Keep
bank 7. -/
def Hw.pipeClear (h : Hw) : Hw :=
  let h := (List.finRange 4).foldl (fun (h : Hw) (g : Fin 4) => h.groupClear g) h
  { h with prong := { h.prong with reload := none, switch := none, grants := [], lateAt := none } }

/-- The Seal unit loses its queues, slots, counters and replies; keys, the journal head and its indices are kept in Keep
bank 7. -/
def Hw.sealClear (h : Hw) : Hw :=
  let u := h.sealU
  { h with sealU := { ({} : SealSt) with
      keys := u.keys, replies := u.replies, busy := u.busy, next := u.next, ack := u.ack, rel := u.rel, head := u.head,
      chain := u.chain,
      markArmed := u.markArmed, fullEpisode := u.fullEpisode, uceSeq := u.uceSeq, lostCnt := u.lostCnt,
      lostPend := u.lostPend, lostType := u.lostType, refusals := u.refusals, lastSignOk := u.lastSignOk, damaged := u.damaged } }

/-- One Lattice link returns to its reset values. -/
def Hw.latClear (h : Hw) (n : Fin 4) : Hw := ((h.latLose n).updLink n (fun _ => {})).regsFresh (fun o => inRegs (0xB00100 + 0x40 * n.val) 0x40 o)

/-- The whole Lattice; an EID once held is kept (R336). -/
def Hw.latClearAll (h : Hw) : Hw :=
  let h := (List.finRange 4).foldl (fun (h : Hw) (n : Fin 4) => h.latClear n) h
  { h with lat := { ({} : LatSt) with eid := h.lat.eid, assigned := h.lat.assigned, eidNext := h.lat.eidNext, sent := h.lat.sent } }

/-- One Deckline segment returns to its reset values, role off. -/
def Hw.deckClear (h : Hw) (n : Fin 2) : Hw :=
  let sent := (h.dk n).sent
  ((h.updDk n (fun _ => { ({} : DkSt) with sent := sent })).updRef (deckIn n) (fun r => { r with alive := false, qual := 0 })).regsFresh
    (fun o => inRegs (dkOff n 0) 0x10000 o)

/-- REF drops: inputs, outputs and the Caliper start afresh; the TAI-UTC offsets held are kept (R436). -/
def Hw.refClear (h : Hw) : Hw :=
  { h with
    ref := { ins := h.ref.ins.map (fun r => { ({} : RefIn) with utcHeld := r.utcHeld, utcSaid := r.utcSaid }), sel := none }
    out := {}
    cal := {}
    steer := { h.steer with
      lock := false, acquiring := false, slewing := false, predict := false, oscOk := false, uloop := max32, errs := [],
      lastUpd := none, smallAt := none, freqs := [], intStart := none } }

/-- Store loses its contents and ECC state. -/
def Hw.storeClear (h : Hw) : Hw :=
  { h with store := [], sys := { h.sys with ceWords := [], uceWords := [], ceCnt := 0, uceCnt := 0, uceAddr := 0 } }

/-- The islands of a domain start unanchored (R57). -/
def Hw.islandsFresh (h : Hw) (d : Domain) : Hw :=
  { h with wave := { h.wave with isl := Vector.ofFn (fun (n : Fin 48) => if islandDomain n = d then {} else h.wave.isl[n]) } }

/-- What a domain loses when its power switch opens. A segment keeps its role, which its vote rests on (R376). Store keeps its contents in self-refresh (R63), KEEP its state in
retention (R432): their loss in BED and OFF is `storeClear` and the restart. -/
def Hw.domClear (h : Hw) (d : Domain) : Hw :=
  let h := ((h.islandsFresh d).tallyDomain d false).regsFresh (fun o => decide (d ≠ .keep ∧ bar0Domain o = some d))
  match d with
  | .port => (List.finRange 4).foldl (fun (h : Hw) (p : Fin 4) => h.portClear p) h
  | .pipe => h.pipeClear
  | .seal => h.sealClear
  | .lat => h.latClearAll
  | .deck => (List.finRange 2).foldl (fun (h : Hw) (n : Fin 2) =>
      let role := (h.dk n).role
      (h.deckClear n).updDk n (fun d => { d with role := role })) h
  | .ibex => { h with ibex := { pinIn := h.ibex.pinIn } }
  | .ref => h.refClear
  | .aon | .keep | .store => h

/-! ## Entering service -/

/-- A port takes its mode; its lanes wait for signal. -/
def Hw.portSetup (h : Hw) (p : Fin 4) : Hw := h.updPort p (fun q => { q with mode := h.effN .portPMode p, lanes := Vector.replicate 4 {} })

/-- A segment takes its role. -/
def Hw.deckSetup (h : Hw) (n : Fin 2) : Hw := h.takeRole n (h.effN .deckDkRole n)

/-- Outputs and Caliper channels take their settings. -/
def Hw.refSetup (h : Hw) : Hw :=
  let h := (List.range 13).foldl (fun (h : Hw) o => h.outTouch o) h
  (List.finRange 40).foldl (fun (h : Hw) (c : Fin 40) => h.calTouch c) h

/-- Configuration of a domain's blocks at its release (R97, R400, R432). -/
def Hw.domSetup (h : Hw) (d : Domain) : Hw :=
  let h := (h.islandsFresh d).tallyDomain d true
  match d with
  | .port => (List.finRange 4).foldl (fun (h : Hw) (p : Fin 4) => h.portSetup p) h
  | .deck => (List.finRange 2).foldl (fun (h : Hw) (n : Fin 2) => h.deckSetup n) h
  | .ibex => h.ibexSetup
  | .ref => h.refSetup
  | .aon | .keep | .pipe | .seal | .lat | .store => h

end Sys2Proof.Machine
end

