-- ==== Sys2Proof/Machine/Sessions.lean ====
section
/-!
DEFINITION. Mywi sessions (chapter 7): their start and end, what they send, roles, and the mailbox rings that carry the
mailbox session's bytes (R133, R136, R142 to R146, R149, R150, R155, R159, R160).
-/
set_option autoImplicit false

namespace Sys2Proof.Machine

/-! ## What a session sends -/

/-- CRC-16/CCITT-FALSE (R141). -/
def crc16 (l : List Byte) : Nat :=
  l.foldl (fun (c : Nat) b => (List.range 8).foldl (fun (c : Nat) k =>
    let top := decide (32768 ≤ c) != b.getLsbD (7 - k)
    let c := c * 2 % 65536
    if top then c ^^^ 0x1021 else c) c) 0xFFFF

/-- Uppercase hexadecimal. -/
def upperHex (w n : Nat) : String := String.ofList ((hexPad w n).toList.map Char.toUpper)

/-- A line with its check suffix (R141, R142) and terminator (R136). -/
def Session.sealLine (s : Session) (ses : Nat) (l : String) : List Char :=
  let l := if s.check = 0 then l else l ++ ";c=" ++ upperHex 4 (crc16 (asciiBytes l))
  l.toList ++ (if ses = 0 then ['\r', '\n'] else ['\n'])

/-- The prompt, when it is on and no check is appended. -/
def Session.promptText (s : Session) : List Char := if s.prompt ∧ s.check = 0 then "vilsia> ".toList else []

/-- Put characters into the output buffer. -/
def Session.put (s : Session) (l : List Char) : Session := { s with out := s.out ++ l }

/-- The size of the output buffer (R163). -/
def outSize : Nat := 16384

/-- The output buffer is full. -/
def Session.blocked (s : Session) : Bool := decide (outSize ≤ s.out.length)

/-- The characters of the partial line, as echo resends them (R164). -/
def Session.partialLine (s : Session) : List Char :=
  (s.inBuf.reverse.takeWhile (fun (x : InItem) => decide (x ≠ .byte 0x0A))).reverse.filterMap
    (fun (x : InItem) => match x with | .byte b => some (Char.ofNat b.toNat) | .bad _ => none)

/-- Move queued notices into the output buffer while they fit: the count of lost ones first; the prompt, and with echo the
partial line, again after them (R144, R145, R164). -/
def Session.sendNotices (s : Session) (ses : Nat) : Session :=
  if s.queue.isEmpty ∨ s.blocked ∨ s.waiting then s
  else
    let (k, o) := s.queue.foldl (fun (a : Nat × List Char) (l : String) =>
      let t := a.2 ++ s.sealLine ses l
      if a.1 = 0 ∧ (s.out ++ t).length ≤ outSize then (0, t) else (a.1 + 1, a.2))
      (0, if s.lost = 0 then [] else s.sealLine ses ("!mywi.lost count=" ++ toString s.lost))
    { s with
      queue := s.queue.drop (s.queue.length - k), lost := 0
      out := s.out ++ o ++ s.promptText ++ (if s.echo then s.partialLine else []) }

/-- A response (R140, R143, R144): body lines and the terminal line, each with the tag, then the prompt. -/
def Session.answer (s : Session) (ses : Nat) (tag : String) (body : List String) (term : String) : Session :=
  let pre := if tag = "" then "" else "#" ++ tag ++ " "
  let s := (body ++ [term]).foldl (fun (s : Session) l => s.put (s.sealLine ses (pre ++ l))) s
  s.put s.promptText

/-- The terminal line of a code; 0 is `.ok`. -/
def terminal (code : Nat) : String := if code = 0 then ".ok" else ".err E" ++ decPad 3 code

/-! ## The mailbox rings (R159, R160) -/

/-- The byte at position `j` of a mailbox ring. -/
def mbxByte (m : List (Nat × Word)) (j : Nat) : Byte :=
  BitVec.ofNat 8 ((sparseGet (0 : Word) (j % 4096 / 4) m).toNat / 256 ^ (j % 4))

/-- Write one byte of a ring. -/
def mbxPut (m : List (Nat × Word)) (j : Nat) (b : Byte) : List (Nat × Word) :=
  let k := j % 4096 / 4
  let w := (sparseGet (0 : Word) k m).toNat
  let p := 256 ^ (j % 4)
  sparseSet (0 : Word) k (BitVec.ofNat 32 (w - w / p % 256 * p + b.toNat * p)) m

/-- Write bytes from position `j` on. -/
def mbxPutAll (m : List (Nat × Word)) (j : Nat) : List Byte → List (Nat × Word)
  | [] => m
  | b :: r => mbxPutAll (mbxPut m j b) (j + 1) r

/-- The first whole thing an output buffer holds: a prompt, or what ends with LF. -/
def outChunk (l : List Char) : List Char :=
  if l.take 8 = "vilsia> ".toList then l.take 8
  else
    let a := l.takeWhile (· ≠ '\n')
    l.take (a.length + 1)

/-- A word padded to a multiple of 4 bytes with 0x00. -/
def padWord (l : List Byte) : List Byte := l ++ List.replicate ((4 - l.length % 4) % 4) 0

/-- Set bits of GLOBAL_MBX_EVT; vector 63 follows OUT_DATA and IN_DRAINED (R160). -/
def Hw.setMbx (h : Hw) (b : Nat) : Hw :=
  let h := { h with mywi := { h.mywi with mbxEvt := h.mywi.mbxEvt ||| fld b 1 } }
  if b < 2 ∧ h.mywi.mbxIrqEn then h.sendVec 63 else h

/-- Copy whole lines and prompts of the mailbox session into the output ring while they fit. -/
def Hw.mbxPump (h : Hw) : Nat → Hw
  | 0 => h
  | n + 1 =>
    let s := h.mywi.sess[(2 : Fin 11)]
    let c := outChunk s.out
    let l := padWord (c.map (fun x => BitVec.ofNat 8 x.toNat))
    let used := (h.mywi.mbxOutProd - h.mywi.mbxOutCons).toNat
    if c.isEmpty ∨ 4096 < used + l.length then h
    else
      let h := h.updSes 2 (fun s => { s with out := s.out.drop c.length })
      let h := { h with mywi := { h.mywi with
        mbxOut := mbxPutAll h.mywi.mbxOut h.mywi.mbxOutProd.toNat l
        mbxOutProd := h.mywi.mbxOutProd + BitVec.ofNat 32 l.length } }
      ((h.setMbx 0).tcount 17 6 l.length).mbxPump n

/-- Send what waits on a session: notices, then the mailbox copy. -/
def Hw.pump (h : Hw) (ses : Fin 11) : Hw :=
  let h := h.updSes ses (fun s => if s.openS then s.sendNotices ses.val else s)
  if ses = 2 then h.mbxPump 512 else h

/-- Count an answered line and its error family (Table 23.6's registers). -/
def Hw.countLine (h : Hw) (code : Nat) : Hw :=
  let h := { h with mywi := { h.mywi with lines := incSat h.mywi.lines } }
  let f := code / 100
  if hf : 1 ≤ f ∧ f ≤ 9 then
    let k : Fin 9 := ⟨f - 1, by omega⟩
    { h with mywi := { h.mywi with errs := h.mywi.errs.set k (incSat h.mywi.errs[k]) } }
  else h

/-- Answer a line of a session. -/
def Hw.respond (h : Hw) (ses : Fin 11) (tag : String) (body : List String) (code : Nat) : Hw :=
  ((h.countLine code).updSes ses (fun s => s.answer ses.val tag body (terminal code))).pump ses

/-! ## Start and end -/

/-- The lockout and record index of a session's transport: CON0, HSPI, mailbox, MGMT. -/
def transOf (ses : Fin 11) : Fin 4 := if p : ses.val < 3 then ⟨ses.val, by omega⟩ else 3

/-- The transport byte of R151. -/
def transCode (ses : Fin 11) : Nat := (transOf ses).val + 1

/-- The name of a mode (Table 2.1). -/
def modeName (m : Nat) : String := if m = 1 then "authority" else if m = 2 then "relay" else if m = 3 then "voyage" else "none"

/-- `!mywi.hello` (R155). -/
def Hw.hello (h : Hw) (ses : Fin 11) : String :=
  "!mywi.hello part=TV4096 fw=0x" ++ hexPad 8 h.fwVersion ++ " mode=" ++ modeName h.sys.runMode ++ " eid=" ++
  eidText h.ownEid ++ " transport=" ++ transportName ses.val

/-- A session starts with the defaults of Table 7.7, `!mywi.hello` and the prompt; what an earlier session of a serial
transport sent still leaves first. -/
def Hw.startSes (h : Hw) (ses : Fin 11) : Hw :=
  let s : Session :=
    { openS := true, echo := decide (ses = 0), lastLine := h.time.up, out := if ses.val < 3 then (h.mywi.sess[ses]).out else [] }
  let t := h.hello ses
  (h.updSes ses (fun _ => (s.put (s.sealLine ses.val t)).put s.promptText)).pump ses

/-- A role ends: an open transaction is discarded, and the account and nonce with it (R150, R461). -/
def Session.roleEnd (s : Session) : Session := { s with role := 0, account := none, txn := none, queue := [], lost := 0 }

/-- A session ends; what it has sent still leaves. A commit it has in progress goes on without it. -/
def Hw.endSes (h : Hw) (ses : Fin 11) : Hw :=
  let h := h.updSes ses (fun s => { out := s.out })
  let drop := fun (c : Commit) => if c.ses = some ses.val then { c with ses := none } else c
  { h with txn := { h.txn with commit := h.txn.commit.map drop, more := h.txn.more.map drop } }

/-- Every session ends and Mywi closes; the mailbox indices return to 0 with RESTART set. -/
def Hw.closeMywi (h : Hw) : Hw :=
  let h := (List.finRange 11).foldl (fun (h : Hw) (i : Fin 11) => h.endSes i) h
  { h with mywi := { h.mywi with
    openM := false, mbxInProd := 0, mbxInCons := 0, mbxOutProd := 0, mbxOutCons := 0, mbxResetBusy := false
    mbxEvt := h.mywi.mbxEvt ||| 0x10 } }

/-- Mywi opens: sessions start on CON0, HSPI and the mailbox (R155, Table 7.1). -/
def Hw.openMywi (h : Hw) : Hw :=
  if h.mywi.openM then h
  else (((({ h with mywi := { h.mywi with openM := true, hspiRdy := true } }).startSes 0).startSes 1).startSes 2)

/-- Notices queued for new sessions go to the first session that logs in (R146). -/
def Hw.giveQueued (h : Hw) (ses : Fin 11) : Hw :=
  let l := h.note.forNew
  let h := { h with note := { h.note with forNew := [] } }
  l.foldl (fun (h : Hw) n => h.updSes ses (fun s => s.enqueue n.line)) h

/-- A session takes a role. -/
def Hw.takeRoleSes (h : Hw) (ses : Fin 11) (role : Nat) (account : Option String) : Hw :=
  (h.updSes ses (fun s => { s with role := role, account := account })).giveQueued ses

/-- Some session holds custodian. -/
def Hw.custodianHeld (h : Hw) : Bool := h.mywi.sess.toList.any (fun s => s.openS && decide (s.role = 3))

/-! ## Bytes received (R133, R134, R156, R162, R164) -/

/-- The size of the input buffer (R162). -/
def inSize : Nat := 4096

/-- The bytes an input buffer holds. -/
def Session.inUsed (s : Session) : Nat := (s.inBuf.filter (fun (x : InItem) => match x with | .byte _ => true | .bad _ => false)).length

/-- The items of the partial line, and those before it. -/
def Session.partialItems (s : Session) : List InItem :=
  (s.inBuf.reverse.takeWhile (fun (x : InItem) => decide (x ≠ .byte 0x0A))).reverse

/-- Remove the last byte of a list of items, latest first; error marks stay. -/
def dropByte : List InItem → List InItem
  | .byte _ :: r => r
  | x :: r => x :: dropByte r
  | [] => []

/-- Put an item at the end of the input buffer. -/
def Session.item (s : Session) (x : InItem) : Session := { s with inBuf := s.inBuf ++ [x] }

/-- Send a byte back, with echo on. -/
def Session.echoed (s : Session) (l : List Char) : Session := if s.echo then s.put l else s

/-- One byte of the input stream. A line beyond 1,024 bytes, and one that finds the buffer full, loses its bytes up to and
including the next LF and keeps the mark of its error. -/
def Session.takeByte (s : Session) (b : Byte) (now : Nat) : Session :=
  let part := s.partialItems
  if b = 0x0A then ({ (if s.skip then s else s.echoed ['\n']) with skip := false, lastLine := now }).item (.byte b)
  else if s.skip then s
  else if inSize ≤ s.inUsed then { s.item (.bad 503) with skip := true }
  else if s.echo ∧ (b = 0x08 ∨ b = 0x7F) then
    if (part.filter (fun (x : InItem) => match x with | .byte _ => true | .bad _ => false)).isEmpty then s
    else { s with inBuf := s.inBuf.take (s.inBuf.length - part.length) ++ (dropByte part.reverse).reverse }.put
      [Char.ofNat 8, ' ', Char.ofNat 8]
  else if 1023 ≤ (part.filter (fun (x : InItem) => match x with | .byte _ => true | .bad _ => false)).length then
    { s.item (.bad 702) with skip := true }
  else (s.item (.byte b)).echoed [Char.ofNat b.toNat]

/-- Discard the partial line (R156). -/
def Session.dropPartial (s : Session) : Session :=
  { s with inBuf := s.inBuf.take (s.inBuf.length - s.partialItems.length), skip := false }

/-- A byte for a session; while Mywi is closed, or no session is open, it is discarded (R155). -/
def Hw.takeByte (h : Hw) (ses : Fin 11) (b : Byte) : Hw :=
  h.updSes ses (fun s => if h.mywi.openM ∧ s.openS then s.takeByte b h.time.up else s)

/-- An account name as 16 bytes of a journal record. -/
def accountBytes (a : Option String) : List Byte := padTo 16 (asciiBytes (a.getD ""))

end Sys2Proof.Machine
end

