-- ==== Sys2Proof/Machine/Effects.lean ====
section
/-!
DEFINITION. What a setting does when it is set or cleared through Mywi: the tests of its block (test 8 of Table 7.4), the
value it takes, and what follows at once (R458, Table 22.1).
-/
set_option autoImplicit false

namespace Sys2Proof.Machine

/-! ## Instances the configuration provides (R266) -/

/-- A port's mode provides a logical port. -/
def Hw.lpProvided (h : Hw) (p k : Nat) : Bool :=
  (modeRow (h.effN .portPMode p)).lanes.any (fun l => decide (l.head? = some k))

/-- A path names a logical port. -/
def isLp (p : PathId) : Bool := (p.row.pat.getD 2 (.lit "")) = .num "l" 4

/-- The instance a key names is one that the running configuration provides. -/
def Hw.provided (h : Hw) (k : Key) : Bool := !(stemOf k.p = "port" && isLp k.p) || h.lpProvided k.i k.j

/-! ## Tests of the state (R34, R98, R218, R265, R287, R382, R399, R405, R457) -/

/-- The factory IRIG-B program stands in the IBEX section of the slot in use, or no section does (R125, R218). -/
def Hw.irigPresent (h : Hw) : Bool :=
  match h.section_ 2 with
  | none => true
  | some l =>
    let i := imageIbex l
    (List.range 40).all (fun k => decide (sparseGet (0 : Word) (472 + k) i.store = Config.factoryHerd (472 + k)))

/-- A path belongs to a block that is being reset (R98). -/
def Hw.keyInReset (h : Hw) (k : Key) : Bool :=
  h.sys.inReset.any (fun b => match b with
    | .port p => stemOf k.p = "port" && decide (rowCounts k.p.row ≠ [] ∧ k.i = p.val)
    | .group _ => false
    | .lat n => stemOf k.p = "lat" && decide (rowCounts k.p.row ≠ [] ∧ k.i = n.val)
    | .deck n => stemOf k.p = "deck" && decide (k.i = n.val)
    | .ibex => isIbex k.p
    | .dma => stemOf k.p = "dma"
    | .tally => stemOf k.p = "tally")

/-- A class B path that the commit in progress stages (R465). -/
def Hw.inWindow (h : Hw) (k : Key) : Bool :=
  match h.txn.commit with
  | some c => c.window && (c.itemsB.any (fun e => decide (e.1 = k)) || c.done.any (fun e => decide (e.1 = k)))
  | none => false

/-- Descriptor paths of the DMA: all but the ring's host index and `run`. -/
def dmaDescriptor (p : PathId) : Bool := stemOf p = "dma" && decide (p ≠ .dmaChRun ∧ p ≠ .dmaChHost)

/-- The state refuses a change of a path to a value: 0, or the E-code. -/
def Hw.stateTest (h : Hw) (k : Key) (v : SVal) : Nat :=
  if withheldPath h.sys.runMode k || withheldVal h.sys.runMode k v then 407
  else if h.keyInReset k || h.inWindow k then 501
  else if k.p.row.cls = .a && h.switchPending then 501
  else match k.p with
    | .utcSmear | .utcSmearWindow => if h.time.smear.isSome then 403 else 0
    | .outOEnable =>
      if k.i = 12 ∧ v = .nat 1 ∧ ¬ h.irigReserved then
        if !h.irigPresent then 411
        else if (h.ibex.ch[(31 : Fin 32)]).cfg0.getLsbD 27 || h.dmaLocked 15 then 503 else 0
      else 0
    | .portPMode => if h.portChanging then 501 else 0
    | .tallyRing => if h.tally.enable then 501 else 0
    | p =>
      if stemOf p = "dma" then
        if hn : k.i < 16 then
          if h.dmaReserved ⟨k.i, hn⟩ then 507
          else if dmaDescriptor p then
            if h.dmaLocked ⟨k.i, hn⟩ then 507
            else if (h.dma.ch[k.i]).check && !((h.dma.ch[k.i]).take p v).check then 303 else 0
          else 0
        else 0
      else if isIbex p then (h.ibexTake k v).1
      else 0

/-! ## What follows a new value -/

/-- The AON timer's next instant under its settings (R440). -/
def Hw.timerArm (h : Hw) : Hw :=
  let t : Option Nat := match h.eff ⟨.pwrWakeAt, 0, 0⟩ with
    | .nat ns => some (ns * auPerNs)
    | _ => none
  { h with pwr := { h.pwr with timer := t } }

/-- What follows at once when a setting that is in effect has changed. -/
def Hw.follow (h : Hw) (k : Key) : Hw :=
  match k.p with
  | .utcOffset => ({ h with time := { h.time with movedSetting := none } }).offConflictTest
  | .utcLeap => h.tableLeap
  | .utcSmear | .utcSmearWindow => h.lateSmearTest
  | .steerSlope => h.takeSlope
  | .journalMark | .journalHyst => h.jrnMark
  | .journalFull => h.policyRecord.jrnFull
  | .outClkFreq | .outClkStd | .outClkPhase | .outClkDelay => h.outTouch k.i
  | .outPulseDelay | .outPulsePeriod | .outPulseWidth | .outPulsePol | .outPulseOffset | .outPulseAlign
  | .outPulseMaxMove => h.outTouch (8 + k.i)
  | .noteSMask | .noteSIrq | .noteSMsix => if hs : k.i < 28 then h.reEval ⟨k.i, hs⟩ else h
  | .pwrGrazeEnable | .pwrSleep => h.withdrawTest
  | .pwrWakeAt | .pwrWakeEvery => h.timerArm
  | .deckDkSlots | .deckDkCoordSlot | .deckDkOpenMin =>
    if hn : k.i < 2 then h.updDk ⟨k.i, hn⟩ (fun d => if d.role = 1 then { d with dirty := true } else d) else h
  | .deckDkRole =>
    if hn : k.i < 2 then
      if (h.dk ⟨k.i, hn⟩).role ≠ h.effN .deckDkRole k.i then h.deckLeaving ⟨k.i, hn⟩ 1 else h
    else h
  | .evtTaskTSrc => if ht : k.i < 96 then h.setRoute ⟨k.i, ht⟩ (h.effL .evtTaskTSrc k.i) else h
  | .mywiCon0Baud => { h with mywi := { h.mywi with baudNext := some (h.effN .mywiCon0Baud, none) } }
  | .mgmtEnable =>
    if h.effB .mgmtEnable then h
    else (List.finRange 11).foldl (fun (h : Hw) (i : Fin 11) => if 3 ≤ i.val then h.endSes i else h) h
  | p =>
    if calWorks p then (if hc : k.i < 40 then h.calTouch ⟨k.i, hc⟩ else h)
    else if stemOf p = "tally" then h.tallyTake k (h.eff k)
    else if dmaDescriptor p then
      if hn : k.i < 16 then h.updDma ⟨k.i, hn⟩ (fun c => c.take p (h.eff k)) else h
    else h

/-- What follows from a value's change: Lattice links taken out of service send LEAVE (R331), a link whose carrier changes
starts afresh, and a lowered temperature threshold is tested at the next sample. -/
def Hw.followLat (old h : Hw) (k : Key) : Hw :=
  let out := fun (h : Hw) (reason : Nat) => (List.finRange 4).foldl (fun (h : Hw) (n : Fin 4) =>
    if old.latOn n && !h.latOn n then h.latOut n reason else h) h
  match k.p with
  | .latEnable => out h 2
  | .latLEnable => out h 1
  | .latLVia => if hn : k.i < 4 then h.latLose ⟨k.i, hn⟩ else h
  | .supplyTjWarn =>
    if h.effN .supplyTjWarn < old.effN .supplyTjWarn then { h with sys := { h.sys with tjArmed := true } } else h
  | _ => h

/-- Hold a value as Mywi-set and let what follows happen. -/
def Hw.put (h : Hw) (k : Key) (v : SVal) : Hw := Hw.followLat h ((h.setMywi k v).follow k) k

/-! ## The client table through Mywi (R282, R285) -/

/-- The key and family of an address as the table holds it: an IPv6 address by its first 64 bits. -/
def clientKeyOf (f a : Nat) : Bool × Nat := if f = 1 then (true, a / 2 ^ 64) else (false, a)

/-- Write an entry for an address; E503 when both of its ways are STATIC. -/
def Hw.clientSet (h : Hw) (f a cls st : Nat) : Except Nat Hw :=
  let (af, key) := clientKeyOf f a
  let flags := 1 + 2 * b2n af + 4 * (st % 2)
  match h.findClient af key with
  | some at_ => .ok ((h.putEntry at_ { h.entryAt at_ with flags := flags, cls := cls }).flushKey af key)
  | none =>
    match h.victim af key h.time.axis with
    | none => .error 503
    | some at_ =>
      let e : ClientEntry :=
        { key := key, flags := flags, cls := cls, tokens := h.effN .prongClassBurst cls * 1024,
          last := tableTime h.time.axis }
      .ok ((h.putEntry at_ e).flushKey af key)

/-- Remove an entry by its address; E405 when there is none. -/
def Hw.clientClear (h : Hw) (f a : Nat) : Except Nat Hw :=
  let (af, key) := clientKeyOf f a
  match h.findClient af key with
  | none => .error 405
  | some at_ => .ok ((h.putEntry at_ {}).flushKey af key)

/-- The size of the client table in Store (Table 3.4): 32 Mi buckets of 64 bytes. -/
def clientTableSize : Nat := 2147483648

/-- Remove every entry. -/
def Hw.clientClearAll (h : Hw) : Hw :=
  ({ h with
    store := h.store.filter (fun c => decide (clientTableSize ≤ c.1))
    sys := { h.sys with ceWords := h.sys.ceWords.filter (fun w => decide (clientTableSize ≤ w)),
                        uceWords := h.sys.uceWords.filter (fun w => decide (clientTableSize ≤ w)) } }).flushClass none

/-! ## The leap table (R514) -/

/-- Put one entry (day, direction) into a table of pairs in date order, replacing one of the same date. -/
def leapPut (d s : Nat) : List Nat → List Nat
  | a :: b :: r => if d < a then d :: s :: a :: b :: r else if d = a then d :: s :: r else a :: b :: leapPut d s r
  | _ => [d, s]

/-- Add the entries of a value to a table. -/
def leapMerge (old : List Nat) : List Nat → List Nat
  | d :: s :: r => leapMerge (leapPut d s old) r
  | _ => old

/-- Remove the entry of a date; none when it has none. -/
def leapDrop (d : Nat) : List Nat → Option (List Nat)
  | a :: b :: r => if a = d then some r else (leapDrop d r).map (fun l => a :: b :: l)
  | _ => none

/-! ## Executing a set -/

/-- `dma.chN.run`: start, abort, pause, resume by the position of the word. -/
def Hw.dmaRun (h : Hw) (n : Fin 16) (w : Nat) : Hw :=
  if w = 0 then h.dmaStartNow n else if w = 1 then h.dmaAbort n else if w = 2 then h.dmaPause n else h.dmaResume n

/-- Execute a `set` that has passed its tests: the new state, or the E-code of what its block refuses. A class A value is
staged for its switch instant (R287); a class R value waits (R512). -/
def Hw.execSet (h : Hw) (k : Key) (v : SVal) : Except Nat Hw :=
  match k.p, v with
  | .prongClient, .nats [f, a, c, s] => h.clientSet f a c s
  | .utcLeap, .nats l =>
    let old := h.effL .utcLeap
    .ok (h.put k (.nats (leapMerge old l)))
  | .evtSoft, .nat n => .ok (h.evtSoft (fld n 1))
  | .dmaChRun, .nat w => if hn : k.i < 16 then .ok (h.dmaRun ⟨k.i, hn⟩ w) else .ok h
  | .dmaChHost, .nat w => if hn : k.i < 16 then .ok (h.dmaHostPut ⟨k.i, hn⟩ (BitVec.ofNat 32 w)) else .ok h
  | .pmbMap, .str s => .ok { h with sys := { h.sys with pmbMapSet := some s } }
  | .journalFull, v => if (h.setMywi k v).freeSlots = 0 then .error 506 else .ok (h.put k v)
  | .latEid, v => .ok { h with sett := { h.sett with eidNext := some v } }
  | .portPMode, .nat m => if hp : k.i < 4 then .ok ((h.drainPort ⟨k.i, hp⟩).setMywi k v |>.startMode ⟨k.i, hp⟩ m) else .ok h
  | .ibexChInject, v => let r := h.ibexTake k v; if r.1 = 0 then .ok r.2 else .error r.1
  | p, v =>
    if k.p.row.cls = .a then .ok (h.stagePolicy (h.time.axis + 100 * auPerUs) [(k, v)])
    else if isIbex p then
      let r := h.ibexTake k v
      if r.1 = 0 then .ok (r.2.setMywi k v) else .error r.1
    else .ok (h.put k v)

/-- The value a `clear` gives a setting: its empty value, else the table's default (R474). -/
def clearedVal (k : Key) : SVal :=
  match k.p with
  | .utcOffset | .mywiAccount | .pwrWakeAt => .none
  | .utcLeap | .evtTaskTSrc | .deckDkSlots | .prongRule => .nats []
  | _ => factoryDefault k

end Sys2Proof.Machine
end

