-- ==== Sys2Proof/Machine/Boot.lean ====
section
/-!
DEFINITION. Resets, boot and restarts (chapters 2, 4, 5): supplies, the cold reset and what it keeps, the stages of boot,
the PMBus scan, the warm restart of Table 2.4, block resets, and the PCIe function's link and configuration.
-/
set_option autoImplicit false

namespace Sys2Proof.Machine

/-! ## What survives (Tables 1.7, 3.7, 5.2) -/

/-- Flash and OTP keep their contents with no supply. -/
def ImgSt.kept (m : ImgSt) : ImgSt :=
  { flash := m.flash, rollback := m.rollback, tkeyRevoked := m.tkeyRevoked, owners := m.owners,
    ownerRevoked := m.ownerRevoked }

/-- Flash and OTP as a loss of the supply or a cold reset leaves them: a write in progress ends where it is. -/
def Hw.cutWrite (h : Hw) : ImgSt × Hw :=
  match h.img.write with
  | none => (h.img.kept, h)
  | some w =>
    let (m, h) := h.writePart w
    (m.kept, h)

/-- The live supplies and pins, and what the aon island and Keep banks 6 and 7 hold of the system. -/
def SysSt.cold (s : SysSt) (src : Nat) : SysSt :=
  { aonUp := s.aonUp, lastCause := 1, coldSrc := src, railFail := s.railFail, pg := s.pg, xo32Ok := s.xo32Ok,
    aonMv := s.aonMv, aonMvReg := s.aonMvReg, aonLowArmed := s.aonLowArmed, pmbMapSet := s.pmbMapSet,
    perst := s.perst }

/-- The machine after a cold reset with its source (GLOBAL_BOOT.COLD_SRC): flash and OTP, GLOBAL_SUPPLY_EVT, the fitted
Tangent coefficients (R194), keys and journal head (R314), an assigned EID, and the times of the last transaction are
kept; Store is zero-filled; everything else takes its reset value. -/
def Hw.coldBase (h : Hw) (src : Nat) : Hw :=
  let u := h.sealU
  let (img, h) := h.cutWrite
  { ({} : Hw) with
    sys := h.sys.cold src
    note := { evt := (Vector.replicate 28 (0 : Word)).set 1 (h.note.evt[(1 : Fin 28)]) }
    steer := { fit := h.steer.fit }
    sealU := { keys := u.keys, next := u.next, ack := u.ack, rel := u.rel, head := u.head, chain := u.chain }
    lat := { eid := (if h.lat.assigned then h.lat.eid else none), assigned := h.lat.assigned }
    txn := { lastT := h.txn.lastT, lastEnd := h.txn.lastEnd, lastItems := h.txn.lastItems }
    img := img
    pwr := { wakeN := h.pwr.wakeN }
    ibex := { pinIn := h.ibex.pinIn }
    free := h.free }

/-- A cold reset, while VDD_AON is up. -/
def Hw.coldReset (h : Hw) (src : Nat) : Hw := h.when h.sys.aonUp (fun h => h.coldBase src)

/-- COLD_RESET (R93): RESET_N has been low for 1 us or longer and rises. -/
def execColdReset (s : State) : Host.Outcome State Fault Refusal := s.on (fun h => h.coldReset 1)

/-- POWER_ON (R84): VDD_AON rises through V_BOR to `mv`. -/
def execPowerOn (mv : Nat) (s : State) : Host.Outcome State Fault Refusal :=
  s.on (fun h => h.when (!h.sys.aonUp) (fun h =>
    { ({} : Hw) with img := h.img.kept, sys := { aonMv := mv }, free := h.free }))

/-- VDD_AON_FALL_BELOW_V_BOR (R84): the aon island is held in reset and all state is lost. -/
def execVddAonFallBelowVBor (s : State) : Host.Outcome State Fault Refusal :=
  s.on (fun h =>
    let (img, h) := h.cutWrite
    { ({} : Hw) with img := img, sys := { aonUp := false, aonMv := 0 }, free := h.free })

/-! ## Supplies -/

/-- The engine is in GRAZE, BED or OFF, where notices wait for the wake. -/
def Hw.asleep (h : Hw) : Bool := decide (h.pwr.st ≠ .full ∧ h.pwr.st ≠ .trim)

/-- AON_LOW (R85): VDD_AON has fallen to `mv`, below `supply.aon_warn_mv`. -/
def execAonLow (mv : Nat) (s : State) : Host.Outcome State Fault Refusal :=
  s.on (fun h => h.when (h.sys.aonUp && decide (mv < h.effN .supplyAonWarnMv)) (fun h =>
    let h := { h with sys := { h.sys with aonMv := mv, aonMvReg := (if h.asleep then h.sys.aonMvReg else mv) } }
    if !h.sys.aonLowArmed then h
    else
      let h := { h with sys := { h.sys with aonLowArmed := false } }
      if h.asleep then ({ h with sys := { h.sys with aonLowSay := true } }).setEvt 1 8
      else h.notice 1 8 "supply.aon_low" [("aon_mv", toString mv)]))

/-- AON_LOW_REARM (R85): after a W1C of AON_LOW, VDD_AON has risen 50 mV above the threshold. -/
def execAonLowRearm (mv : Nat) (s : State) : Host.Outcome State Fault Refusal :=
  s.on (fun h => h.when (h.sys.aonUp && decide (h.effN .supplyAonWarnMv + 50 ≤ mv)) (fun h =>
    { h with sys := { h.sys with
        aonMv := mv, aonMvReg := (if h.asleep then h.sys.aonMvReg else mv)
        aonLowArmed := h.sys.aonLowArmed || !(h.note.evt[(1 : Fin 28)]).getLsbD 8 } }))

/-- Table 4.3: the rail is required in the present state, and no acknowledged request has switched it off. -/
def Hw.railRequired (h : Hw) (r : Fin 8) : Bool :=
  !h.pwr.railsOff.getLsbD r &&
  (match h.pwr.st with
   | .full | .trim => true
   | .graze => decide (r ≠ 2 ∧ r ≠ 3)
   | .bed | .off => false)

/-- RAIL_FAIL (R86): a required rail loses power-good after t0. -/
def execRailFail (r : Fin 8) (s : State) : Host.Outcome State Fault Refusal :=
  s.on (fun h => h.when (h.sys.aonUp && decide (2 ≤ h.sys.stage) && h.railRequired r) (fun h =>
    let h := h.setEvt 1 r.val
    ({ h with sys := { h.sys with railFail := true, pg := h.sys.pg &&& ~~~(1#8 <<< r.val) } }).coldReset 2))

/-! ## Boot (Table 5.3) -/

/-- A stage of boot is reached, with its time after t0 in us. -/
def Hw.bootStage (h : Hw) (n us : Nat) : Hw :=
  { h with sys := { h.sys with stage := n, bootLog := h.sys.bootLog ++ [(n, us)] } }

/-- The time since t0 in us. -/
def Hw.sinceT0 (h : Hw) : Nat := h.time.up / auPerUs

/-- Stages whose times within the command are not known: free values. -/
def Hw.bootStages (h : Hw) (l : List Nat) : Hw :=
  l.foldl (fun (h : Hw) n => let (t, h) := h.fresh; h.bootStage n t) h

/-- A profile-only value as a number of 8 bytes (BOARD records). -/
def boardVal (v : SVal) : List Byte :=
  match v with
  | .nat n => beBytes 8 n
  | .int z => beBytes 8 (twos64 z)
  | _ => beBytes 8 0

/-- The board's oscillator as the loop uses it (R189). -/
def Hw.takeBoard (h : Hw) : Hw :=
  let k := h.effN .steerOscKind
  let f := h.effN .steerOscFreq
  let changed := h.sys.done && decide (k ≠ h.steer.oscKind ∨ f ≠ h.steer.oscFreq)
  let h := { h with steer := { h.steer with oscKind := k, oscFreq := f, oscFloor := h.effN .steerOscFloor } }
  if changed then ({ h with steer := { h.steer with samples := [], fit := none } }).setValid false "osc" else h

/-- A fixed EID of the settings, or the assigned one (R336). -/
def Hw.takeEid (h : Hw) : Hw :=
  let e := h.effN .latEid
  if e < 4095 then { h with lat := { h.lat with eid := some e, assigned := false } }
  else if h.lat.assigned then h
  else { h with lat := { h.lat with eid := none } }

/-- The first records of a boot: GENESIS with a new chain after power-on, RESET after a cold reset (R95, Table 15.8). -/
def Hw.bootRecords (h : Hw) : Hw :=
  if h.sealU.next = 0 then
    let (c, h) := h.fresh
    let id : BitVec 128 := BitVec.ofNat 128 c
    let h := { h with sealU := { h.sealU with chain := id } }
    h.journal 0x10 (beBytes 16 id.toNat ++ beBytes 32 identityFp.toNat ++ beBytes 4 h.fwVersion ++ beBytes 2 Config.silicon.toNat)
  else
    let u := h.sealU
    let lost := decide (u.ack < u.next)
    let h := { h with sealU := { u with ack := u.next, rel := u.next } }
    h.journal 0x11 (beBytes 1 h.sys.coldSrc ++ beBytes 8 (if lost then u.ack else 0) ++ beBytes 8 (if lost then u.next - 1 else 0))

/-- The settings of a mode: the image's records, return delays, board properties and EID (R103, R47, R48). -/
def Hw.takeProfile (h : Hw) (mode : Nat) : Hw :=
  let h := { h with sys := { h.sys with runMode := mode, bootMode := h.imageMode, skipped := [] } }
  ((h.applyProfile mode).takeDelays).takeBoard.takeEid

/-- BOOT_START (R99): from t0 to the settings commit. `sfdp`: the flash shows SFDP tables (R100); `osc`: an OSC_IN clock is
present. -/
def execBootStart (sfdp osc : Bool) (s : State) : Host.Outcome State Fault Refusal :=
  s.on (fun h => h.when (h.sys.aonUp && decide (h.sys.stage = 0)) (fun h =>
    let h := { h with
      time := { h.time with clockOn := osc, up := 0, axis := 0 }
      steer := { h.steer with oscOk := osc, oscSince := 0 }
      sys := { h.sys with pg := 0xFF }
      pwr := { h.pwr with dom := h.pwr.dom.set 1 DomSt.up } }
    let h := ((h.bootStage 0 0).bootStage 1 0).bootStage 2 0
    let h := h.bootStages [3, 4]
    let h := if sfdp then h.chooseSlot
      else (({ h with sys := { h.sys with qspiNone := true, factory := true, slot := 0 } }).bootSlot "factory" "qspi").fault 12
    let h := h.bootStages [5, 6]
    let h := h.takeProfile h.imageMode
    let (k, h) := h.fresh
    let h := ({ h with prong := { h.prong with hashKey := k } }).freshRing
    h.bootRecords.bootStages [7]))

/-! ## The PMBus scan (R106, R107) -/

/-- Nominal voltages of Table 4.2 in mV, in the order of GLOBAL_SUPPLY.PG. -/
def railNominal : List Nat := [750, 850, 900, 1200, 1050, 1800, 3300, 1800]

/-- A page's READ_VOUT lies within 5 % of a rail's nominal. -/
def nearRail (mv r : Nat) : Bool :=
  let n := railNominal.getD r 0
  decide ((if mv < n then n - mv else mv - n) * 20 ≤ n)

/-- Every page found: address, page and millivolts. -/
def scanPages (found : List (Nat × List Nat)) : List (Nat × Nat × Nat) :=
  found.flatMap (fun f => (List.range f.2.length).zip f.2 |>.map (fun p => (f.1, p.1, p.2)))

/-- The pages that match a rail. -/
def railPages (l : List (Nat × Nat × Nat)) (r : Nat) : List (Nat × Nat × Nat) := l.filter (fun p => nearRail p.2.2 r)

/-- The page of a rail under automatic matching: the only page that matches it, when it matches no other rail. -/
def autoPage (l : List (Nat × Nat × Nat)) (r : Nat) : Option (Nat × Nat) :=
  match railPages l r with
  | [p] => if (List.range 8).all (fun q => decide (q = r) || !nearRail p.2.2 q) then some (p.1, p.2.1) else none
  | _ => none

/-- The map in force at a scan: the one set through Mywi, else the record's (R107, R512). -/
def Hw.mapText (h : Hw) : String := h.sys.pmbMapSet.getD (h.effS .pmbMap)

/-- The rails and pages of a map text. -/
def mapEntries (s : String) : List (Nat × Nat × Nat) := match pmbMap s with | .ok l => l | .error _ => []

/-- The scan's result in GLOBAL_PMB_RAILS. -/
def Hw.takeScan (h : Hw) (found : List (Nat × List Nat)) : Hw :=
  let l := scanPages found
  let m := mapEntries h.mapText
  let mapped : Vector (Option (Nat × Nat)) 8 := Vector.ofFn (fun r =>
    if h.mapText = "" then autoPage l r.val else (m.find? (fun e => decide (e.1 = r.val))).map (fun e => e.2))
  let conf := (List.range 8).foldl (fun (b : BitVec 8) r =>
    if h.mapText = "" && !(railPages l r).isEmpty && (autoPage l r).isNone then b ||| (1#8 <<< r) else b) 0
  { h with sys := { h.sys with
      regs := found.map (fun f => { addr := f.1, pages := f.2 }), mapped := mapped, conflict := conf
      pmbMapSet := none } }

/-- PMBUS_SCAN (R106): the regulators that acknowledged with READ_VOUT of each page in mV, or a bus that stays stuck. -/
def execPmbusScan (found : List (Nat × List Nat)) (stuck : Bool) (s : State) : Host.Outcome State Fault Refusal :=
  s.on (fun h => h.when (decide (h.sys.stage = 7)) (fun h =>
    let h := if stuck then ({ h with sys := { h.sys with stuck := true, pmbMapSet := none } }).fault 16
      else h.takeScan found
    h.bootStage 8 h.sinceT0))

/-- R107: in a mode that permits the sleep states, an unmapped rail that they switch raises `pmb.rail` with F313. -/
def Hw.pmbRailTest (h : Hw) : Hw :=
  if h.sys.runMode = 3 ∧ h.railUnmapped then ((h.noticeKeep 2 4 "pmb.rail" []).fault 18).withdrawTest else h

/-! ## Release and the end of boot -/

/-- Every domain up. -/
def allUpDom : Vector DomSt 10 := Vector.replicate 10 DomSt.up

/-- BLOCK_RELEASE (R108). -/
def execBlockRelease (s : State) : Host.Outcome State Fault Refusal :=
  s.on (fun h => h.when (decide (h.sys.stage = 8)) (fun h =>
    let h := { h with
      pwr := { h.pwr with dom := allUpDom }
      sys := { h.sys with released := true }
      prong := { h.prong with serving := true } }
    let h := allDomains.foldl (fun (h : Hw) d => h.domSetup d) h
    let h := h.evtConfigure.dmaConfigure.tallyConfigure.takeSlope
    (h.pmbRailTest).bootStage 9 h.sinceT0))

/-- `supply.pg` with F302 on the boot that follows a rail failure (R86). -/
def Hw.railNotices (h : Hw) : Hw :=
  if !h.sys.railFail then h
  else
    let w := h.note.evt[(1 : Fin 28)]
    let h := { h with sys := { h.sys with railFail := false } }
    let h := (List.range 8).foldl (fun (h : Hw) r =>
      if w.getLsbD r then h.noticeKeep 1 r "supply.pg" [("rail", railNames.getD r "")] else h) h
    h.fault 14

/-- Every notice source is evaluated anew. -/
def Hw.reEvalAll (h : Hw) : Hw := (List.finRange 28).foldl (fun (h : Hw) (s : Fin 28) => h.reEval s) h

/-- BOOT_DONE (R105), `us` after t0. -/
def execBootDone (us : Nat) (s : State) : Host.Outcome State Fault Refusal :=
  s.on (fun h => h.when (decide (h.sys.stage = 9)) (fun h =>
    let h := h.bootStage 10 us
    let h := { h with
      sys := { h.sys with done := true, bootUs := BitVec.ofNat 32 (min us max32) }
      mywi := { h.mywi with baud := h.effN .mywiCon0Baud } }
    ((((h.noticeKeep 2 0 "boot.done" []).railNotices).openMywi).timerArm.withdrawTest).reEvalAll))

/-- OSC_ABSENT (R104): no OSC_IN clock within 2 s of t0. -/
def execOscAbsent (s : State) : Host.Outcome State Fault Refusal :=
  s.on (fun h => h.when (decide (2 ≤ h.sys.stage) && !h.time.clockOn && !h.steer.oscOk && !h.asleep) (fun h => h.fault 2))

/-! ## Warm restarts (Table 2.4) -/

/-- The conditions of R98, and an open split window (R467): restarts and resets are refused with E501. -/
def Hw.restartBusy (h : Hw) : Bool :=
  !h.sys.done || h.sys.restart.isSome || decide (h.sys.inReset ≠ []) ||
  (match h.txn.commit with | some c => c.window | none => false)

/-- t0: Mywi closes and new Seal requests are refused (R41, R43). -/
def Hw.startRestart (h : Hw) (kind : RestartKind) (mode trans ses : Nat) (account : String) : Hw :=
  let h := h.closeMywi
  { h with
    sys := { h.sys with
      changing := true
      restart := some { kind := kind, newMode := mode, t0 := h.time.up, transport := trans, session := ses,
                        account := account, oldMode := h.sys.runMode } }
    sealU := { h.sealU with busy := true }
    txn := { h.txn with commit := none, more := [] } }

/-- SEAL_PENDING_DRAINED (R41): t_s; a mode change appends its record, and Pronghorn stops admitting. -/
def execSealPendingDrained (s : State) : Host.Outcome State Fault Refusal :=
  s.on (fun h =>
    match h.sys.restart with
    | none => h
    | some r =>
      h.when (decide (r.phase = .draining ∧ h.sealPending = 0)) (fun h =>
        let h := if r.kind = .mode then
            h.journal 0x14 (beBytes 1 r.oldMode ++ beBytes 1 r.newMode ++ beBytes 1 r.transport ++ beBytes 1 r.session ++
              accountBytes (some r.account))
          else h
        { h with
          sys := { h.sys with restart := some { r with phase := .stopped, ts := h.time.axis } }
          prong := { h.prong with serving := false, switch := none } }))

/-- Mywi-set values that outlive a warm restart: what lives in blocks that Table 5.2 keeps. -/
def keptSetting (k : Key) : Bool :=
  stemOf k.p = "note" || stemOf k.p = "dma" || stemOf k.p = "evt" || stemOf k.p = "tally"

/-- The Mywi-set values after a warm restart: a waiting `lat.eid` takes effect, the one in effect is discarded (R38,
R512). -/
def Hw.restartMywi (h : Hw) : List (Key × SVal) :=
  let l := h.sett.mywi.filter (fun e => keptSetting e.1)
  match h.sett.eidNext with
  | some v => reassoc ⟨.latEid, 0, 0⟩ v l
  | none => l

/-- Keys whose value two machines may hold differently: those of their Mywi-set and profile values. -/
def changedKeys (old new : Hw) : List Key :=
  let l := (old.sett.mywi ++ old.sett.profile ++ new.sett.profile).map (fun (e : Key × SVal) => e.1)
  l.eraseDups.filter (fun k => decide (old.eff k ≠ new.eff k))

/-- A BOARD record for each profile-only value that a warm restart changes (R16, R189). -/
def Hw.boardRecords (old h : Hw) : Hw :=
  ((changedKeys old h).filter (fun k => decide (k.p.row.role = 4))).foldl (fun (h : Hw) k =>
    h.journal 0x15 (beBytes 4 (pathIdOf k) ++ boardVal (old.eff k) ++ boardVal (h.eff k))) h

/-- A port under its new mode: it leaves service, or is reconfigured when the mode differs. -/
def Hw.portRestart (old h : Hw) (p : Fin 4) : Hw :=
  if old.effN .portPMode p = h.effN .portPMode p then h
  else
    let h := h.portClear p
    if h.effN .portPMode p = 8 then h else h.portSetup p

/-- Domains without a vote drop; the others stay. -/
def Hw.dropUnheld (h : Hw) : Hw :=
  allDomains.foldl (fun (h : Hw) d =>
    if h.domUp d && !h.held d then (h.domClear d).setDom d .down else h) h

/-- Blocks take the settings of the restart (R38, R41): links and segments that leave say so, ports whose mode differs are
reconfigured, domains no client needs drop. -/
def Hw.reconfigure (old h : Hw) : Hw :=
  let h := (changedKeys old h).foldl (fun (h : Hw) k =>
    if k.p = .latEnable ∨ k.p = .latLEnable ∨ k.p = .deckDkRole then h else Hw.followLat h (h.follow k) k) h
  let h := (List.finRange 4).foldl (fun (h : Hw) (n : Fin 4) => if old.latOn n && !h.latOn n then h.latOut n 3 else h) h
  let h := (List.finRange 2).foldl (fun (h : Hw) (n : Fin 2) =>
    if (h.dk n).role ≠ h.effN .deckDkRole n then h.deckLeaving n 3 else h) h
  let h := (List.finRange 4).foldl (fun (h : Hw) (p : Fin 4) => Hw.portRestart old h p) h
  h.dropUnheld.settleState

/-- RESTART_BLOCKS_CONFIGURED (R41): a slot write is abandoned with the Warden, the slot in use is verified again, and blocks are configured under R38. -/
def execRestartBlocksConfigured (s : State) : Host.Outcome State Fault Refusal :=
  s.on (fun h =>
    match h.sys.restart with
    | none => h
    | some r =>
      h.when (decide (r.phase = .stopped)) (fun h =>
        let old := h.imageAbandon
        let h := if old.sys.qspiNone then old else old.chooseSlot
        let h := { h with sett := { h.sett with mywi := old.restartMywi, eidNext := none } }
        let h := h.takeProfile r.newMode
        let h := Hw.reconfigure old (Hw.boardRecords old h)
        let h := if r.kind = .mode then h.pmbRailTest else h
        { h.withdrawTest.reEvalAll with
          sys := { h.sys with
            restarts := incSat h.sys.restarts, lastCause := r.kind.code
            restart := some { r with phase := .configured } }
          mywi := { h.mywi with baud := h.effN .mywiCon0Baud, baudNext := none } }))

/-- SIGNING_RESUMES (R42): signing and serving resume, Mywi opens again, and a mode change is announced to new
sessions. With OSC_IN back after F130 the Axis clock starts at 0 s (R104). -/
def execSigningResumes (s : State) : Host.Outcome State Fault Refusal :=
  s.on (fun h =>
    match h.sys.restart with
    | none => h
    | some r =>
      h.when (decide (r.phase = .configured)) (fun h =>
        let start := !h.time.clockOn && h.steer.oscOk
        let h := { h with
          sys := { h.sys with restart := none, changing := false,
                              bootUs := BitVec.ofNat 32 (min max32 ((h.time.up - r.t0) / auPerUs)) }
          sealU := { h.sealU with busy := false }
          prong := { h.prong with serving := true }
          time := { h.time with clockOn := h.time.clockOn || start, axis := (if start then 0 else h.time.axis) } }
        let h := if r.kind = .mode then
            h.noticeKeep 0 0 "system.mode" [("old", modeName r.oldMode), ("new", modeName r.newMode), ("at", showAxis r.ts)]
          else h
        h.openMywi))

/-- OSC_IN_APPEARS (R104): after F130, a warm restart starts the Axis clock; before boot is done the clock starts at
once. -/
def execOscInAppears (s : State) : Host.Outcome State Fault Refusal :=
  s.on (fun h => h.when (decide (2 ≤ h.sys.stage) && !h.time.clockOn && !h.steer.oscOk && !h.asleep) (fun h =>
    let h := { h with steer := { h.steer with oscOk := true, oscSince := h.time.up } }
    if !h.sys.done then { h with time := { h.time with clockOn := true, axis := 0 } }
    else if h.sys.restart.isSome then h
    else h.startRestart .warm h.sys.runMode 0 0 ""))

/-- A restart of the Warden (R468, R469): every session ends, an image write is abandoned, and Mywi opens again; a commit
whose window is open goes on and says so, one that waits for its T is discarded with its bank switch. -/
def Hw.wardenRestart (h : Hw) : Hw :=
  let h := h.imageAbandon.closeMywi
  let h := { h with txn := { h.txn with more := [] } }
  let h := match h.txn.commit with
    | some c =>
      if c.window then { h with txn := { h.txn with commit := some { c with restarted := true } } }
      else { h with
        txn := { h.txn with commit := none }
        prong := { h.prong with switch := if c.itemsA = [] then h.prong.switch else none } }
    | none => h
  h.openMywi

/-- WARDEN_RESTART (R469): the Warden restarts on its own. -/
def execWardenRestart (s : State) : Host.Outcome State Fault Refusal :=
  s.on (fun h => h.when (h.sys.done && h.sys.restart.isNone && h.domUp .keep) (fun h => h.wardenRestart))

/-! ## Block resets (R97, Table 5.6) -/

/-- The Mywi name of a block. -/
def RstBlock.name : RstBlock → String
  | .port p => "port.p" ++ toString p.val
  | .group g => "prong.group" ++ toString g.val
  | .lat n => "lat.l" ++ toString n.val
  | .deck n => "deck.dk" ++ toString n.val
  | .ibex => "ibex"
  | .dma => "dma"
  | .tally => "tally"

/-- The running mode permits the block (Table 2.2). -/
def Hw.blockPermitted (h : Hw) : RstBlock → Bool
  | .port p => decide (h.sys.runMode ≠ 3 ∨ p.val < 2)
  | .group g => decide (h.sys.runMode ≠ 3 ∨ g = 0)
  | .deck _ => decide (h.sys.runMode ≠ 1)
  | .lat _ | .ibex | .dma | .tally => true

/-- Steps 1 and 2 of R97: admission stops and the block's registers return to their reset values. -/
def Hw.resetStart (h : Hw) (b : RstBlock) : Hw :=
  let h := match b with
    | .port p => h.portClear p
    | .group g => h.startReload g
    | .lat n => (h.latOut n 4).latClear n
    | .deck n => h.deckClear n
    | .ibex => { h with ibex := { pinIn := h.ibex.pinIn } }
    | .dma => h.dmaReset
    | .tally => h.tallyReset
  { h with sys := { h.sys with inReset := h.sys.inReset ++ [b] } }

/-- A block reset asked for: E407 where the mode does not permit the block, E504 for the only group in service (R290). -/
def Hw.resetTest (h : Hw) (b : RstBlock) : Nat :=
  if h.restartBusy then 501
  else if !h.blockPermitted b then 407
  else match b with
    | .group g =>
      if h.prong.reload.isSome then 501
      else if (List.finRange 4).all (fun k => decide (k = g) || !h.groupIn k) then 504
      else if !h.groupIn g then 407 else 0
    | _ => 0

/-- The bit of GLOBAL_BLOCK_RST: a block the mode does not permit raises `bus.reset_denied`; otherwise a refused bit has
no effect. -/
def Hw.resetByRegister (h : Hw) (l : List RstBlock) : Hw :=
  if h.restartBusy then h
  else l.foldl (fun (h : Hw) b =>
    if !h.blockPermitted b then h.notice 24 5 "bus.reset_denied" [("block", b.name)]
    else
      let t := match b with
        | .group g => decide (h.prong.reload.isNone) && h.groupIn g && (List.finRange 4).any (fun k => decide (k ≠ g) && h.groupIn k)
        | _ => true
      if t then h.resetStart b else h) h

/-- Step 3: the block is configured with the effective settings. -/
def Hw.resetEnd (h : Hw) (b : RstBlock) : Hw :=
  match b with
  | .port p => h.portSetup p
  | .group _ | .lat _ => h
  | .deck n => h.deckSetup n
  | .ibex => h.ibexSetup
  | .dma => h.dmaConfigure
  | .tally => h.tallyConfigure

/-- BLOCK_RESET_DONE (R97): the k-th block being reset is back in service; a group once its reload has returned. -/
def execBlockResetDone (k : Nat) (s : State) : Host.Outcome State Fault Refusal :=
  s.on (fun h =>
    match h.sys.inReset[k]? with
    | none => h
    | some b =>
      let waits := match b with
        | .group g => (match h.prong.reload with | some (r, _) => decide (r = g) | none => false)
        | _ => false
      h.when (!waits) (fun h =>
        let h := { h with sys := { h.sys with inReset := h.sys.inReset.eraseIdx k } }
        (h.resetEnd b).notice 2 2 "block.reset" [("block", b.name)]))

/-! ## The PCIe function (R66, R94, R490) -/

/-- Vectors with a pending routed source send, or set their pending bit, when MSI-X Enable becomes 1. -/
def Hw.sendAllVecs (h : Hw) : Hw :=
  (List.range 64).foldl (fun (h : Hw) v => if h.vecWanted v then h.sendVec v else h) h

/-- PCIE_PERST (R94): the level of PCIE_PERST_N. Low resets the endpoint and its configuration space only. -/
def execPciePerst (level : Bool) (s : State) : Host.Outcome State Fault Refusal :=
  s.on (fun h => h.when h.sys.aonUp (fun h =>
    if level then { h with sys := { h.sys with perst := false } }
    else
      { h with
        sys := { h.sys with perst := true, linkUp := false, busMaster := false, msixEn := false, msixMask := false,
                            d3hot := false, msixTab := [] }
        note := { h.note with pba := 0 } }))

/-- PCIE_LINK_CHANGE (R490): a link trains only with PCIE_PERST_N high and the endpoint running. -/
def execPcieLinkChange (up : Bool) (s : State) : Host.Outcome State Fault Refusal :=
  s.on (fun h =>
    if up then
      h.when (!h.sys.perst && h.domUp .keep && decide (2 ≤ h.sys.stage) && decide (h.pwr.railsOff &&& 0xC = 0)) (fun h =>
        ({ h with sys := { h.sys with linkUp := true } }).settleVecs)
    else { h with sys := { h.sys with linkUp := false } })

/-- PCIE_CONFIG_WRITE (R490): Bus Master Enable, MSI-X Enable, the function mask and the power state. -/
def execPcieConfigWrite (busMaster msixEn msixMask d3hot : Bool) (s : State) : Host.Outcome State Fault Refusal :=
  s.on (fun h => h.when h.sys.linkUp (fun h =>
    let was := h.sys.msixEn
    let h := { h with sys := { h.sys with busMaster := busMaster, msixEn := msixEn, msixMask := msixMask, d3hot := d3hot } }
    if msixEn && !was then h.sendAllVecs else h.settleVecs))

end Sys2Proof.Machine
end

