-- ==== Sys2Proof/Machine/Power.lean ====
section
/-!
DEFINITION. Power states (chapter 20): the entry and its abort points, voltage requests, the return, what a rest and a
Graze interval add to the uncertainty, the Graze steps, and the wake sources, the Wake port among them.
-/
set_option autoImplicit false

namespace Sys2Proof.Machine

/-! ## Time across a rest (R434 to R436) -/

/-- The keeper's time: Axis time, carried on through a rest in progress. -/
def Hw.keeperNow (h : Hw) : Nat :=
  match h.pwr.restAt with
  | some t => h.time.axis + (h.time.up - t)
  | none => h.time.axis

/-- The keeper's AXIS_SEC. -/
def Hw.keeperSec (h : Hw) : Nat := secOf h.keeperNow

/-- u_keep(b) of a rest of `b` model units (R435): 2 ns + (2 ns / span + s_x) b, in ps, as a quotient. -/
def Hw.keepBound (h : Hw) (b : Nat) : Int × Hw :=
  let span := max 1 h.pwr.fitSpan
  let unit := auPerPs * span * 1000000000000000000
  h.rnd (2000 * unit + 2000 * b * 1000000000000000000 + h.effN .pwrKeeperStab * b * span : Nat) unit

/-- A rest begins: the Axis clock stops and OSC_EN falls. -/
def Hw.startRest (h : Hw) : Hw :=
  { h with
    time := { h.time with clockOn := false }
    sys := { h.sys with oscEn := false }
    pwr := { h.pwr with restAt := some h.time.up } }

/-- A rest ends: the Axis counter is loaded from the keeper; U_SLEEP grows by the bound, d does not advance, the samples are
no longer of one continuous run, and a leap that fell due takes effect. -/
def Hw.endRest (h : Hw) : Hw :=
  match h.pwr.restAt with
  | none => h
  | some t0 =>
    let b := h.time.up - t0
    let (u, h) := h.keepBound b
    let h := { h with
      time := { h.time with clockOn := true, axis := h.time.axis + b, uSleep := min uncMax (h.time.uSleep + u.toNat),
                            leftAt := h.time.leftAt + b }
      sys := { h.sys with oscEn := true }
      steer := { h.steer with samples := [], oscSince := h.time.up }
      pwr := { h.pwr with restAt := none } }
    let h := h.setValid false "rest"
    match h.time.leap with
    | some l => if l.at_ ≤ h.sec then h.doLeap else h
    | none => h

/-! ## Voltage requests (R429, R430, Table 20.6) -/

/-- The rails of the groups of Table 5.1, in the order in which a return switches them on. -/
def railsUp : List (Fin 8) := [0, 1, 2, 4, 7, 3, 5, 6]

/-- The rails an entry switches off, in its order. -/
def Hw.railsDown (h : Hw) (p : PState) : List (Fin 8) :=
  (if p = .graze then [3, 2] else [3, 5, 6, 2, 4, 7, 1, 0]).filter
    (fun r => (h.sys.mapped[r]).isSome && !h.pwr.railsOff.getLsbD r)

/-- The rails that are off, in the order in which they come back. -/
def Hw.railsBack (h : Hw) : List (Fin 8) := railsUp.filter (fun r => h.pwr.railsOff.getLsbD r)

/-- Ask for rails to be switched on, after the requests already made. -/
def Hw.askBack (h : Hw) : Hw :=
  let l := h.railsBack.filter (fun r => !(h.pwr.reqs.any (fun (q : RailReq) => decide (q.rail = r ∧ q.on = true))))
  { h with pwr := { h.pwr with reqs := h.pwr.reqs ++ l.map (fun r => { rail := r, on := true }) } }

/-- A rail that a domain needs is off (R427). -/
def Hw.railsMissing (h : Hw) (d : Domain) : Bool :=
  (decide (d = .port) || decide (d = .lat)) && (h.pwr.railsOff.getLsbD 2 || h.pwr.railsOff.getLsbD 3)

/-! ## Wakes (Table 20.9) -/

/-- The name of a wake cause. -/
def wakeName (c : Nat) : String :=
  (["none", "timer", "wake_n", "wakeport", "deck", "cal", "window", "ref", "vote"][c]?).getD ""

/-- Table 20.9: the cause wakes from a state, or ends an entry into it. -/
def wakeAllowed (p : PState) (entry : Bool) (c : Nat) : Bool :=
  match p with
  | .graze => decide (1 ≤ c ∧ c ≤ 7) || (entry && decide (c = 8))
  | .bed => decide (1 ≤ c ∧ c ≤ 3) || (entry && decide (c = 8))
  | .off => decide (c = 2 ∨ c = 3) || (entry && decide (c = 8))
  | .full | .trim => false

/-- `pwr.wake` for one wake. -/
def Hw.sayWake (h : Hw) (w : Nat × Option Nat) : Hw :=
  h.notice 23 2 "pwr.wake" (("cause", wakeName w.1) :: (match w.2 with | some a => [("arg", toString a)] | none => []))

/-- The wakes that waited for KEEP are published (R440). -/
def Hw.sayWakes (h : Hw) : Hw :=
  let l := h.pwr.wakeSay
  l.foldl (fun (h : Hw) w => h.sayWake w) { h with pwr := { h.pwr with wakeSay := [] } }

/-- A return begins, from what KEEP has kept: OSC_EN rises, and from BED the voltage requests come first (R427). -/
def Hw.startReturn (h : Hw) (p : PState) : Hw :=
  let h := { h with
    sys := { h.sys with oscEn := true }
    pwr := { h.pwr with returning := true, retFrom := p, wokeAt := some h.time.up, retry := false } }
  if p = .graze then h else h.askBack

/-- A wake in the XO32 period of the one before it counts as the same: LAST_WAKE holds the lower code and both are
published. -/
def Hw.mergeWake (h : Hw) (c : Nat) : Hw :=
  match h.pwr.wokeAt with
  | some t =>
    if h.time.up < t + auPerSec / 32768 then
      { h with pwr := { h.pwr with lastWake := min h.pwr.lastWake c, wakeSay := h.pwr.wakeSay ++ [(c, none)] } }
    else h
  | none => h

/-- A wake event: it ends an entry at its next point, starts the return, adds to a wake of the same instant, or restarts
the idle timer of an engine that is awake. From OFF it is a cold reset (R442). -/
def Hw.wakeEvent (h : Hw) (c : Nat) : Hw :=
  if !h.sys.done then h
  else
    let mark := fun (h : Hw) =>
      { h with pwr := { h.pwr with lastWake := c, wakeSay := [(c, none)], wokeAt := some h.time.up } }
    match h.pwr.entering with
    | some p =>
      if !wakeAllowed p true c then h
      else if h.pwr.wakePend.isSome then h.mergeWake c
      else mark { h with pwr := { h.pwr with wakePend := some c } }
    | none =>
      if h.pwr.returning then (if wakeAllowed h.pwr.retFrom false c then h.mergeWake c else h)
      else if h.pwr.st = .full ∨ h.pwr.st = .trim then { h with pwr := { h.pwr with idleAt := none } }
      else if !wakeAllowed h.pwr.st false c then h
      else if h.pwr.st = .off then h.coldReset 4
      else (mark h).startReturn h.pwr.st

/-! ## The entry (R424 to R426, Table 20.3) -/

/-- The names of the abort points. -/
def pointName (p : Nat) : String := (["", "isolate", "save", "clamp", "voltage"][p]?).getD ""

/-- Domains that an entry isolates at point 1. -/
def dropFirst : List Domain := [.port, .pipe, .seal, .lat, .deck, .ibex]

/-- The work of a state in which the engine runs again after an entry: admission resumes and the idle timer restarts. -/
def Hw.endEntry (h : Hw) : Hw :=
  { h with
    sealU := { h.sealU with busy := h.sys.restart.isSome }
    pwr := { h.pwr with entering := none, wakePend := none, point := 0, idleAt := none, reqs := [], reqDone := [] } }

/-- An entry is abandoned at a point (R425, R430). -/
def Hw.abandon (h : Hw) (point : Nat) (cause : String) : Hw :=
  let target : PState := h.pwr.entering.getD PState.graze
  let h := { h.endEntry with pwr := { h.endEntry.pwr with abortCnt := incSat h.pwr.abortCnt } }
  let h := h.notice 23 1 "pwr.abort" [("point", pointName point), ("cause", cause)]
  if point < 4 then
    (allDomains.foldl (fun (h : Hw) d =>
      if h.pwr.dom[d.idx] = .isolated then h.setDom d (if d = .store then .starting false else .up) else h) h).sayWakes
  else
    let h := h.startReturn (if target = .graze then PState.graze else PState.bed)
    h.askBack

/-- The step of a point that has been passed. -/
def Hw.passPoint (h : Hw) (target : PState) : Nat → Hw
  | 1 =>
    let h := if target = .off then
        (List.finRange 2).foldl (fun (h : Hw) (n : Fin 2) => h.deckLeaving n 5)
          ((List.finRange 4).foldl (fun (h : Hw) (n : Fin 4) => if h.latOn n then h.latOut n 5 else h) h)
      else h
    dropFirst.foldl (fun (h : Hw) d => if h.domUp d then h.setDom d .isolated else h) h
  | 2 =>
    let h := { h with pwr := { h.pwr with retain := if target = .off then 0xC0 else BitVec.ofNat 16 (h.effL .keepRetain |>.foldl (fun a b => a ||| 2 ^ b) 0xC0) } }
    if target = .graze ∧ h.domUp .store then h.setDom .store .isolated else h
  | 3 =>
    let rest := decide (target ≠ .graze ∨ h.effN .pwrGrazeOsc = 1)
    let tables := h.cal.tables
    let h := { h with sys := { h.sys with linkUp := false } }
    let h := dropFirst.foldl (fun (h : Hw) d => (h.domClear d).setDom d .down) h
    let h := if rest then (h.domClear .ref).setDom .ref .down else h
    let h := if target = .graze then { h with cal := { h.cal with tables := tables } } else (h.domClear .store).storeClear
    let h := ((h.islandsFresh .keep).setDom .keep .down).setDom .store .down
    if rest then h.startRest else h
  | 4 => { h with pwr := { h.pwr with reqs := (h.railsDown target).map (fun r => { rail := r, on := false }), reqDone := [] } }
  | _ => h

/-- The entry is complete: the state is taken, and a wake that came after point 4 starts the return at once (R426). -/
def Hw.entered (h : Hw) (target : PState) : Hw :=
  let woken := h.pwr.wakePend
  let h := { h with
   sealU := { h.sealU with busy := false }
   pwr := { h.pwr with
    entering := none, wakePend := none, idleAt := none, reqDone := [], entryCnt := incSat h.pwr.entryCnt
    prevTemp := (if target = PState.graze then some (h.steer.temp, h.time.up) else h.pwr.prevTemp) } }
  let h := h.setPState target
  match woken with
  | none => h
  | some _ => if target = .off then h.coldReset 4 else h.startReturn target

/-- Every voltage request of the entry has been acknowledged. -/
def Hw.entryTest (h : Hw) : Hw :=
  match h.pwr.entering with
  | some target => if h.pwr.point = 4 ∧ h.pwr.reqs = [] then h.entered target else h
  | none => h

/-- The test before the next point, and its step. -/
def Hw.entryStep (h : Hw) (target : PState) : Hw :=
  let next := h.pwr.point + 1
  if 4 < next then h
  else match h.pwr.wakePend with
    | some c => h.abandon next (wakeName c)
    | none =>
      if next = 1 ∧ h.sealPending ≠ 0 then h
      else if next = 2 ∧ target = .bed ∧ h.sealU.ack < h.sealU.next then h.abandon 2 "journal"
      else ((({ h with pwr := { h.pwr with point := next } } : Hw).passPoint target next)).entryTest

/-- An entry begins: admission stops, and the votes then held are noted. -/
def Hw.startEntry (h : Hw) (target : PState) : Hw :=
  { h with
    sealU := { h.sealU with busy := true }
    pwr := { h.pwr with
      entering := some target, point := 0, wakePend := none, wakeSay := [], votes0 := allDomains.map (fun d => (h.votesWord d).toNat) } }

/-- A client holds a vote that it did not hold when the entry began (R426). -/
def Hw.newVote (h : Hw) : Bool :=
  ((allDomains.map (fun d => (h.votesWord d).toNat)).zip h.pwr.votes0).any (fun p => decide (p.1 &&& p.2 ≠ p.1))

/-- SLEEP_ENTRY (R423, R424): the entry begins, and each further occurrence passes the next point. -/
def execSleepEntry (s : State) : Host.Outcome State Fault Refusal :=
  s.on (fun h =>
    match h.pwr.entering with
    | some target => h.entryStep target
    | none =>
      h.when (h.sleepCond && h.passedO h.pwr.idleAt (h.effN .pwrIdle)) (fun h =>
        let target : PState := if h.effN .pwrSleep = 1 then .bed else .graze
        (h.startEntry target).entryStep target))

/-- `power off` (R442): refused with E501 under R98 and while the engine is not awake, and with E409 while a record is not
exported, unless forced. -/
def Hw.powerOffStart (h : Hw) (force : Bool) : Except Nat Hw :=
  if h.restartBusy || !h.awake then .error 501
  else if !force && decide (h.sealU.ack < h.sealU.next) then .error 409
  else .ok (h.startEntry .off)

/-! ## The return (R427, R428) -/

/-- The first of the free values that the words of a lost bank hold, and the bank's listed words gone (R64). -/
def Hw.loseBank (h : Hw) (b : Fin 16) : Hw :=
  let base := h.free
  let lo := 0x2000000 + 0x40000 * (b.val - 8)
  { h with
    free := h.free + 65536
    keepSeed := h.keepSeed.set b (some base)
    keep := if b.val < 8 then h.keep else h.keep.filter (fun c => decide (c.1 < lo ∨ lo + 0x40000 ≤ c.1)) }

/-- What a BED rest leaves of the KEEP domain (R433): time, keys, the key ring, the journal's head and indices, the fault
latches (R494) and the retained banks; its registers take their reset values. -/
def Hw.bedLoss (h : Hw) : Hw :=
  let kept := decide (h.pwr.retain &&& 0x3F = 0x3F)
  let h := (List.finRange 16).foldl (fun (h : Hw) (b : Fin 16) => if h.pwr.retain.getLsbD b then h else h.loseBank b) h
  let u := h.sealU
  let n := h.note
  { h with
    sealU := { keys := u.keys, next := u.next, ack := u.next, rel := u.next, head := u.head, chain := u.chain
               replies := u.replies, lastSignOk := u.lastSignOk, refusals := u.refusals }
    note := { evt := (((Vector.replicate 28 (0 : Word)).set 1 n.evt[(1 : Fin 28)]).set 23 n.evt[(23 : Fin 28)]).set 27 n.evt[(27 : Fin 28)]
              last := n.last, faultAt := n.faultAt, faultCnt := n.faultCnt, msiSent := n.msiSent }
    sys := { h.sys with
      restarts := 0, inReset := [], isoRaised := [], isoAddr := 0, ceCnt := 0, uceCnt := 0, uceAddr := 0, shadow := []
      staged := [], linkUp := false, busMaster := false, msixEn := false, msixMask := false, d3hot := false, msixTab := []
      tMax := 0, aonMvReg := h.sys.aonMv }
    sett := { h.sett with mywi := (if kept then h.sett.mywi else []), eidNext := (if kept then h.sett.eidNext else none) }
    evt := {}
    dma := {}
    tally := {}
    txn := { lastT := h.txn.lastT, lastEnd := h.txn.lastEnd, lastItems := h.txn.lastItems }
    mywi := {}
    img := { h.img with write := none } }

/-- The firmware that the ROM loads when banks 0 to 3 are not all retained matches FW_HASH (R433). -/
def Hw.firmwareOk (h : Hw) : Bool :=
  decide (h.pwr.retain &&& 0xF = 0xF) || (match h.slotUsed with | some s => h.img.hashesOk s | none => true)

/-- KEEP is released after BED: a Warden restart (R433). -/
def Hw.bedReturn (h : Hw) : Hw :=
  if !h.firmwareOk then h.coldReset 1
  else
    let kept := decide (h.pwr.retain &&& 0x3F = 0x3F)
    let h := h.bedLoss
    let h := if kept then h else h.takeProfile h.sys.runMode
    let h := { h with mywi := { h.mywi with baud := h.effN .mywiCon0Baud } }
    (h.evtConfigure.dmaConfigure.tallyConfigure.openMywi).reEvalAll

/-- KEEP is released: what waited for the wake is published, and a GRAZE return asks for its rails (R427, R440, R85). -/
def Hw.keepReleased (h : Hw) : Hw :=
  let h := if h.pwr.retFrom = .graze then h.askBack else h.bedReturn
  let h := h.sayWakes
  let h := { h with pwr := { h.pwr with wkStretch := false } }
  if h.sys.aonLowSay then
    ({ h with sys := { h.sys with aonLowSay := false } }).notice 1 8 "supply.aon_low" [("aon_mv", toString h.sys.aonMv)]
  else h

/-- The return is complete once KEEP, REF, STORE and every domain with a vote are released and no request waits. -/
def Hw.returnTest (h : Hw) : Hw :=
  if h.pwr.returning && decide (h.pwr.reqs = []) && h.domUp .store && allDomains.all (fun d => h.domUp d || !h.held d) then
    ({ h with pwr := { h.pwr with returning := false, point := 0, idleAt := none } } : Hw).setPState (if h.allUp then .full else .trim)
  else h

/-- A domain's return delay is running: its switch has closed (R427). -/
def Hw.isStarting (h : Hw) (d : Domain) : Bool :=
  match h.pwr.dom[d.idx] with
  | .starting _ => true
  | .up | .isolated => false
  | .down =>
    if d = .aon then false
    else if h.pwr.returning then
      match d with
      | .keep => decide (h.pwr.retFrom = .graze ∨ h.pwr.reqs = [])
      | .store | .ref => h.domUp .keep
      | _ => h.held d && h.domUp .store && !h.railsMissing d
    else h.awake && h.sys.done && h.held d

/-- A domain's power-good holds at the end of its delay: it is configured and released. -/
def Hw.domReleased (h : Hw) (d : Domain) : Hw :=
  let h := (h.setDom d .up).domSetup d
  let h := { h with sys := { h.sys with isoRaised := h.sys.isoRaised.filter (fun b =>
    if b = 100 then decide (d ≠ .store) else decide (bar0Domain (b * 0x100000) ≠ some d)) } }
  match d with
  | .keep => h.keepReleased
  | .ref => h.endRest
  | _ => h

/-- DOMAIN_RELEASE (R428): the end of a domain's delay, with its power-good. Absent: F304 and the delay once more; absent
again: a cold reset. -/
def execDomainRelease (d : Fin 10) (pg : Bool) (s : State) : Host.Outcome State Fault Refusal :=
  s.on (fun h =>
    let x := domainOf d
    let h := h.when (h.isStarting x) (fun h =>
      if pg then h.domReleased x
      else if h.pwr.dom[x.idx] = .starting true then h.coldReset 1
      else ((h.notice 23 4 "pwr.fault" [("code", "F304")]).fault 15).setDom x (.starting true))
    h.returnTest.settleState)

/-- DOMAIN_DROP (R422): a domain without votes isolates, then drops; a vote taken before that releases it at once. -/
def execDomainDrop (d : Fin 10) (s : State) : Host.Outcome State Fault Refusal :=
  s.on (fun h =>
    let x := domainOf d
    h.when (h.awake && h.sys.done && h.sys.restart.isNone) (fun h =>
      let h :=
        if h.domUp x then (if h.held x then h else h.setDom x .isolated)
        else if h.pwr.dom[x.idx] = .isolated then
          (if h.held x then h.setDom x .up else (h.domClear x).setDom x .down)
        else h
      h.settleState))

/-! ## The regulators' answers -/

/-- The first request has been acknowledged. -/
def Hw.reqAck (h : Hw) : Hw :=
  match h.pwr.reqs with
  | [] => h
  | q :: r =>
    let m : BitVec 8 := 1#8 <<< q.rail.val
    ({ h with pwr := { h.pwr with
        reqs := r, reqDone := q :: h.pwr.reqDone, retry := false
        railsOff := if q.on then h.pwr.railsOff &&& ~~~m else h.pwr.railsOff ||| m } } : Hw).entryTest.returnTest

/-- REGULATOR_ACK (R429): STATUS_WORD shows the rail of the first request at its target. -/
def execRegulatorAck (s : State) : Host.Outcome State Fault Refusal :=
  s.on (fun h => h.when (!h.pwr.retry) (fun h => h.reqAck))

/-- A PMBus fault: 0 a missing acknowledgement (F314), 1 a stuck bus (F311), 2 SCL held low (F312). -/
def Hw.busFault (h : Hw) (bus : Fin 3) : Hw :=
  (if bus = 0 then (h.noticeKeep 23 3 "pwr.fault" [("code", "F314")]).fault 19
   else if bus = 1 then h.fault 16 else h.fault 17).withdrawTest

/-- PMB_ACK (R430): an OPERATION was not acknowledged within 20 ms, or the bus test found the bus stuck. An entry is
abandoned at point 4, with the rails it has switched off switched on again; a return retries. -/
def execPmbAck (bus : Fin 3) (s : State) : Host.Outcome State Fault Refusal :=
  s.on (fun h =>
    match h.pwr.entering with
    | some _ =>
      h.when (decide ((h.pwr.point = 4 ∧ h.pwr.reqs ≠ []) ∨ (h.pwr.point = 3 ∧ bus ≠ 0))) (fun h =>
        (h.abandon 4 (if bus = 0 then "pmb_ack" else "bus")).busFault bus)
    | none =>
      h.when (h.pwr.returning && decide (h.pwr.reqs ≠ []) && !h.pwr.retry) (fun h =>
        ({ h with pwr := { h.pwr with retry := true } }).busFault bus))

/-- VOLTAGE_REQUEST_RETRY (R430): every 100 ms of a return, after bus recovery. -/
def execVoltageRequestRetry (ok : Bool) (s : State) : Host.Outcome State Fault Refusal :=
  s.on (fun h => h.when (h.pwr.returning && h.pwr.retry) (fun h => if ok then h.reqAck else h.fault 19))

/-! ## The keeper -/

/-- KEEPER_CALIBRATION (R434): a fit over 64 s is complete; f_x is in 10^-12. -/
def execKeeperCalibration (fx : Int) (s : State) : Host.Outcome State Fault Refusal :=
  s.on (fun h => h.when (h.sys.xo32Ok && h.time.clockOn && h.domUp .ref && h.passed 0 64000000000000) (fun h =>
    { h with pwr := { h.pwr with fx := fx, calibrated := true, fitSpan := 64000000000000, calAt := some h.time.up } }))

/-! ## The Graze sequencer (R437 to R439) -/

/-- A step's entry: period, offset, dwell in ms and action bits; none when disabled. -/
def Hw.gstep (h : Hw) (k : Nat) : Option (Nat × Nat × Nat × Nat) :=
  match h.effL .pwrGrazeStep k with
  | [p, o, d, b] => some (p, o, d, b)
  | _ => none

/-- The latest second at which a step of a period and an offset falls due. -/
def lastDue (now p o : Nat) : Option Nat := if p = 0 ∨ now < o then none else some (now - (now - o) % p)

/-- The step is due: at its second, or at one that passed while it had to wait; by its task in FULL and TRIM. -/
def Hw.stepDue (h : Hw) (k : Fin 8) : Bool :=
  match h.gstep k with
  | none => false
  | some (p, o, _, _) =>
    (h.awake && h.pwr.stepReq.getLsbD k) ||
    (match lastDue h.keeperSec p o with
     | some x => decide ((h.pwr.steps[k]).last < x ∨ h.keeperSec < (h.pwr.steps[k]).last)
     | none => false)

/-- The Axis time midway to the next PREDICT step after now. -/
def Hw.predictMid (h : Hw) : Nat :=
  let now := h.sec
  let next := (List.range 8).foldl (fun (m : Option Nat) k =>
    match h.gstep k with
    | some (p, o, _, b) =>
      if b.testBit 2 && decide (p ≠ 0) then
        let x := if now < o then o else now + p - (now - o) % p
        some (match m with | some y => min x y | none => x)
      else m
    | none => m) none
  match next with
  | some x => h.time.axis + (x - now) * auPerSec / 2
  | none => h.time.axis

/-- u_gstep between two readings `g` model units apart (R435), and the larger reading's share of the integrals. -/
def Hw.gstepBound (h : Hw) (t1 t2 : Int) (g : Nat) : Hw :=
  let f := h.steer.fit.getD {}
  let (u, h) := h.rnd ((f.c.natAbs * (t2 - t1).natAbs * g : Nat) : Int) (100 * auPerPs * 1000000000000000000)
  let free := decide (h.time.trust = .holdover ∨ h.time.trust = .adrift)
  let dev := fun (t : Int) => (t - h.steer.tempE).natAbs
  { h with
    time := { h.time with uSleep := min uncMax (h.time.uSleep + u.toNat) }
    steer := if free then { h.steer with
        intDev := h.steer.intDev + (dev t2 - dev t1) * g
        intOut := h.steer.intOut + (tempOut f t2 - tempOut f t1) * g } else h.steer }

/-- The TEMP action: T is read, the interval since the previous reading is bounded under `run`, and the window is tested
(bit 0). -/
def Hw.stepTemp (h : Hw) (graze run : Bool) (temp : Int) : Nat × Hw :=
  let h := h.readTemp temp (some temp)
  let t := h.steer.temp
  let out := match h.pwr.prevTemp with
    | some (t0, _) => decide (h.effN .pwrGrazeTempWindow < (t - t0).natAbs)
    | none => false
  let h := match h.pwr.prevTemp with
    | some (t0, at_) => if graze && run then h.gstepBound t0 t (h.time.up - at_) else h
    | none => h
  (b2n out, { h with pwr := { h.pwr with prevTemp := some (t, h.time.up) } })

/-- The PREDICT action: AXIS_UNC is computed and, with no reference selected, y_pred of the midpoint drives the
synthesiser (bit 2). -/
def Hw.stepPredict (h : Hw) (graze : Bool) : Nat × Hw :=
  let h := if graze then { h with time := { h.time with unc := h.uncFor h.time.trust h.time.bridge h.time.unc } } else h
  let (y, h1) := ({ h with time := { h.time with axis := h.predictMid } } : Hw).yPred
  let h := { h with free := h1.free }
  let h := if h.ref.sel.isSome then h
    else
      let (y, h) := h.pull y
      { h with steer := { h.steer with predict := true, ypred := y } }
  (4 * b2n (decide (h.effN .pwrGrazeUncWake ≤ h.time.unc)), h)

/-- The KEEPCAL action: under `run` the keeper is compared and f_x refreshed over the time since the last one (bit 1);
under `rest` f_x is refreshed over the dwell. -/
def Hw.stepKeepcal (h : Hw) (run : Bool) (keepErr fx : Int) (dwell : Nat) : Nat × Hw :=
  let span := if run then (h.time.up - h.pwr.calAt.getD 0) / auPerPs else dwell * 1000000000
  (2 * b2n (run && decide (h.effN .pwrGrazeKeepWindow < keepErr.natAbs)),
   { h with pwr := { h.pwr with fx := fx, fitSpan := span, calAt := some h.time.up } })

/-- The actions of a step in the order of its bits: the result bits. -/
def Hw.stepActions (h : Hw) (graze run : Bool) (b dwell : Nat) (temp keepErr fx : Int) (refSeen cmpHit : Bool) :
    Nat × Hw :=
  let (r0, h) := if b.testBit 1 then h.stepTemp graze run temp else (0, h)
  let (r2, h) := if b.testBit 2 then h.stepPredict graze else (0, h)
  let (r1, h) := if b.testBit 5 then h.stepKeepcal run keepErr fx dwell else (0, h)
  (r0 + r1 + r2 + 8 * b2n (b.testBit 3 && refSeen) + 16 * b2n (b.testBit 4 && cmpHit), h)

/-- The wakes of Table 20.8, in the order of their codes. -/
def Hw.stepWakes (h : Hw) (r : Nat) : Hw :=
  let h := if r.testBit 4 then h.wakeEvent 5 else h
  let h := if r % 8 ≠ 0 then h.wakeEvent 6 else h
  if r.testBit 3 then h.wakeEvent 7 else h

/-- GRAZE_STEP (R437 to R439): a due step runs. `temp`: T in 0.01 K; `keepErr`: the keeper less Axis time in ps; `fx`: the
refreshed offset in 10^-12; `refSeen`, `cmpHit`: what REFOBS and CMP found. -/
def execGrazeStep (k : Fin 8) (temp keepErr fx : Int) (refSeen cmpHit : Bool) (s : State) :
    Host.Outcome State Fault Refusal :=
  s.on (fun h =>
    let graze := decide (h.pwr.st = .graze) && !h.pwr.returning
    match h.gstep k with
    | none => h
    | some (_, _, dwell, b) =>
      h.when (h.sys.done && h.pwr.entering.isNone && (graze || h.awake) && h.stepDue k) (fun h =>
        let resting := h.pwr.restAt.isSome
        let run := !(graze && decide (h.effN .pwrGrazeOsc = 1))
        let h := if resting then h.endRest else h
        let (r, h) := h.stepActions graze run b dwell temp keepErr fx refSeen cmpHit
        let h := { h with
          sys := { h.sys with aonMvReg := h.sys.aonMv }
          pwr := { h.pwr with
            steps := h.pwr.steps.set k { last := h.sec % 4294967296, result := r }
            stepReq := h.pwr.stepReq &&& ~~~(1#8 <<< k.val) } }
        let h := if resting then h.startRest else h
        if graze then h.stepWakes r else h))

/-! ## Wake sources -/

/-- XO32_ABSENT (R76, and the watchdog of chapter 25): GRAZE and BED are withdrawn. During a rest the keeper's time is lost:
U_SLEEP saturates, and the rest ends with cause `timer`. -/
def execXo32Absent (s : State) : Host.Outcome State Fault Refusal :=
  s.on (fun h => h.when (h.sys.aonUp && h.sys.xo32Ok) (fun h =>
    let h := { h with sys := { h.sys with xo32Ok := false }, pwr := { h.pwr with calibrated := false } }
    let h := (h.noticeKeep 1 9 "supply.xo32" []).withdrawTest
    if h.pwr.restAt.isSome then ({ h with time := { h.time with uSleep := uncMax } } : Hw).wakeEvent 1 else h))

/-- AON_TIMER (R440): the keeper reaches the timer's instant. -/
def execAonTimer (s : State) : Host.Outcome State Fault Refusal :=
  s.on (fun h =>
    match h.pwr.timer with
    | none => h
    | some t =>
      h.when (decide (t ≤ h.keeperNow)) (fun h =>
        let every := psAu (h.effN .pwrWakeEvery)
        ({ h with pwr := { h.pwr with timer := if every = 0 then none else some (t + every) } } : Hw).wakeEvent 1))

/-- WAKE_N (R440): a low of at least 3 XO32 periods, or the return to high. -/
def execWakeN (low : Bool) (s : State) : Host.Outcome State Fault Refusal :=
  s.on (fun h => h.when h.sys.aonUp (fun h =>
    let h := { h with pwr := { h.pwr with wakeN := low } }
    if low then h.wakeEvent 2 else h))

/-- WAKE (R440): a wake event of Table 20.9: a Caliper compare while REF is up, a new vote during an entry, or one of the
others. -/
def execWake (cause : Fin 9) (s : State) : Host.Outcome State Fault Refusal :=
  s.on (fun h =>
    let c := cause.val
    let ok := if c = 0 then false else if c = 5 then h.domUp .ref else if c = 8 then h.newVote else true
    h.when ok (fun h => h.wakeEvent c))

/-- DECKLINE_CARRIER (R376): the AON detector of DKn_RXD wakes a member whose vote was withdrawn; its search starts
again. -/
def execDecklineCarrier (n : Fin 2) (s : State) : Host.Outcome State Fault Refusal :=
  s.on (fun h =>
    h.when (decide (h.pwr.st = .graze) && !h.pwr.returning && decide ((h.dk n).role = 2)) (fun h =>
      (h.updDk n (fun d => { d with searching := true, searchAt := h.time.up })).wakeEvent 4))

/-! ## The Wake port (R441) -/

/-- The port's response to an address match: 1 an ACK, 2 an ACK once KEEP is released, 3 a NACK. -/
def Hw.wakeResponse (h : Hw) : Nat :=
  match h.pwr.entering with
  | some _ => if h.pwr.point < 3 then 1 else 3
  | none =>
    if h.pwr.st = .full ∨ h.pwr.st = .trim then 1
    else if h.pwr.returning && h.domUp .keep then 1
    else
      let p := if h.pwr.returning then h.pwr.retFrom else h.pwr.st
      if p = .graze ∧ h.effB .pwrWakeStretch ∧ h.returnDelay 1 2 ≤ 150 then 2 else 3

/-- WAKE_PORT_MATCH (R441): the address matches with its R/W bit. Outside FULL and TRIM it also starts the wake. -/
def execWakePortMatch (read : Bool) (s : State) : Host.Outcome State Fault Refusal :=
  s.on (fun h => h.when h.sys.aonUp (fun h =>
    let w := h.wakeResponse
    let h := { h with pwr := { h.pwr with wk := w, wkRead := read, wkStretch := decide (w = 2) } }
    if h.pwr.entering.isSome || h.asleep then h.wakeEvent 3 else h))

/-- The argument reaches the wake that waits to be published, or is published now. -/
def Hw.wakeArgSay (h : Hw) (b : Byte) : Hw :=
  if h.pwr.wakeSay.any (fun w => decide (w.1 = 3)) then
    { h with pwr := { h.pwr with wakeSay := h.pwr.wakeSay.map (fun w => if w.1 = 3 then (3, some b.toNat) else w) } }
  else h.sayWake (3, some b.toNat)

/-- WAKE_PORT_WRITE (R441): a byte written after the ACK; further bytes are NACKed. -/
def execWakePortWrite (b : Byte) (s : State) : Host.Outcome State Fault Refusal :=
  s.on (fun h => h.when (!h.pwr.wkRead && !h.pwr.wkStretch) (fun h =>
    if h.pwr.wk = 1 ∨ h.pwr.wk = 2 then
      ({ h with pwr := { h.pwr with wk := 5, wakeArg := BitVec.ofNat 32 b.toNat } } : Hw).wakeArgSay b
    else if h.pwr.wk = 5 then { h with pwr := { h.pwr with wk := 3 } }
    else h))

/-- The byte a Wake-port read returns: the state code and the last wake cause. -/
def Hw.wakeByte (h : Hw) : Word := fld 0 h.pwr.st.code ||| fld 4 (h.pwr.lastWake % 16)

/-- WAKE_PORT_READ (R441): the byte read after the ACK; further bytes read as 0xFF. -/
def execWakePortRead (s : State) : Host.Outcome State Fault Refusal :=
  s.on (fun h => h.when (h.pwr.wkRead && !h.pwr.wkStretch) (fun h =>
    if h.pwr.wk = 1 ∨ h.pwr.wk = 2 then ({ h with pwr := { h.pwr with wk := 4 } } : Hw).ret [h.wakeByte]
    else if h.pwr.wk = 4 then h.ret [0xFF]
    else h))

end Sys2Proof.Machine
end

