-- ==== Sys2Proof/Machine/Txn.lean ====
section
/-!
DEFINITION. Transactions (chapter 22): staging, the tests of a commit, the switch at T and the ordered class B items
(R461 to R469). A staged `clear` of an item path is a value of its own: the address or date alone, or nothing for all.
-/
set_option autoImplicit false

namespace Sys2Proof.Machine

/-! ## Session settings (Table 7.7) -/

/-- The session's own value of a `mywi.session` path. -/
def Session.setting (s : Session) (p : PathId) : Option Nat :=
  if p = .mywiSessionPrompt then some (b2n s.prompt)
  else if p = .mywiSessionEcho then some (b2n s.echo)
  else if p = .mywiSessionCheck then some s.check
  else none

/-- Set one. -/
def Session.setSetting (s : Session) (p : PathId) (n : Nat) : Session :=
  if p = .mywiSessionPrompt then { s with prompt := decide (n ≠ 0) }
  else if p = .mywiSessionEcho then { s with echo := decide (n ≠ 0) }
  else if p = .mywiSessionCheck then { s with check := n }
  else s

/-- A path of the session's own settings. -/
def isSession (p : PathId) : Bool := decide (p = .mywiSessionPrompt ∨ p = .mywiSessionEcho ∨ p = .mywiSessionCheck)

/-! ## Executing one item -/

/-- Execute a `set` or a `clear` of a setting or item path that has passed its tests. -/
def Hw.applyItem (h : Hw) (ses : Option (Fin 11)) (k : Key) (v : SVal) : Except Nat Hw :=
  match k.p, v with
  | .prongClient, .none => .ok h.clientClearAll
  | .prongClient, .nats [f, a] => h.clientClear f a
  | .utcLeap, .none => .ok (h.put k (.nats []))
  | .utcLeap, .nats [d] =>
    match leapDrop d (h.effL .utcLeap) with
    | some l => .ok (h.put k (.nats l))
    | none => .error 405
  | p, .nat n =>
    if isSession p then
      match ses with
      | some i => .ok (h.updSes i (fun s => s.setSetting p n))
      | none => .ok h
    else h.execSet k v
  | _, _ => h.execSet k v

/-- A path whose `set` acts and leaves no value behind. -/
def isAct (p : PathId) : Bool :=
  decide (p = .prongClient ∨ p = .evtSoft ∨ p = .dmaChRun ∨ p = .dmaChHost ∨ p = .ibexChInject ∨ p = .ibexStore ∨
    p = .utcLeap ∨ p = .pmbMap) || isSession p

/-- The settings with a staged value in place. -/
def Hw.overlay (h : Hw) (k : Key) (v : SVal) : Hw := if isAct k.p then h else h.setMywi k v

/-! ## Staging (R461) -/

/-- Stage an item: a later one replaces an earlier one of its path and takes its own position. E508 at 256, E501 for the
mode of a second port. -/
def stageIn (l : List (Key × SVal)) (k : Key) (v : SVal) : Except Nat (List (Key × SVal)) :=
  let l' := l.filter (fun e => decide (e.1 ≠ k))
  if 256 ≤ l'.length then .error 508
  else if k.p = .portPMode && l'.any (fun e => decide (e.1.p = .portPMode)) then .error 501
  else .ok (l' ++ [(k, v)])

/-! ## The tests of a commit (R463) -/

/-- A class B path. -/
def isB (k : Key) : Bool := decide (k.p.row.cls = .b1 ∨ k.p.row.cls = .b2 ∨ k.p.row.cls = .b3 ∨ k.p.row.cls = .b4)

/-- The code with which one item fails: its instance, its constraint and its state. `whole` has every staged value in
place; `h` has the items before it executed. -/
def Hw.itemTest (whole h : Hw) (k : Key) (v : SVal) : Nat :=
  if !whole.provided k then 203
  else if (match v with | .none => false | _ => true) && whole.violates k then 303
  else
    let c := h.stateTest k v
    if c ≠ 0 then c
    else if k.p.row.cls = .a ∨ k.p.row.cls = .b2 ∨ k.p.row.cls = .b3 ∨ k.p.row.cls = .b4 then 0
    else match h.applyItem none k v with
      | .error e => e
      | .ok _ => 0

/-- Every failing item with its code, in staging order. -/
def Hw.commitFails (whole h : Hw) : List (Key × SVal) → List (Key × Nat)
  | [] => []
  | (k, v) :: r =>
    let c := Hw.itemTest whole h k v
    let h' := if c = 0 ∧ (k.p.row.cls = .c ∨ k.p.row.cls = .b1) then
        (match h.applyItem none k v with | .ok x => x | .error _ => h) else h
    (if c = 0 then [] else [(k, c)]) ++ Hw.commitFails whole h' r

/-- The tests of a commit at T: 0, or the code and its body lines. -/
def Hw.commitTest (h : Hw) (t : Nat) (l : List (Key × SVal)) : Nat × List String :=
  let now := h.time.axis
  if t < now + 100 * auPerUs ∨ now + 60 * auPerSec < t then (307, [])
  else if h.switchPending || (match h.txn.commit with | some c => c.window | none => false) then (501, [])
  else
    let whole := l.foldl (fun (h : Hw) e => h.overlay e.1 e.2) h
    match Hw.commitFails whole h l with
    | [] => (0, [])
    | (k, c) :: r => (c, ((k, c) :: r).map (fun e => "conflict=" ++ keyText e.1))

/-! ## Application -/

/-- The class B items in the order B1, B2, B3, B4. -/
def orderB (l : List (Key × SVal)) : List (Key × SVal) :=
  l.filter (fun e => decide (e.1.p.row.cls = .b1)) ++ l.filter (fun e => decide (e.1.p.row.cls = .b2)) ++
  l.filter (fun e => decide (e.1.p.row.cls = .b3)) ++ l.filter (fun e => decide (e.1.p.row.cls = .b4))

/-- Put a commit among those that wait: the one with the earliest T first, after an open window. -/
def TxnSt.add (x : TxnSt) (c : Commit) : TxnSt :=
  match x.commit with
  | none => { x with commit := some c }
  | some d => if !d.window && decide (c.t < d.t) then { x with commit := some c, more := d :: x.more } else { x with more := c :: x.more }

/-- The waiting commit with the earliest T comes to the front. -/
def TxnSt.next (x : TxnSt) : TxnSt :=
  match x.more with
  | [] => { x with commit := none }
  | c :: r =>
    let m := r.foldl (fun (m : Commit) d => if d.t < m.t then d else m) c
    { x with commit := some m, more := x.more.erase m }

/-- An accepted commit: the class A items are staged for T, and the session waits for its response. -/
def Hw.commitStart (h : Hw) (ses : Fin 11) (t : Nat) (l : List (Key × SVal)) : Hw :=
  let a := l.filter (fun e => decide (e.1.p.row.cls = .a))
  let c : Commit :=
    { ses := some ses.val, t := t, itemsA := a, itemsC := l.filter (fun e => !isB e.1 && decide (e.1.p.row.cls ≠ .a))
      itemsB := orderB l, last := t }
  let h := if a = [] then h else h.stagePolicy t a
  let h := { h with txn := h.txn.add c }
  let h := h.notice 3 1 "txn.commit" [("at", showAxis t)]
  h.updSes ses (fun s => { s with txn := none, waiting := true })

/-- The session a commit answers. -/
def Commit.session (c : Commit) : Option (Fin 11) :=
  match c.ses with
  | some n => if hn : n < 11 then some ⟨n, hn⟩ else none
  | none => none

/-- The last item has been applied (R466): the times, `txn.done` and the response. -/
def Hw.commitEnd (h : Hw) (c : Commit) : Hw :=
  let n := c.itemsA.length + c.itemsC.length + c.done.length
  let h := { h with txn := { h.txn.next with lastT := c.t, lastEnd := c.last, lastItems := n } }
  let args := [("from", showAxis c.t), ("to", showAxis c.last), ("items", toString n)] ++
    (if c.restarted then [("restart", "1")] else [])
  let h := if c.restarted then h.noticeKeep 3 0 "txn.done" args else h.notice 3 0 "txn.done" args
  match c.session with
  | none => h
  | some i =>
    let s := h.mywi.sess[i]
    (h.updSes i (fun s => { s with waiting := false })).respond i s.tag
      (("epoch=" ++ showAxis c.t) :: c.done.map (fun e => "item=" ++ keyText e.1 ++ " at=" ++ showAxis e.2) ++
        ["split=" ++ showAxis c.t ++ "-" ++ showAxis c.last]) 0

/-- The commit as it stands, ended when no item is left. -/
def Hw.putCommit (h : Hw) (c : Commit) : Hw :=
  if c.itemsB = [] then h.commitEnd c else { h with txn := { h.txn with commit := some c } }

/-- Execute an item and leave out one that its block refuses; whether it was applied. -/
def Hw.tryItem (h : Hw) (ses : Option (Fin 11)) (k : Key) (v : SVal) : Bool × Hw :=
  match h.applyItem ses k v with
  | .ok x => (true, x)
  | .error _ => (false, h)

/-- TXN_EPOCH (R464): T has come; the bank switches, and the class C items are executed in staging order. -/
def execTxnEpoch (s : State) : Host.Outcome State Fault Refusal :=
  s.on (fun h =>
    match h.txn.commit with
    | none => h
    | some c =>
      h.when (!c.window && decide (c.t ≤ h.time.axis)) (fun h =>
        let h := if c.itemsA = [] then h else h.bankSwitch
        let h := c.itemsC.foldl (fun (h : Hw) e => (h.tryItem c.session e.1 e.2).2) h
        h.putCommit { c with window := true, bankDone := decide (c.itemsA ≠ []) }))

/-- The plan of a segment has no change under way (R357). -/
def Hw.planSettled (h : Hw) (n : Nat) : Bool :=
  if hn : n < 2 then
    let d := h.dk ⟨n, hn⟩
    !h.domUp .deck || decide (d.role ≠ 1) || (d.newPlan.isNone && !d.dirty)
  else true

/-- CLASS_B_ITEM_APPLY (R464): the next class B item is applied. The plan items are handed to their coordinators together,
and each counts as applied once its segment's plan applies. -/
def execClassBItemApply (s : State) : Host.Outcome State Fault Refusal :=
  s.on (fun h =>
    match h.txn.commit with
    | none => h
    | some c =>
      match c.itemsB with
      | [] => h
      | (k, v) :: r =>
        h.when c.window (fun h =>
          let now := h.time.axis
          if k.p.row.cls = .b4 then
            let h := if c.started then h else c.itemsB.foldl (fun (h : Hw) e => (h.tryItem c.session e.1 e.2).2) h
            let c := { c with started := true }
            if h.planSettled k.i then h.putCommit { c with itemsB := r, done := c.done ++ [(k, now)], last := max c.t now }
            else h.putCommit c
          else
            let (ok, h) := h.tryItem c.session k v
            h.putCommit { c with
              itemsB := r, done := (if ok then c.done ++ [(k, now)] else c.done)
              last := if ok then max c.t now else c.last }))

end Sys2Proof.Machine
end

