-- ==== Sys2Proof/Machine/Faults.lean ====
section
/-!
DEFINITION. Clearing faults and the re-test of persisting ones (R493, Table 24.6), and the die temperature (R510).
-/
set_option autoImplicit false

namespace Sys2Proof.Machine

/-- Table 24.6: the condition of a persisting fault holds; in a block whose domain is down none holds. -/
def Hw.faultHolds (h : Hw) (i : Nat) : Bool :=
  if i = 1 then (List.finRange 48).any (fun (n : Fin 48) => receives n.val && h.domUp (islandDomain n.val) && (h.wave.isl[n]).outside)
  else if i = 2 then decide (2 ≤ h.sys.stage) && !h.time.clockOn && !h.steer.oscOk && h.domUp .ref
  else if i = 3 then h.domUp .ref && h.steer.pullLimit
  else if i = 4 then h.domUp .ref && !h.steer.oscOk && h.steer.freeRun
  else if i = 5 then h.domUp .ref &&
    ((List.finRange 8).any (fun (n : Fin 8) => h.effB .outOEnable n && (h.out.clk[n]).measured && !(h.out.clk[n]).calOk) ||
     (List.finRange 4).any (fun (n : Fin 4) => h.effB .outOEnable (8 + n.val) && (h.out.pulse[n]).measured && !(h.out.pulse[n]).calOk))
  else if i = 6 then h.domUp .ref && h.cal.dll.toList.any (fun b => !b)
  else if i = 18 then decide (h.sys.runMode = 3) && h.railUnmapped
  else if i = 23 then h.domUp .deck && (List.finRange 2).any (fun (n : Fin 2) => decide ((h.dk n).role = 1) && (h.dk n).yielded)
  else false

/-- The source a persisting fault latches from again: for F520 the segment that yields. -/
def Hw.faultOrigin (h : Hw) (i : Nat) : String :=
  if i = 23 then (if (h.dk 0).role = 1 ∧ (h.dk 0).yielded then "dk0" else "dk1") else faultSrc i

/-- Clear fault latches (R493): a persisting one whose condition still holds latches again with a new time. -/
def Hw.clearFaults (h : Hw) (mask : BitVec 24) : Hw :=
  let was := h.noteFault
  let h := h.w1cEvt 27 (mask.setWidth 32)
  let h := (List.finRange 24).foldl (fun (h : Hw) (i : Fin 24) =>
    if mask.getLsbD i && was.getLsbD i && decide (faultKind i = "S") && h.faultHolds i then h.faultFrom i (h.faultOrigin i)
    else h) h
  h.withdrawTest

/-- The sleep faults F311, F312 and F314 (R431). -/
def sleepFaultMask : BitVec 24 := 0x0B0000

/-- DIE_TEMP_SAMPLE (R510): a reading in 0.01 K; `supply.tj` at the threshold, once until the reading has fallen 5 K below
it. -/
def execDieTempSample (t : Nat) (s : State) : Host.Outcome State Fault Refusal :=
  s.on (fun h => h.when (h.domUp .ref && decide (2 ≤ h.sys.stage)) (fun h =>
    let warn := h.effN .supplyTjWarn
    let h := { h with sys := { h.sys with tNow := t, tMax := max h.sys.tMax t } }
    if warn ≤ t ∧ h.sys.tjArmed then
      ({ h with sys := { h.sys with tjArmed := false } }).say "supply.tj" [("tj", toString t), ("warn", toString warn)]
    else if t + 500 < warn then { h with sys := { h.sys with tjArmed := true } }
    else h))

end Sys2Proof.Machine
end

