-- ==== Sys2Proof/Machine/RegsRead.lean ====
section
/-!
DEFINITION. What a 32-bit read of each BAR0 register returns (the register tables of chapters 1 to 25), with no side effect,
and the values wider than 32 bits with their words (R7).
-/
set_option autoImplicit false

namespace Sys2Proof.Machine

/-! ## Addressing -/

/-- The instance and the offset within it of a register in an array of `n` blocks of `stride` bytes. -/
def regIx (o base stride n : Nat) : Option (Nat × Nat) :=
  if base ≤ o ∧ o < base + stride * n then some ((o - base) / stride, (o - base) % stride) else none

/-- The instance of an array of `n` words. -/
def wordIx (o base n : Nat) : Option Nat := if base ≤ o ∧ o < base + 4 * n then some ((o - base) / 4) else none

/-- A signed number of 32 bits. -/
def s32 (z : Int) : Word := BitVec.ofInt 32 z

/-- A quantity in a coarser unit; the spec gives no rounding, which is free. -/
def Hw.coarse (h : Hw) (z : Int) (d : Nat) : Int :=
  z / d + (if z % d ≠ 0 ∧ Config.roundUp h.free then 1 else 0)

/-- A 32-bit saturated number. -/
def sat32 (n : Nat) : Word := BitVec.ofNat 32 (min max32 n)

/-! ## GLOBAL -/

/-- STAGE of GLOBAL_TXN. -/
def Hw.txnStage (h : Hw) : Nat :=
  match h.txn.commit with
  | none => 0
  | some c =>
    if !c.window then 1
    else match c.itemsB with
      | [] => 2
      | (k, _) :: _ => match k.p.row.cls with
        | .b1 => 3 | .b2 => 4 | .b3 => 5 | .b4 => 6 | _ => 2

/-- GLOBAL_TXN. -/
def Hw.txnWord (h : Hw) : Word :=
  match h.txn.commit with
  | none => 0
  | some c =>
    flag 0 c.window ||| flag 1 (c.window && c.bankDone) ||| fld 4 h.txnStage ||| fld 16 (min 65535 c.itemsB.length)

/-- GLOBAL_BOOT (Table 5.5). -/
def Hw.bootWord (h : Hw) : Word :=
  fld 0 h.sys.stage ||| flag 8 h.sys.done ||| fld 10 h.sys.slot ||| flag 12 h.sys.qspiNone ||| flag 13 h.sys.aBad |||
  flag 14 h.sys.bBad ||| flag 15 h.sys.factory ||| fld 20 h.sys.coldSrc

/-- GLOBAL_PMB_RAILS. -/
def Hw.pmbWord (h : Hw) : Word :=
  (List.finRange 8).foldl (fun w r => w ||| flag r.val (h.sys.mapped[r]).isSome) 0 ||| fld 8 h.sys.conflict.toNat |||
  fld 16 (min 112 h.sys.regs.length) ||| flag 23 h.sys.stuck

/-- GLOBAL_SUPPLY. -/
def Hw.supplyWord (h : Hw) : Word :=
  fld 0 h.sys.pg.toNat ||| flag 8 (decide (h.sys.aonMv < h.effN .supplyAonWarnMv)) ||| flag 10 h.steer.oscOk |||
  flag 11 h.sys.xo32Ok

/-- The levels of GLOBAL_PINS that the state tells: PERST_N, WAKE_N and ALOCK. -/
def Hw.pinsWord (h : Hw) : Word :=
  let lock := fun (i : Fin 2) => (h.ref.ins[atomIn i]).alock == decide (h.effN .refAtomLockPol i = 0)
  flag 12 (!h.sys.perst) ||| flag 8 (!h.pwr.wakeN) ||| flag 6 (lock 0) ||| flag 7 (lock 1)

/-- GLOBAL_MYWI_SESS. -/
def Hw.sessWord (h : Hw) : Word :=
  let role := fun (i : Fin 11) => (h.mywi.sess[i]).role
  fld 0 (role 0) ||| fld 2 (role 1) ||| fld 4 (role 2) |||
  fld 8 ((h.mywi.sess.toList.drop 3).filter (fun s => s.openS)).length ||| flag 12 h.mywi.openM |||
  flag 13 h.custodianHeld

/-- A register of GLOBAL. -/
def Hw.rdGlobal (h : Hw) (o : Nat) : Word :=
  if o = 0x00 then fld 16 0x4096 ||| Config.silicon.setWidth 32
  else if o = 0x10 then
    if h.sys.done then
      fld 0 h.sys.runMode ||| fld 2 h.sys.bootMode ||| flag 4 h.sys.changing ||| fld 8 h.sys.lastCause
    else 0
  else if o = 0x14 then h.blocksWord
  else if o = 0x18 then h.sys.restarts
  else if o = 0x1C then h.note.evt[(0 : Fin 28)]
  else if o = 0x20 then h.supplyWord
  else if o = 0x24 then h.note.evt[(1 : Fin 28)]
  else if o = 0x28 then fld 0 (h.sys.aonMvReg % 4096)
  else if o = 0x2C then h.pinsWord
  else if o = 0x30 then fld 0 (h.effN .supplyAonWarnMv)
  else if o = 0x34 then fld 0 (h.sys.tNow % 65536) ||| fld 16 (h.sys.tMax % 65536)
  else if o = 0x38 then fld 0 (h.effN .supplyTjWarn)
  else if o = 0x40 then h.bootWord
  else if o = 0x44 then h.sys.bootUs
  else if o = 0x48 then h.pmbWord
  else if o = 0x50 then h.note.evt[(2 : Fin 28)]
  else if o = 0x60 then h.txnWord
  else if o = 0x7C then h.note.evt[(3 : Fin 28)]
  else if o = 0x100 then flag 0 h.mywi.mbxIrqEn
  else if o = 0x104 then flag 0 h.mywi.openM ||| flag 1 h.mywi.mbxResetBusy ||| fld 2 (h.mywi.sess[(2 : Fin 11)]).role
  else if o = 0x108 then h.mywi.mbxInProd
  else if o = 0x10C then h.mywi.mbxInCons
  else if o = 0x110 then h.mywi.mbxOutProd
  else if o = 0x114 then h.mywi.mbxOutCons
  else if o = 0x118 then h.mywi.mbxEvt
  else if o = 0x11C then h.sessWord
  else if o = 0x120 then h.mywi.lines
  else match wordIx o 0x124 9 with
  | some f => h.mywi.errs.toList.getD f 0
  | none => match wordIx o 0x1000 1024 with
    | some k => sparseGet (0 : Word) k h.mywi.mbxIn
    | none => match wordIx o 0x2000 1024 with
      | some k => sparseGet (0 : Word) k h.mywi.mbxOut
      | none => 0

/-! ## AXIS -/

/-- AXIS_UTC. -/
def Hw.utcWord (h : Hw) : Word :=
  fld 0 ((h.taiUtc % 65536).toNat) |||
  fld 17 (match h.time.leap with | none => 0 | some l => if l.insert then 1 else 2) |||
  flag 19 h.time.smear.isSome ||| fld 20 h.offSrc.2

/-- AXIS_WF_DELAYn. -/
def Hw.wfWord (h : Hw) (n : Nat) : Word :=
  if hn : n < 48 then flag 31 (h.islandOk ⟨n, hn⟩ || decide (n = 0)) ||| fld 0 ((h.wave.isl[n]).d.toNat % 65536) else 0

/-- A register of AXIS but its first four, AXIS_UNC and AXIS_TRUST, which have shadows of their own. -/
def Hw.rdAxis (h : Hw) (o : Nat) : Word :=
  if o = 0x100020 then sat32 h.time.signLimit
  else if o = 0x100024 then sat32 h.time.lockUnc
  else if o = 0x100028 then h.utcWord
  else if o = 0x100034 then h.time.stepCnt
  else if o = 0x100038 then h.note.evt[(4 : Fin 28)]
  else if o = 0x100100 then fld 8 48 ||| fld 0 h.wave.lastSlip
  else if o = 0x100104 then h.note.evt[(5 : Fin 28)]
  else match wordIx o 0x100200 48 with
  | some n => h.wfWord n
  | none => 0

/-! ## REF -/

/-- A register of one input. -/
def Hw.rdRefIn (h : Hw) (i : Fin 20) (o : Nat) : Word :=
  let r := h.ref.ins[i]
  if o = 0 then
    flag 0 (h.effB .refInEnable i) ||| fld 4 (h.effN .refInPrio i) ||| fld 15 (h.effN .refInHoldoff i / 100000000000) |||
    fld 22 (h.effN .refInWtr i / 1000000000000)
  else if o = 4 then
    fld 16 r.reason ||| flag 18 (freqOnly i) ||| flag 19 (decide (h.ref.sel = some i)) ||| fld 20 r.mapped |||
    fld 24 r.tql ||| fld 28 r.st.code
  else if o = 0x10 then sat32 (h.refUnc i)
  else 0

/-- A register of REF. -/
def Hw.rdRef (h : Hw) (o : Nat) : Word :=
  match regIx o 0x200000 0x20 20 with
  | some (i, o) => if hi : i < 20 then h.rdRefIn ⟨i, hi⟩ o else 0
  | none =>
    if o = 0x200400 then (match h.ref.sel with | some i => flag 31 true ||| fld 0 i.val | none => 0)
    else if o = 0x200404 then sat32 (h.effN .refXchkLimit / 1000)
    else if o = 0x200408 then h.note.evt[(6 : Fin 28)]
    else match wordIx o 0x200410 4 with
    | some n => if hn : n < 4 then (h.ref.ins[gnssIn ⟨n, hn⟩]).nmeaErr else 0
    | none => 0

/-! ## STEER -/

/-- The code of Table 9.1 of a bandwidth setting in uHz. -/
def bwSetCode (v : Nat) : Nat := bwTable.idxOf v

/-- STEER_STATUS. -/
def Hw.steerWord (h : Hw) : Word :=
  let st := h.steer
  fld 0 (bwCode st.bw) ||| fld 4 (if h.time.trust = .acquire then min 15 st.step else 0) ||| flag 11 st.lock |||
  flag 12 (decide (st.delta ≠ 0)) ||| flag 13 st.predict ||| flag 14 st.slopeClamp ||| flag 15 st.clamp |||
  flag 16 st.pullLimit ||| flag 17 st.fll

/-- A register of STEER. -/
def Hw.rdSteer (h : Hw) (o : Nat) : Word :=
  let st := h.steer
  if o = 0x300000 then fld 0 (bwSetCode (h.effN .steerTrackBw)) ||| fld 4 (bwSetCode (h.effN .steerAcqBw))
  else if o = 0x300004 then fld 0 (h.effN .steerSlope / 1000000000)
  else if o = 0x300008 then fld 0 (h.effN .steerLockErr / 1000)
  else if o = 0x300010 then h.steerWord
  else if o = 0x300028 then sat32 st.uloop
  else if o = 0x300040 then
    flag 0 st.valid ||| flag 1 st.frozen ||| flag 2 (match st.fit with | some f => f.tcEst | none => false) |||
    fld 16 (min 65535 st.samples.length)
  else if o = 0x300054 then (match st.fit with | some f => s32 (h.coarse f.c 1000) | none => 0)
  else if o = 0x300058 then (match st.fit with | some f => s32 (h.coarse f.sigY 1000) | none => 0)
  else if o = 0x30005C then (if h.time.trust = .holdover then sat32 (h.holdDur / auPerSec) else 0)
  else if o = 0x300068 then fld 0 (st.temp.toNat % 65536) ||| fld 16 (st.tempE.toNat % 65536)
  else if o = 0x300080 then h.note.evt[(7 : Fin 28)]
  else 0

/-! ## OUT -/

/-- A register of OUT. -/
def Hw.rdOut (h : Hw) (o : Nat) : Word :=
  match regIx o 0x400000 0x20 8 with
  | some (n, o) =>
    if o = 0 then
      flag 31 (h.effB .outOEnable n) ||| fld 29 (h.effN .outOSquelch n) ||| fld 28 (h.effN .outClkStd n)
    else if o = 0xC then sat32 (h.effN .outClkPhase n)
    else if o = 0x10 then sat32 (h.effN .outClkDelay n)
    else 0
  | none => match regIx o 0x400200 0x40 4 with
    | some (n, o) =>
      if hn : n < 4 then
        let x := h.out.pulse[n]
        if o = 0 then
          flag 31 (h.effB .outOEnable (8 + n)) ||| fld 29 (h.effN .outOSquelch (8 + n)) ||| fld 28 (h.effN .outPulsePol n) |||
          fld 26 ((h.effL .outPulsePeriod n).headD 0) ||| fld 21 (alignCode (h.effN .outPulseAlign n))
        else if o = 0xC then sat32 (h.effN .outPulseWidth n / 1000)
        else if o = 0x18 then sat32 (h.effN .outPulseDelay n)
        else if o = 0x1C then flag 0 x.squelched ||| flag 1 (h.alignHold ⟨n, hn⟩) ||| flag 2 x.calOk
        else 0
      else 0
    | none => if o = 0x400400 then h.note.evt[(8 : Fin 28)] else 0

/-! ## CAL -/

/-- A register of one channel. -/
def Hw.rdCalCh (h : Hw) (c : Fin 40) (o : Nat) : Word :=
  let x := h.cal.ch[c]
  let n := c.val
  let us := fun (p : PathId) => BitVec.ofNat 32 (h.effN p n / 1000000)
  if o = 0x00 then
    fld 0 (h.effN .calChDivide n - 1) ||| flag 20 (h.effB .calChCmp n) ||| fld 21 (h.effN .calChStatOf n) |||
    fld 23 (h.effN .calChGateSrc n) ||| flag 24 (h.effB .calChSigned n) |||
    (if n < 24 then fld 25 (h.effN .calChStd n) else 0) ||| fld 26 (h.effN .calChEdge n) ||| fld 28 (h.effN .calChMode n) |||
    flag 31 (h.effB .calChEnable n)
  else if o = 0x04 then
    fld 16 (match h.eff ⟨.calChStop, n, 0⟩ with | .nat k => k | _ => n) ||| fld 14 (h.effN .calChStopEdge n)
  else if o = 0x08 then us .calChTimeout
  else if o = 0x0C then us .calChGate
  else if o = 0x10 then BitVec.ofNat 32 (h.effN .calChLookback n / 1000)
  else if o = 0x14 then fld 0 (h.effN .calChStatN n)
  else if o = 0x18 then us .calChStatPeriod
  else if o = 0x1C then fld 0 (h.effN .calChMark n) ||| fld 16 (h.effN .calChHyst n)
  else if o = 0x20 then (if n < 24 then s32 (h.effI .calChDelay n) else 0)
  else if o = 0x24 then
    fld 0 x.queue.length ||| flag 31 (decide (h.effN .calChMark n ≤ x.queue.length))
  else if o = 0x28 then h.note.calEvt[c]
  else if o = 0x2C then x.lost
  else if o = 0x34 then x.popped.w1
  else if o = 0x38 then x.popped.w2
  else if o = 0x3C then x.popped.w3
  else 0

/-- A register of CAL. -/
def Hw.rdCal (h : Hw) (o : Nat) : Word :=
  if o = 0x500000 then
    (List.finRange 4).foldl (fun w i => w ||| flag i.val h.cal.dll[i]) 0 ||| fld 8 h.cal.cdLine ||| flag 16 h.cal.firstDone
  else if o = 0x500004 then h.note.evt[(9 : Fin 28)]
  else if o = 0x500010 then fld 0 h.cal.cdSel
  else match regIx o 0x500100 0x40 40 with
  | some (c, o) => if hc : c < 40 then h.rdCalCh ⟨c, hc⟩ o else 0
  | none => match regIx o 0x500C00 0x10 40 with
    | some (c, o) =>
      if o = 0 then s32 (h.effI .calChCmpLo c / 1000) else if o = 4 then s32 (h.effI .calChCmpHi c / 1000) else 0
    | none => match wordIx o 0x501000 1024 with
      | some k => fld 0 (h.cal.cdTab.getD k 0 % 65536)
      | none => 0

/-! ## PORT -/

/-- A register of one port. -/
def Hw.rdPortP (h : Hw) (p : Fin 4) (o : Nat) : Word :=
  let q := h.port.p[p]
  if o = 0 then
    fld 0 ((q.mode + 1) % 9) ||| flag 8 (h.effB .portPAn p) ||| flag 9 (h.effB .portPPreempt p) |||
    flag 10 (h.effB .portPSynceTx p)
  else if o = 4 then
    (List.finRange 4).foldl (fun w k => w ||| flag k.val (decide ((q.lanes[k]).st = .up)) ||| flag (4 + k.val) (q.lps[k]).ready) 0 |||
    flag 8 (q.preemptOk && h.effB .portPPreempt p) ||| flag 9 q.change.isSome
  else if o = 0x40 then h.note.evt[portSrc p]
  else if o = 0x44 then q.late
  else if o = 0x48 then q.linkDrop
  else if o = 0x4C then q.parseDrop
  else if o = 0x50 then q.fcsErr
  else if o = 0x54 then q.fecUncorr
  else match wordIx o 0x10 4 with
  | some k => if hk : k < 4 then s32 (q.lanes[k]).refine else 0
  | none => match wordIx o 0x20 4 with
    | some k => if hk : k < 4 then sat32 (h.planeRx p ⟨k, hk⟩) else 0
    | none => match wordIx o 0x30 4 with
      | some k => if hk : k < 4 then sat32 (h.planeTx p ⟨k, hk⟩) else 0
      | none => 0

/-- A register of PORT. -/
def Hw.rdPort (h : Hw) (o : Nat) : Word :=
  match regIx o 0x600000 0x40000 4 with
  | some (p, o) => if hp : p < 4 then h.rdPortP ⟨p, hp⟩ o else 0
  | none => 0

/-! ## PRONG -/

/-- PRONG_STATUS. -/
def Hw.prongWord (h : Hw) : Word :=
  (List.finRange 4).foldl (fun w g => w ||| flag g.val (h.groupIn g) |||
    flag (4 + g.val) (match h.prong.reload with | some (r, _) => decide (r = g) | none => false)) 0 |||
  fld 8 (h.prong.bank % 2) ||| flag 9 h.switchPending

/-- A register of PRONG. -/
def Hw.rdProng (h : Hw) (o : Nat) : Word :=
  if o = 0x800000 then h.prongWord
  else if o = 0x800004 then h.note.evt[(15 : Fin 28)]
  else if o = 0x800008 then sat32 (h.effN .prongLaunchLead / 1000)
  else if o = 0x800030 then h.prong.hashIn[0]
  else if o = 0x800034 then h.prong.hashIn[1]
  else if o = 0x800040 then flag 0 h.prong.hashAf
  else if o = 0x800044 then h.prong.hashOut
  else if o = 0x800050 then BitVec.ofNat 32 h.prong.epoch
  else if o = 0x800054 then fld 0 h.prong.grants.length ||| fld 16 h.grantCap
  else match wordIx o 0x800100 16 with
  | some q => if hq : q < 16 then fld 0 (h.inflight ⟨q, hq⟩ h.time.axis) else 0
  | none => match wordIx o 0x800200 16 with
    | some i => if hi : i < 16 then let l := h.lp ⟨i, hi⟩; fld 0 (min 65535 l.maxNs) ||| fld 16 (min 65535 l.deep) else 0
    | none => match regIx o 0x801000 0x100 4 with
      | some (g, o) => if hg : g < 4 then (h.prong.cnt[g]).toList.getD (o / 4) 0 else 0
      | none => 0

/-! ## SEAL -/

/-- An ACTIVE slot as SEAL_STATUS shows it: valid bit, then slot. -/
def activeBits (k : Option (Fin 8)) : Nat := match k with | some n => 1 + 2 * n.val | none => 0

/-- A register of SEAL. -/
def Hw.rdSeal (h : Hw) (o : Nat) : Word :=
  let u := h.sealU
  if o = 0xA00000 then
    fld 0 (min 1024 h.sealPending) ||| fld 16 (activeBits (h.activeKey 0)) ||| fld 20 (activeBits (h.activeKey 1)) |||
    flag 24 u.busy
  else if o = 0xA00004 then h.note.evt[(16 : Fin 28)]
  else if o = 0xA00418 then
    fld 0 (h.jrnLevel % 33554432) ||| flag 31 (decide (h.effN .journalMark ≤ h.jrnLevel))
  else if o = 0xA0041C then fld 0 (h.freeSlots % 33554432)
  else if o = 0xA00428 then u.lostCnt
  else match wordIx o 0xA00010 8 with
  | some n => if hn : n < 8 then let k := u.keys[n]; fld 0 k.st.code ||| fld 2 k.alg else 0
  | none => match regIx o 0xA00100 0x20 8 with
    | some (q, o) =>
      if hq : q < 8 then
        let x := u.queues[q]
        if o = 0x10 then fld 0 x.log2 ||| flag 31 x.en
        else if o = 0x14 then x.prod
        else if o = 0x18 then x.cons
        else if o = 0x1C then x.done
        else 0
      else 0
    | none => match wordIx o 0xA00300 10 with
      | some k => u.cnt.toList.getD k 0
      | none => 0

/-! ## LAT -/

/-- LAT_STATUS. -/
def Hw.latWord (h : Hw) : Word :=
  let l := h.lat
  fld 0 (h.ownEid % 4096) ||| flag 12 l.eid.isNone ||| flag 13 l.assigned ||| flag 14 l.isRoot ||| flag 15 l.detached |||
  fld 16 (l.hops % 64) ||| (match l.parent with | some n => fld 22 n.val ||| flag 24 true | none => 0)

/-- A register of one link. -/
def Hw.rdLink (h : Hw) (n : Fin 4) (o : Nat) : Word :=
  let l := h.lat.link[n]
  if o = 0 then
    fld 0 l.st.code ||| fld 4 (h.latRole n) ||| flag 6 (h.latVia n).isSome ||| fld 16 (l.peerEid % 4096) |||
    flag 28 (decide (4096 ≤ l.peerEid))
  else if o = 0x0C then s32 l.d
  else if o = 0x18 then s32 l.refine
  else if o = 0x1C then (if l.estN = 0 then 0 else s32 (h.coarse l.estSum l.estN))
  else if o = 0x20 then fld 0 (l.estN / 64)
  else if o = 0x24 then sat32 (h.uLink n)
  else match wordIx o 0x28 4 with
  | some k => l.cnt.toList.getD k 0
  | none => 0

/-- A register of LAT. -/
def Hw.rdLat (h : Hw) (o : Nat) : Word :=
  if o = 0xB00000 then
    fld 0 (h.effN .latPrio) ||| (List.range 4).foldl (fun w n => w ||| flag (8 + n) (h.effB .latLEnable n)) 0 |||
    flag 12 (h.effB .latEnable)
  else if o = 0xB00004 then h.latWord
  else if o = 0xB00008 then
    let r := h.lat.root
    fld 0 (r.eid % 4096) ||| flag 12 (decide (4096 ≤ r.eid)) ||| fld 16 r.tql ||| fld 24 r.prio
  else if o = 0xB0001C then fld 0 (if h.lat.isRoot then h.lat.roster.length else 0)
  else if o = 0xB00020 then h.note.evt[(17 : Fin 28)]
  else match regIx o 0xB00100 0x40 4 with
  | some (n, o) => if hn : n < 4 then h.rdLink ⟨n, hn⟩ o else 0
  | none => 0

/-! ## DECK -/

/-- DECK_DKn_STATUS. -/
def Hw.dkWord (h : Hw) (n : Fin 2) : Word :=
  let d := h.dk n
  fld 0 d.role ||| fld 2 d.rate ||| fld 4 (h.dkCeil n) ||| flag 6 d.synced ||| flag 7 d.joined ||| fld 8 (d.addr % 64) |||
  flag 14 d.yielded ||| fld 16 (d.planVer % 256) ||| fld 24 (d.roster.length % 64)

/-- DECK_DKn_MBRa, of the coordinator: its first and last words. -/
def Hw.mbrWord (h : Hw) (n : Fin 2) (a o : Nat) : Word :=
  let d := h.dk n
  if d.role ≠ 1 then 0
  else if o = 0 then (match d.at_ a with
    | some m => flag 0 true ||| fld 8 (min 255 m.silent) ||| fld 16 m.ql
    | none => 0)
  else if o = 0xC then BitVec.ofNat 32 (((d.plan.find? (fun e => decide (e.1 = a))).map (·.2)).getD 0)
  else 0

/-- A register of one segment. -/
def Hw.rdDk (h : Hw) (n : Fin 2) (o : Nat) : Word :=
  let d := h.dk n
  if o = 0 then h.dkWord n
  else if o = 0x0C then h.note.evt[dkSrcNo n]
  else if o = 0x10 then sat32 d.loop
  else if o = 0x14 then s32 d.ofs
  else if o = 0x30 then fld 0 d.txLog ||| flag 31 d.txEn
  else if o = 0x34 then fld 0 d.rxLog ||| flag 31 d.rxEn
  else if o = 0x38 then d.txProd
  else if o = 0x3C then d.txCons
  else if o = 0x40 then d.txDone
  else if o = 0x44 then d.rxProd
  else if o = 0x48 then d.rxCons
  else match wordIx o 0x100 9 with
  | some k => d.cnt.toList.getD k 0
  | none => match regIx o 0x200 0x10 64 with
    | some (a, o) => h.mbrWord n a o
    | none => 0

/-- A register of DECK. -/
def Hw.rdDeck (h : Hw) (o : Nat) : Word :=
  match regIx o 0xC00000 0x10000 2 with
  | some (n, o) => if hn : n < 2 then h.rdDk ⟨n, hn⟩ o else 0
  | none => 0

/-! ## IBEX -/

/-- IBEX_CHn_STATE. -/
def HerdCh.stateWord (c : HerdCh) : Word :=
  fld 0 c.pc ||| flag 9 c.stalled ||| flag 10 c.inj.isSome ||| flag 11 c.reached ||| fld 12 c.isrN ||| fld 18 c.osrN |||
  fld 24 c.tx.length ||| fld 28 c.rx.length

/-- A register of one Herd channel. -/
def Hw.rdCh (h : Hw) (n : Fin 32) (o : Nat) : Word :=
  let c := h.ibex.ch[n]
  if o = 0 then c.cfg0 else if o = 4 then c.cfg1 else if o = 8 then c.cfg2
  else if o = 0x10 then c.stateWord
  else if o = 0x14 then c.x else if o = 0x18 then c.y else if o = 0x1C then c.cmp
  else if o = 0x20 then c.flags
  else 0

/-- A register of one Kid lane. -/
def Hw.rdKid (h : Hw) (k : Fin 8) (o : Nat) : Word :=
  let c := h.ibex.kid[k]
  if o = 0 then c.cfg0 else if o = 4 then c.cfg1 else if o = 8 then c.cfg2
  else if o = 0x28 then c.flags
  else if o = 0x48 then fld 0 c.cap.length ||| fld 5 c.load.length ||| fld 16 (c.seq % 65536)
  else if 0x34 ≤ o ∧ o ≤ 0x44 then c.popped.getD ((o - 0x30) / 4) 0
  else 0

/-- A register of IBEX. -/
def Hw.rdIbex (h : Hw) (o : Nat) : Word :=
  if o = 0xD00000 then
    (List.finRange 32).foldl (fun w n => w ||| flag n.val ((h.ibex.ch[n]).en && !(h.ibex.ch[n]).halted)) 0
  else if o = 0xD00004 then (List.finRange 32).foldl (fun w n => w ||| flag n.val (h.ibex.ch[n]).halted) 0
  else if o = 0xD00008 then h.note.evt[(20 : Fin 28)]
  else match wordIx o 0xD00040 3 with
  | some j => (List.range 16).foldl (fun w i => w ||| fld (2 * i) (h.effN .ibexPinPull (16 * j + i))) 0
  | none => match wordIx o 0xD01000 512 with
    | some a => (h.herdWord a).setWidth 32
    | none => match regIx o 0xD02000 0x40 32 with
      | some (n, o) => if hn : n < 32 then h.rdCh ⟨n, hn⟩ o else 0
      | none => match regIx o 0xD03000 0x80 8 with
        | some (k, o) => if hk : k < 8 then h.rdKid ⟨k, hk⟩ o else 0
        | none => 0

/-! ## DMA and EVT -/

/-- DMA_CHn_STATUS. -/
def Hw.dmaWord (h : Hw) (n : Fin 16) : Word :=
  let c := h.dma.ch[n]
  fld 0 c.st.code ||| fld 4 c.code ||| flag 7 (decide (c.st = .pending) && c.ringShort) |||
  fld 8 h.evt.cnt[dmaStartTask n] ||| flag 31 (decide (c.ring = 1 ∧ c.markVal ≤ c.level))

/-- A register of DMA. A burst is one step, so none is in progress between two commands. -/
def Hw.rdDma (h : Hw) (o : Nat) : Word :=
  if o = 0xE00000 then fld 16 (h.dma.ch.toList.filter (fun c => decide (c.st = .pending))).length
  else if o = 0xE00004 then (List.finRange 16).foldl (fun w n => w ||| flag n.val (decide (h.note.dmaEvt[n] ≠ 0))) 0
  else match regIx o 0xE01000 0x80 16 with
  | some (n, o) =>
    if hn : n < 16 then
      let c := h.dma.ch[n]
      if o = 0x10 then BitVec.ofNat 32 c.count
      else if o = 0x14 then c.cfg
      else if o = 0x1C then h.dmaWord ⟨n, hn⟩
      else if o = 0x20 then BitVec.ofNat 32 c.residue
      else if o = 0x24 then c.host
      else if o = 0x28 then c.eng
      else if o = 0x2C then BitVec.ofNat 32 c.markVal
      else if o = 0x30 then BitVec.ofNat 32 c.hystVal
      else if o = 0x3C then h.note.dmaEvt[n]
      else 0
    else 0
  | none => 0

/-- A register of EVT. -/
def Hw.rdEvt (h : Hw) (o : Nat) : Word :=
  if o = 0xE80004 then fld 0 h.evt.lastOvf ||| flag 7 (h.evt.ovf.toList.any (fun b => b))
  else match regIx o 0xE81000 0x20 96 with
  | some (t, o) =>
    if ht : t < 96 then
      if o = 0x10 then fld 0 h.evt.cnt[t] ||| flag 8 h.evt.ovf[t]
      else if o < 0x10 then (h.evt.src[t]).foldl (fun w e => if e / 32 = o / 4 then w ||| fld (e % 32) 1 else w) 0
      else 0
    else 0
  | none => 0

/-! ## PWR -/

/-- PWR_STATE. -/
def Hw.pwrWord (h : Hw) : Word :=
  fld 0 h.pwr.st.code ||| fld 4 h.pwr.point ||| flag 8 h.pwr.entering.isSome ||| flag 9 h.pwr.returning |||
  flag 10 h.sleepCond ||| fld 16 (h.pwr.lastWake % 16)

/-- The register words of a Graze step: period, offset, dwell and action bits, and a fifth entry when it is disabled. -/
def stepWords (l : List Nat) : Word × Word :=
  match l with
  | p :: o :: d :: b :: r => (fld 0 p ||| fld 16 o, flag 0 r.isEmpty ||| fld 0 b ||| fld 16 d)
  | _ => (0, 0)

/-- A register of PWR. -/
def Hw.rdPwr (h : Hw) (o : Nat) : Word :=
  if o = 0xF00000 then h.pwrWord
  else if o = 0xF00004 then allDomains.foldl (fun w d => w ||| flag d.idx.val (h.domUp d)) 0
  else if o = 0xF00040 then h.pwr.hostVote
  else if o = 0xF00044 then h.pwr.wakeArg
  else if o = 0xF00048 then s32 h.pwr.fx
  else if o = 0xF00054 then h.pwr.entryCnt
  else if o = 0xF00058 then h.pwr.abortCnt
  else if o = 0xF0005C then h.note.evt[(23 : Fin 28)]
  else match wordIx o 0xF00010 10 with
  | some d => if hd : d < 10 then h.votesWord (domainOf ⟨d, hd⟩) else 0
  | none => match regIx o 0xF00100 0x10 8 with
    | some (k, o) =>
      if hk : k < 8 then
        if o = 0 then (stepWords (h.effL .pwrGrazeStep k)).1
        else if o = 4 then (stepWords (h.effL .pwrGrazeStep k)).2
        else if o = 8 then BitVec.ofNat 32 (h.pwr.steps[k]).last
        else BitVec.ofNat 32 (h.pwr.steps[k]).result
      else 0
    | none => match regIx o 0xF00200 0x10 10 with
      | some (d, o) => BitVec.ofNat 32 (h.returnDelay d (o / 4))
      | none => 0

/-! ## BUS -/

/-- The banks of `keep.retain` as a word. -/
def Hw.retainWord (h : Hw) : Word := (h.effL .keepRetain).foldl (fun w b => w ||| fld b 1) (fld 6 3)

/-- A register of BUS. -/
def Hw.rdBus (h : Hw) (o : Nat) : Word :=
  if o = 0xF80004 then h.note.evt[(24 : Fin 28)]
  else if o = 0xF80008 then h.sys.isoAddr
  else if o = 0xF80010 then h.sys.ceCnt
  else if o = 0xF80014 then h.sys.uceCnt
  else if o = 0xF80020 then h.retainWord
  else 0

/-! ## TALLY -/

/-- A register of one unit. -/
def Hw.rdUnit (h : Hw) (u : Fin 18) (o : Nat) : Word :=
  let x := h.tally.u[u]
  let lanes := fun (k : Nat) => (List.range 4).foldl (fun (w : Word) j => w ||| fld (8 * j) (x.selNew.toList.getD (k + j) 0)) 0
  if o = 0 then (List.finRange 4).foldl (fun w p => w ||| flag p.val x.chainNew[p]) 0
  else if o = 4 then lanes 0
  else if o = 8 then lanes 4
  else if o = 0xC then x.wrap.setWidth 32
  else if o = 0x80 then BitVec.ofNat 32 x.snapFlags
  else match wordIx o 0x20 8 with
  | some n => BitVec.ofNat 32 (x.c.toList.getD n 0)
  | none => match wordIx o 0x60 8 with
    | some n => BitVec.ofNat 32 (x.snap.toList.getD n 0)
    | none => 0

/-- A record is being written. -/
def Hw.tallyWriting (h : Hw) : Bool := match h.tally.writeEnd with | some t => decide (h.time.axis < t) | none => false

/-- A register of TALLY. -/
def Hw.rdTally (h : Hw) (o : Nat) : Word :=
  let t := h.tally
  if o = 0x1000000 then flag 0 t.enable ||| flag 1 t.free ||| fld 8 t.periodMs
  else if o = 0x1000004 then flag 0 h.tallyWriting ||| flag 31 (decide (0 < t.size ∧ t.markVal ≤ t.level))
  else if o = 0x1000008 then h.note.evt[(25 : Fin 28)]
  else if o = 0x1000018 then fld 0 t.log2
  else if o = 0x100001C then t.eng
  else if o = 0x1000020 then t.host
  else if o = 0x1000024 then BitVec.ofNat 32 t.markVal
  else if o = 0x1000028 then BitVec.ofNat 32 t.hystVal
  else if o = 0x1000034 then t.skippedCnt
  else if o = 0x1000038 then t.lostCnt
  else match regIx o 0x1001000 0x100 18 with
  | some (u, o) => if hu : u < 18 then h.rdUnit ⟨u, hu⟩ o else 0
  | none => 0

/-! ## NOTE and IMG -/

/-- NOTE_SRCs_ROUTE. -/
def Hw.routeWord (h : Hw) (s : Fin 28) : Word :=
  (h.srcIrq s).foldl (fun w k => w ||| fld k 1) 0 |||
  (match h.effL .noteSMsix s with | [v] => fld 8 v ||| flag 15 true | v :: _ => fld 8 v | [] => 0)

/-- A register of NOTE. -/
def Hw.rdNote (h : Hw) (o : Nat) : Word :=
  if o = 0x1100000 then (List.finRange 28).foldl (fun w s => w ||| flag s.val (h.srcPending s)) 0
  else if o = 0x1100004 then (List.finRange 28).foldl (fun w s => w ||| flag s.val (decide (h.srcWord s ≠ 0))) 0
  else if o = 0x1100008 then h.noteIrq
  else if o = 0x110000C then h.note.consoleOnly
  else if o = 0x1100010 then h.noteFault
  else if o = 0x1100014 then (match h.note.last with | some i => flag 31 true ||| fld 0 i | none => 0)
  else match regIx o 0x1100100 0x10 28 with
  | some (s, o) => if hs : s < 28 then (if o = 0 then h.srcMask ⟨s, hs⟩ else if o = 4 then h.routeWord ⟨s, hs⟩ else 0) else 0
  | none => match regIx o 0x1100400 0x10 24 with
    | some (i, o) => if o = 8 then h.note.faultCnt.toList.getD i 0 else 0
    | none => 0

/-- A register of IMG. -/
def Hw.rdImg (h : Hw) (o : Nat) : Word :=
  let m := h.img
  if o = 0x1200010 then
    (match m.write with
     | some w => flag 31 true ||| fld 30 w.slot.val ||| fld 27 w.step
     | none => 0)
  else if o = 0x1200014 then
    (List.finRange 4).foldl (fun w k => w ||| flag k.val (m.owners[k]).isSome) 0 ||| fld 4 m.ownerRevoked.toNat |||
    fld 8 m.tkeyRevoked.toNat ||| fld 16 m.rollback
  else if o = 0x1200018 then h.note.evt[(26 : Fin 28)]
  else match regIx o 0x1200000 8 2 with
  | some (s, o) =>
    if hs : s < 2 then
      let i := m.info[s]
      if o = 0 then fld 0 i.rollback ||| fld 8 (i.fw % 65536) ||| fld 24 i.result ||| fld 28 i.state
      else BitVec.ofNat 32 i.gen
    else 0
  | none => 0

/-! ## The Keep window and the MSI-X table -/

/-- A word of banks 8 to 15; one that a BED rest has lost holds a free value (R64). -/
def Hw.keepWord (h : Hw) (o : Nat) : Word :=
  let b := 8 + (o - 0x2000000) / 0x40000
  let w := sparseGet (0 : Word) o h.keep
  match h.keepSeed.toList.getD b none with
  | some n => w ^^^ BitVec.ofNat 32 (Config.freshNat (n + (o - 0x2000000) % 0x40000 / 4))
  | none => w

/-- The pending-bit array, and a word of the MSI-X table: a vector is masked until it is written (R66). -/
def Hw.rdMsix (h : Hw) (o : Nat) : Word :=
  if o = 0x3001000 then h.note.pba.setWidth 32
  else if o = 0x3001004 then (h.note.pba >>> 32).setWidth 32
  else
    let k := (o - 0x3000000) / 4
    sparseGet (if k % 4 = 3 then (1 : Word) else 0) k h.sys.msixTab

/-! ## One register -/

/-- What a 32-bit read of a register that is not a wide value returns (Table 3.6). Reserved offsets read 0 (R3). -/
def Hw.regVal (h : Hw) (o : Nat) : Word :=
  if o < 0x100000 then h.rdGlobal o
  else if o < 0x200000 then h.rdAxis o
  else if o < 0x300000 then h.rdRef o
  else if o < 0x400000 then h.rdSteer o
  else if o < 0x500000 then h.rdOut o
  else if o < 0x600000 then h.rdCal o
  else if o < 0x700000 then h.rdPort o
  else if o < 0x800000 then 0
  else if o < 0xA00000 then h.rdProng o
  else if o < 0xB00000 then h.rdSeal o
  else if o < 0xC00000 then h.rdLat o
  else if o < 0xD00000 then h.rdDeck o
  else if o < 0xE00000 then h.rdIbex o
  else if o < 0xE80000 then h.rdDma o
  else if o < 0xF00000 then h.rdEvt o
  else if o < 0xF80000 then h.rdPwr o
  else if o < 0x1000000 then h.rdBus o
  else if o < 0x1100000 then h.rdTally o
  else if o < 0x1200000 then h.rdNote o
  else if o < 0x1300000 then h.rdImg o
  else if 0x2000000 ≤ o ∧ o < 0x2200000 then h.keepWord o
  else if 0x3000000 ≤ o ∧ o < 0x3000400 ∨ 0x3001000 ≤ o ∧ o < 0x3001008 then h.rdMsix o
  else 0

/-! ## Values wider than 32 bits (R7) -/

/-- A wide value: the offset of its lowest word, its words, the value and its value at reset. -/
structure Wide where
  base : Nat
  words : Nat
  val : Nat
  reset : Nat := 0
deriving DecidableEq, Repr

/-- A time as the three words ns, seconds low, seconds high. -/
def timeWords (t : Nat) : Nat := nsOf t + 4294967296 * secOf t

/-- A wide value that lies at `base` if `o` is one of its words. -/
def wideHit (o base words val reset : Nat) : Option Wide :=
  if base ≤ o ∧ o < base + 4 * words then some { base := base, words := words, val := val, reset := reset } else none

/-- The first that hits. -/
def firstHit : List (Option Wide) → Option Wide
  | [] => none
  | some w :: _ => some w
  | none :: r => firstHit r

/-- Wide values of the timekeeping blocks. -/
def Hw.wideCore (h : Hw) (o : Nat) : Option Wide :=
  let st := h.steer
  let hold := if h.time.trust = .holdover then min uncMax h.uHold else 0
  let y0 := if st.frozen then st.ye else match st.fit with | some f => f.y0 | none => 0
  let age := match st.fit with | some f => f.a | none => 0
  let freq := if st.predict then st.ypred else st.integ
  firstHit [
    wideHit o 0x64 3 (timeWords (match h.txn.commit with | some c => c.t | none => h.txn.lastT)) 0,
    wideHit o 0x70 3 (timeWords (match h.txn.commit with | some c => if c.window then c.last else h.txn.lastEnd | none => h.txn.lastEnd)) 0,
    wideHit o 0x10002C 2 (match h.time.leap with | some l => l.at_ | none => 0) 0,
    (match regIx o 0x200000 0x20 20 with
     | some (i, q) => if hi : i < 20 then wideHit q 8 2 (twos64 (h.ref.ins[i]).ofs) 0 |>.map (fun w => { w with base := o - q + 8 }) else none
     | none => none),
    wideHit o 0x300018 2 (twos64 freq) 0,
    wideHit o 0x300020 2 (twos64 h.deltaPs) 0,
    wideHit o 0x300044 2 (twos64 y0) 0,
    wideHit o 0x30004C 2 (twos64 age) 0,
    wideHit o 0x300060 2 hold 0]

/-- Wide values of OUT and CAL. -/
def Hw.wideOut (h : Hw) (o : Nat) : Option Wide :=
  firstHit [
    (match regIx o 0x400000 0x20 8 with
     | some (n, q) => wideHit q 4 2 (h.effN .outClkFreq n) 10000000000000 |>.map (fun w => { w with base := o - q + w.base })
     | none => none),
    (match regIx o 0x400200 0x40 4 with
     | some (n, q) =>
       (firstHit [wideHit q 4 2 ((h.effL .outPulsePeriod n).getD 1 1000000000000 / 1000) 1000000000,
                  wideHit q 0x10 2 (twos64 (h.effI .outPulseOffset n)) 0,
                  wideHit q 0x20 2 (if hn : n < 4 then twos64 (h.out.pulse[n]).phi else 0) 0]).map
         (fun w => { w with base := o - q + w.base })
     | none => none),
    wideHit o 0x500008 2 ((List.finRange 40).foldl (fun a c => if h.cal.tables[c].isEmpty then a + 2 ^ c.val else a) 0)
      1099511627775]

/-- The words of a seal sample slot. -/
def slotWords (s : Option Sample) : Nat :=
  match s with
  | some x => 2147483648 + 4294967296 * timeWords x.axis
  | none => 0

/-- Wide values of SEAL, LAT and DECK. -/
def Hw.wideNet (h : Hw) (o : Nat) : Option Wide :=
  let u := h.sealU
  firstHit [
    (match regIx o 0xA00100 0x20 8 with
     | some (q, x) => if hq : q < 8 then
         (firstHit [wideHit x 0 2 (u.queues[q]).desc 0, wideHit x 8 2 (u.queues[q]).cpl 0]).map
           (fun w => { w with base := o - x + w.base }) else none
     | none => none),
    (match regIx o 0xA00200 0x10 8 with
     | some (k, x) => if hk : k < 8 then some { base := o - x, words := 4, val := slotWords u.slots[k] } else none
     | none => none),
    wideHit o 0xA00400 2 u.next 0,
    wideHit o 0xA00408 2 u.ack 0,
    wideHit o 0xA00410 2 u.rel 0,
    wideHit o 0xA00420 2 u.uceSeq 0,
    wideHit o 0xB0000C 2 h.lat.root.node 0,
    wideHit o 0xB00014 2 nodeId nodeId,
    (match regIx o 0xB00100 0x40 4 with
     | some (n, x) => if hn : n < 4 then
         (firstHit [wideHit x 4 2 (twos64 (h.lat.link[n]).theta) 0, wideHit x 0x10 2 ((h.lat.link[n]).peer.getD 0) 0]).map
           (fun w => { w with base := o - x + w.base }) else none
     | none => none),
    (match regIx o 0xC00000 0x10000 2 with
     | some (n, x) => if hn : n < 2 then
         let d := h.deck.dk[n]
         (firstHit [wideHit x 4 2 (d.cid.getD 0) 0, wideHit x 0x20 2 d.txr 0, wideHit x 0x28 2 d.rxr 0,
           (match regIx x 0x200 0x10 64 with
            | some (a, y) => (wideHit y 4 2 (if d.role = 1 then ((d.at_ a).map (·.mid)).getD 0 else 0) 0).map
                (fun w => { w with base := x - y + w.base })
            | none => none)]).map (fun w => { w with base := o - x + w.base }) else none
     | none => none)]

/-- Wide values of IBEX, DMA, PWR, BUS, TALLY and NOTE. -/
def Hw.wideRest (h : Hw) (o : Nat) : Option Wide :=
  firstHit [
    wideHit o 0xD00010 2 h.ibex.pinIn.toNat 0,
    wideHit o 0xD00018 2 h.ibex.pinOut.toNat 0,
    wideHit o 0xD00020 2 h.ibex.pinOe.toNat 0,
    (match regIx o 0xD03000 0x80 8 with
     | some (k, x) => if hk : k < 8 then
         let c := h.ibex.kid[k]
         (firstHit [wideHit x 0x10 4 (c.pattern.toNat + 18446744073709551616 * c.mask.toNat) 0, wideHit x 0x20 2 c.sr.toNat 0]).map
           (fun w => { w with base := o - x + w.base }) else none
     | none => none),
    (match regIx o 0xE01000 0x80 16 with
     | some (n, x) => if hn : n < 16 then
         let c := h.dma.ch[n]
         (firstHit [wideHit x 0 2 c.src 0, wideHit x 8 2 c.dst 0, wideHit x 0x34 2 c.stat 0]).map
           (fun w => { w with base := o - x + w.base }) else none
     | none => none),
    wideHit o 0xF0004C 2 (min uncMax h.time.uSleep) 0,
    wideHit o 0xF80018 2 h.sys.uceAddr 0,
    wideHit o 0x1000010 2 h.tally.ring 0,
    wideHit o 0x100002C 2 h.tally.seq 0,
    (match regIx o 0x1001000 0x100 18 with
     | some (u, x) => if hu : u < 18 then
         (firstHit [wideHit x 0x10 2 (h.unitCycles ⟨u, hu⟩) 0, wideHit x 0x40 2 (h.tally.u[u]).snapCyc 0,
           (List.finRange 4).foldl (fun (w : Option Wide) (p : Fin 4) =>
             let t := h.tally.u[u]
             if t.chain[p] then
               match wideHit x (0x20 + 8 * p.val) 2 (t.c.toList.getD (2 * p.val) 0 + 4294967296 * t.c.toList.getD (2 * p.val + 1) 0) 0 with
               | some v => some v
               | none => w
             else w) none]).map
           (fun w => { w with base := o - x + w.base }) else none
     | none => none),
    (match regIx o 0x1100400 0x10 24 with
     | some (i, x) =>
       let t := h.note.faultAt.toList.getD i 0
       (wideHit x 0 2 (secOf t % 4294967296 + 4294967296 * nsOf t) 0).map (fun w => { w with base := o - x })
     | none => none)]

/-- The wide value that holds a word. -/
def Hw.wideAt (h : Hw) (o : Nat) : Option Wide :=
  if o < 0x100000 ∨ (0x100000 ≤ o ∧ o < 0x400000) then h.wideCore o
  else if o < 0x600000 then h.wideOut o
  else if o < 0xD00000 then h.wideNet o
  else h.wideRest o

/-- Word `k` of a value. -/
def wordOf (v k : Nat) : Word := BitVec.ofNat 32 (v >>> (32 * k))

end Sys2Proof.Machine
end

