-- ==== Sys2Proof/Machine/RegsWrite.lean ====
section
/-!
DEFINITION. The accesses of the host and of the DMA engine to BAR0 registers with their side effects: RC fields, shadows
(R7), staging (R8), W1C bits, RW fields with their clamps and range checks, and the registers that act (R2 to R8, R65).
-/
set_option autoImplicit false

namespace Sys2Proof.Machine

/-! ## RC fields -/

/-- Update the pulse of an RC read in one of the numbered arrays of counters. -/
def clearAt {n : Nat} (v : Vector Word n) (k : Nat) : Vector Word n := if h : k < n then v.set k 0 else v

/-- The clearing side of a read of an RC field (R4, R6). -/
def Hw.rcCore (h : Hw) (o : Nat) : Hw :=
  if o = 0x34 then { h with sys := { h.sys with tMax := 0 } }
  else if o = 0x120 then { h with mywi := { h.mywi with lines := 0 } }
  else if o = 0xF80010 then { h with sys := { h.sys with ceCnt := 0 } }
  else if o = 0xF80014 then { h with sys := { h.sys with uceCnt := 0 } }
  else if o = 0xF00044 then { h with pwr := { h.pwr with wakeArg := 0 } }
  else if o = 0xF00054 then { h with pwr := { h.pwr with entryCnt := 0 } }
  else if o = 0xF00058 then { h with pwr := { h.pwr with abortCnt := 0 } }
  else if o = 0x1000034 then { h with tally := { h.tally with skippedCnt := 0 } }
  else if o = 0x1000038 then { h with tally := { h.tally with lostCnt := 0 } }
  else if o = 0x110000C then { h with note := { h.note with consoleOnly := 0 } }
  else if o = 0xA00428 then { h with sealU := { h.sealU with lostCnt := 0 } }
  else match wordIx o 0x124 9 with
  | some f => { h with mywi := { h.mywi with errs := clearAt h.mywi.errs f } }
  | none => match regIx o 0x1100400 0x10 24 with
    | some (i, x) => if x = 8 then { h with note := { h.note with faultCnt := clearAt h.note.faultCnt i } } else h
    | none => h

/-- The clearing side of a read of a counter of REF, CAL, PORT, PRONG, SEAL, LAT or DECK. -/
def Hw.rcBlocks (h : Hw) (o : Nat) : Hw :=
  match wordIx o 0x200410 4 with
  | some n => if hn : n < 4 then h.updRef (gnssIn ⟨n, hn⟩) (fun r => { r with nmeaErr := 0 }) else h
  | none => match regIx o 0x500100 0x40 40 with
  | some (c, x) => if hc : c < 40 then (if x = 0x2C then h.updCal ⟨c, hc⟩ (fun q => { q with lost := 0 }) else h) else h
  | none => match regIx o 0x600000 0x40000 4 with
  | some (p, x) =>
    if hp : p < 4 then
      h.updPort ⟨p, hp⟩ (fun q =>
        if x = 0x44 then { q with late := 0 }
        else if x = 0x48 then { q with linkDrop := 0 }
        else if x = 0x4C then { q with parseDrop := 0 }
        else if x = 0x50 then { q with fcsErr := 0 }
        else if x = 0x54 then { q with fecUncorr := 0 }
        else q)
    else h
  | none => match wordIx o 0x800200 16 with
  | some i => if hi : i < 16 then h.updLp ⟨i, hi⟩ (fun l => { l with maxNs := 0, deep := 0 }) else h
  | none => match regIx o 0x801000 0x100 4 with
  | some (g, x) => if hg : g < 4 then
      { h with prong := { h.prong with cnt := h.prong.cnt.set g (clearAt h.prong.cnt[g] (x / 4)) } } else h
  | none => match wordIx o 0xA00300 10 with
  | some k => { h with sealU := { h.sealU with cnt := clearAt h.sealU.cnt k } }
  | none => match regIx o 0xB00100 0x40 4 with
  | some (n, x) => if hn : n < 4 then
      (match wordIx x 0x28 4 with
       | some k => h.updLink ⟨n, hn⟩ (fun l => { l with cnt := clearAt l.cnt k })
       | none => h) else h
  | none => match regIx o 0xC00000 0x10000 2 with
  | some (n, x) => if hn : n < 2 then
      (match wordIx x 0x100 9 with
       | some k => h.updDk ⟨n, hn⟩ (fun d => { d with cnt := clearAt d.cnt k })
       | none => h) else h
  | none => h

/-! ## Reads -/

/-- Three fresh levels for the balls of GLOBAL_PINS whose state no row of the machine tells. -/
def Hw.pinsRead (h : Hw) : Word × Hw :=
  let (a, h) := h.fresh
  (h.pinsWord ||| fld 0 (a % 64) ||| fld 9 (a / 64 % 8), h)

/-- A read of the first four words of AXIS, of AXIS_UNC or of AXIS_TRUST (chapter 1). -/
def Hw.axisRead (h : Hw) (o : Nat) : Word × Hw :=
  let t := h.time
  if o = 0x100000 then h.axisNow 0
  else if o = 0x100004 then (BitVec.ofNat 32 (nsOf t.nowSh.axis), h)
  else if o = 0x100008 then (BitVec.ofNat 32 (secOf t.nowSh.axis), h)
  else if o = 0x10000C then (fld 0 (secOf t.nowSh.axis / 4294967296), h)
  else if o = 0x100010 then
    if t.nowLast then (BitVec.ofNat 32 t.nowSh.unc, { h with time := { t with nowLast := false } })
    else (BitVec.ofNat 32 t.unc, { h with sys := { h.sys with shadow := reassoc 0x100014 (wordOf t.unc 1) h.sys.shadow } })
  else if o = 0x100014 then
    if t.nowLast then (wordOf t.nowSh.unc 1, h) else ((h.shadowGet 0x100014).getD 0xFFFFFFFF, h)
  else if t.trustSh then (t.nowSh.trust, { h with time := { t with trustSh := false } })
  else (h.trustWord, h)

/-- A read of a word of a wide value: the lowest captures the others (R7). -/
def Hw.wideRead (h : Hw) (w : Wide) (o : Nat) : Word × Hw :=
  if o = w.base then
    (wordOf w.val 0,
     { h with sys := { h.sys with
        shadow := (List.range (w.words - 1)).foldl (fun l k => reassoc (w.base + 4 * (k + 1)) (wordOf w.val (k + 1)) l) h.sys.shadow } })
  else ((h.shadowGet o).getD (wordOf w.reset ((o - w.base) / 4)), h)

/-- The words that act when they are read. -/
def Hw.actRead (h : Hw) (o : Nat) : Option (Word × Hw) :=
  if o < 0x10001C ∧ 0x100000 ≤ o then some (h.axisRead o)
  else if o = 0x2C then some h.pinsRead
  else match regIx o 0x500100 0x40 40 with
  | some (c, x) => if hc : c < 40 then (if x = 0x30 then some (h.calPop ⟨c, hc⟩) else none) else none
  | none => match regIx o 0xD02000 0x40 32 with
  | some (n, x) => if hn : n < 32 then (if x = 0x2C then some (h.rxfTake ⟨n, hn⟩) else none) else none
  | none => match regIx o 0xD03000 0x80 8 with
  | some (k, x) => if hk : k < 8 then (if x = 0x30 then some (h.kidCap ⟨k, hk⟩) else none) else none
  | none => none

/-- A 32-bit read of a BAR0 register with its side effects (R4 to R7); an isolated one reads 0 (R65). -/
def Hw.busRead (h : Hw) (off : Nat) : Word × Hw :=
  let o := off / 4 * 4
  if h.bar0Isolated o then (0, h.isoRecord o)
  else match h.actRead o with
    | some r => r
    | none => match h.wideAt o with
      | some w => h.wideRead w o
      | none => (h.regVal o, (h.rcCore o).rcBlocks o)

/-! ## Writes to settings -/

/-- The value of a number on a path, where its range and step allow it. -/
def keyVal (k : Key) (z : Int) : Option SVal :=
  match numberValue k.p.row.vt z with
  | .ok v => some v
  | .error _ => none

/-- Put a field of a register: nothing happens where the value is already in effect. -/
def Hw.fieldPut (h : Hw) (k : Key) (v : SVal) : Hw := if h.eff k = v then h else h.put k v

/-- Put a field whose value a path's range allows; another leaves it unchanged. -/
def Hw.fieldNum (h : Hw) (k : Key) (z : Int) : Hw :=
  match keyVal k z with
  | some v => h.fieldPut k v
  | none => h

/-- Put all fields of a register; one out of range, or a broken constraint, leaves the register unchanged and raises
`reg.range` (chapters 10 and 11). -/
def Hw.fieldsPut (h : Hw) (off : Nat) (l : List (Key × Option SVal)) : Hw :=
  if l.any (fun e => e.2.isNone) then h.regRange off
  else
    let l := l.filterMap (fun e => e.2.map (fun v => (e.1, v)))
    let l := l.filter (fun e => decide (h.eff e.1 ≠ e.2))
    let whole := l.foldl (fun (h : Hw) e => h.setMywi e.1 e.2) h
    if l.any (fun e => whole.violates e.1) then h.regRange off
    else l.foldl (fun (h : Hw) e => h.put e.1 e.2) h

/-- A number clamped into a range. -/
def clamp (lo hi n : Nat) : Nat := max lo (min hi n)

/-- A field as a path's value. -/
def numField (p : PathId) (i : Nat) (z : Int) : Key × Option SVal := (⟨p, i, 0⟩, keyVal ⟨p, i, 0⟩ z)

/-! ## The timekeeping blocks -/

/-- A bank list from the bits of KEEP_RETAIN. -/
def retainList (v : Word) : List Nat := (List.range 16).filter (fun b => v.getLsbD b || decide (b = 6 ∨ b = 7))

/-- The blocks a write of GLOBAL_BLOCK_RST names. -/
def resetBits (v : Word) : List RstBlock :=
  ((List.finRange 4).filter (fun (p : Fin 4) => v.getLsbD p)).map (fun (p : Fin 4) => RstBlock.port p) ++
  ((List.finRange 4).filter (fun (g : Fin 4) => v.getLsbD (4 + g))).map (fun (g : Fin 4) => RstBlock.group g) ++
  ((List.finRange 4).filter (fun (n : Fin 4) => v.getLsbD (8 + n))).map (fun (n : Fin 4) => RstBlock.lat n) ++
  ((List.finRange 2).filter (fun (n : Fin 2) => v.getLsbD (12 + n))).map (fun (n : Fin 2) => RstBlock.deck n) ++
  (if v.getLsbD 14 then [RstBlock.ibex] else []) ++ (if v.getLsbD 15 then [RstBlock.dma] else []) ++
  (if v.getLsbD 16 then [RstBlock.tally] else [])

/-- Deliver the bytes between IN_CONS and IN_PROD to the mailbox session while its input buffer has room (R159, R162);
0x00 bytes are ignored, and IN_DRAINED marks IN_CONS reaching IN_PROD. -/
def Hw.mbxTake (h : Hw) : Nat → Hw
  | 0 => h
  | n + 1 =>
    let s := h.mywi.sess[(2 : Fin 11)]
    if h.mywi.mbxInCons = h.mywi.mbxInProd ∨ (s.skip = false ∧ inSize < s.inUsed + 4) then h
    else
      let a := h.mywi.mbxInCons.toNat
      let l := (List.range 4).map (fun i => (mbxByte h.mywi.mbxIn (a + i)).toNat)
      let h := { h with mywi := { h.mywi with mbxInCons := h.mywi.mbxInCons + 4 } }.tcount 17 6 4
      let h := l.foldl (fun (h : Hw) b => if b = 0 then h else h.takeByte 2 (BitVec.ofNat 8 b)) h
      (if h.mywi.mbxInCons = h.mywi.mbxInProd then h.setMbx 1 else h).mbxTake n

/-- A write of GLOBAL_MBX_IN_PROD (R159). -/
def Hw.mbxInPut (h : Hw) (v : Word) : Hw :=
  if h.mywi.mbxResetBusy ∨ v.toNat % 4 ≠ 0 ∨ 4096 < (v - h.mywi.mbxInCons).toNat then h.setMbx 2
  else (({ h with mywi := { h.mywi with mbxInProd := v } }).mbxTake 1024).mbxPump 512

/-- GLOBAL_MBX_CTRL.RESET, completed (chapter 7): the mailbox session ends and all four indices are 0. -/
def Hw.mbxResetNow (h : Hw) : Hw :=
  let h := (h.endSes 2).updSes 2 (fun _ => {})
  { h with mywi := { h.mywi with mbxInProd := 0, mbxInCons := 0, mbxOutProd := 0, mbxOutCons := 0, mbxResetBusy := false } }

/-- A write to GLOBAL. -/
def Hw.wrGlobal (h : Hw) (o : Nat) (v : Word) : Hw :=
  if o = 0x30 then h.fieldPut ⟨.supplyAonWarnMv, 0, 0⟩ (.nat (clamp 1900 3300 (bits v 0 12)))
  else if o = 0x38 then h.fieldPut ⟨.supplyTjWarn, 0, 0⟩ (.nat (clamp 0x8223 0x9B87 (bits v 0 16)))
  else if o = 0x4C then h.resetByRegister (resetBits v)
  else if o = 0x100 then
    let h := { h with mywi := { h.mywi with mbxIrqEn := v.getLsbD 0, mbxResetBusy := h.mywi.mbxResetBusy || v.getLsbD 1 } }
    h.settleVecs
  else if o = 0x108 then h.mbxInPut v
  else if o = 0x114 then ({ h with mywi := { h.mywi with mbxOutCons := v } }).mbxPump 512
  else if o = 0x118 then
    let h := { h with mywi := { h.mywi with mbxEvt := h.mywi.mbxEvt &&& ~~~v } }
    (if h.mywi.mbxIrqEn ∧ h.mywi.mbxEvt &&& 3 ≠ 0 then h.sendVec 63 else h).settleVecs
  else match wordIx o 0x1000 1024 with
    | some k => { h with mywi := { h.mywi with mbxIn := sparseSet 0 k v h.mywi.mbxIn } }
    | none => h

/-- A write to REF_INn_CTRL: fields out of range are clamped or left unchanged. -/
def Hw.wrRef (h : Hw) (o : Nat) (v : Word) : Hw :=
  match regIx o 0x200000 0x20 20 with
  | some (i, 0) =>
    ((((h.fieldNum ⟨.refInEnable, i, 0⟩ (bits v 0 1)).fieldNum ⟨.refInPrio, i, 0⟩ (bits v 4 4)).fieldPut
      ⟨.refInHoldoff, i, 0⟩ (.nat (min 100 (bits v 15 7) * 100000000000))).fieldPut
      ⟨.refInWtr, i, 0⟩ (.nat (min 720 (bits v 22 10) * 1000000000000)))
  | _ => h

/-- A write to STEER. TRACK_BW may not be wider than ACQ_BW; each is tested against the other as the write leaves it
(chapter 9). -/
def Hw.wrSteer (h : Hw) (o : Nat) (v : Word) : Hw :=
  if o = 0x300000 then
    let put := fun (h : Hw) (p : PathId) (c : Nat) =>
      match bwTable[c]? with
      | none => h
      | some b =>
        let k : Key := ⟨p, 0, 0⟩
        if (h.setMywi k (.nat b)).violates k then h else h.fieldPut k (.nat b)
    let both : Hw → Option Hw := fun h =>
      match bwTable[bits v 0 4]?, bwTable[bits v 4 4]? with
      | some t, some a => if t ≤ a then
          some (if h.effN .steerAcqBw < t then (h.fieldPut ⟨.steerAcqBw, 0, 0⟩ (.nat a)).fieldPut ⟨.steerTrackBw, 0, 0⟩ (.nat t)
                else (h.fieldPut ⟨.steerTrackBw, 0, 0⟩ (.nat t)).fieldPut ⟨.steerAcqBw, 0, 0⟩ (.nat a)) else none
      | _, _ => none
    match both h with
    | some h => h
    | none => put (put h .steerAcqBw (bits v 4 4)) .steerTrackBw (bits v 0 4)
  else if o = 0x300004 then h.fieldPut ⟨.steerSlope, 0, 0⟩ (.nat (clamp 1 10000 (bits v 0 14) * 1000000000))
  else if o = 0x300008 then h.fieldPut ⟨.steerLockErr, 0, 0⟩ (.nat (clamp 1 10000 (bits v 0 14) * 1000))
  else h

/-- ALIGN of OUT_PULSEn_CTRL as the position of its name: 0 axis, 1 ref, 8 + n for CALn. -/
def alignPos (c : Nat) : Option SVal :=
  if c < 2 then some (.nat c) else if 8 ≤ c ∧ c < 32 then some (.nat (c - 6)) else none

/-- A write to OUT, but its wide values. -/
def Hw.wrOut (h : Hw) (o : Nat) (v : Word) : Hw :=
  match regIx o 0x400000 0x20 8 with
  | some (n, x) =>
    if x = 0 then h.fieldsPut o [numField .outOEnable n (bits v 31 1), numField .outOSquelch n (bits v 29 2), numField .outClkStd n (bits v 28 1)]
    else if x = 0xC then h.fieldsPut o [numField .outClkPhase n v.toNat]
    else if x = 0x10 then h.fieldsPut o [numField .outClkDelay n v.toNat]
    else h
  | none => match regIx o 0x400200 0x40 4 with
    | some (n, x) =>
      if x = 0 then
        h.fieldsPut o [numField .outOEnable (8 + n) (bits v 31 1), numField .outOSquelch (8 + n) (bits v 29 2),
          numField .outPulsePol n (bits v 28 1),
          (⟨.outPulsePeriod, n, 0⟩, some (.nats [bits v 26 2, (h.effL .outPulsePeriod n).getD 1 1000000000000])),
          (⟨.outPulseAlign, n, 0⟩, alignPos (bits v 21 5))]
      else if x = 0xC then h.fieldsPut o [numField .outPulseWidth n (v.toNat * 1000)]
      else if x = 0x18 then h.fieldsPut o [numField .outPulseDelay n v.toNat]
      else h
    | none => h

/-- A write to a register of one Caliper channel. -/
def Hw.wrCalCh (h : Hw) (c : Fin 40) (off x : Nat) (v : Word) : Hw :=
  let n := c.val
  let us := fun (p : PathId) (w : Nat) => h.fieldsPut off [numField p n (bits v 0 w * 1000000)]
  if x = 0 then
    h.fieldsPut off ([numField .calChEnable n (bits v 31 1), numField .calChMode n (bits v 28 3), numField .calChEdge n (bits v 26 2),
      numField .calChSigned n (bits v 24 1), numField .calChGateSrc n (bits v 23 1), numField .calChStatOf n (bits v 21 2),
      numField .calChCmp n (bits v 20 1), numField .calChDivide n (bits v 0 16 + 1)] ++
      (if n < 24 then [numField .calChStd n (bits v 25 1)] else []))
  else if x = 0x04 then h.fieldsPut off [numField .calChStop n (bits v 16 6), numField .calChStopEdge n (bits v 14 2)]
  else if x = 0x08 then us .calChTimeout 30
  else if x = 0x0C then us .calChGate 30
  else if x = 0x10 then h.fieldsPut off [numField .calChLookback n (bits v 0 30 * 1000)]
  else if x = 0x14 then h.fieldsPut off [numField .calChStatN n (bits v 0 16)]
  else if x = 0x18 then us .calChStatPeriod 26
  else if x = 0x1C then h.fieldsPut off [numField .calChMark n (bits v 0 12), numField .calChHyst n (bits v 16 12)]
  else if x = 0x20 then (if n < 24 then h.fieldsPut off [numField .calChDelay n v.toInt] else h)
  else if x = 0x28 then
    let h := { h with note := { h.note with calEvt := h.note.calEvt.set c (h.note.calEvt[c] &&& ~~~v) } }
    (h.reEval 10).calMarkTest c
  else h

/-- A write to CAL. -/
def Hw.wrCal (h : Hw) (o : Nat) (v : Word) : Hw :=
  if o = 0x500010 then h.calCdSel (bits v 0 6)
  else match regIx o 0x500100 0x40 40 with
  | some (c, x) => if hc : c < 40 then h.wrCalCh ⟨c, hc⟩ o x v else h
  | none => match regIx o 0x500C00 0x10 40 with
    | some (c, 0) => h.fieldsPut o [numField .calChCmpLo c (v.toInt * 1000)]
    | some (c, 4) => h.fieldsPut o [numField .calChCmpHi c (v.toInt * 1000)]
    | _ => h

/-! ## PRONG, SEAL, LAT, DECK -/

/-- A write to PRONG. -/
def Hw.wrProng (h : Hw) (o : Nat) (v : Word) : Hw :=
  if o = 0x800020 then
    if !v.getLsbD 31 then h else if v.getLsbD 30 then h.flushClass none else h.flushClass (some (bits v 0 6))
  else if o = 0x800030 then { h with prong := { h.prong with hashIn := h.prong.hashIn.set 0 v } }
  else if o = 0x800034 then { h with prong := { h.prong with hashIn := h.prong.hashIn.set 1 v } }
  else if o = 0x800040 then
    if v.getLsbD 31 then h.hashGo (v.getLsbD 0) else { h with prong := { h.prong with hashAf := v.getLsbD 0 } }
  else h

/-- A write to SEAL, but its wide values. -/
def Hw.wrSeal (h : Hw) (o : Nat) (v : Word) : Hw :=
  match regIx o 0xA00100 0x20 8 with
  | some (q, x) =>
    if hq : q < 8 then
      if x = 0x10 then h.updQ ⟨q, hq⟩ (fun k => { k with log2 := bits v 0 4, en := v.getLsbD 31 })
      else if x = 0x14 then h.sealQProd ⟨q, hq⟩ v
      else h
    else h
  | none => h

/-- A write to LAT_CFG: a PRIO of 0 leaves the field. -/
def Hw.wrLat (h : Hw) (o : Nat) (v : Word) : Hw :=
  if o = 0xB00000 then
    (List.range 4).foldl (fun (h : Hw) n => h.fieldPut ⟨.latLEnable, n, 0⟩ (.nat (bits v (8 + n) 1)))
      (h.fieldNum ⟨.latPrio, 0, 0⟩ (bits v 0 8))
  else h

/-- A write to a segment's registers, but its wide values. -/
def Hw.wrDk (h : Hw) (n : Fin 2) (x : Nat) (v : Word) : Hw :=
  if x = 0x30 then (h.updDk n (fun d => { d with txLog := bits v 0 4, txEn := v.getLsbD 31 })).txTake n
  else if x = 0x34 then h.updDk n (fun d => { d with rxLog := bits v 0 4, rxEn := v.getLsbD 31 })
  else if x = 0x38 then h.deckTxProd n v
  else if x = 0x48 then h.updDk n (fun d => { d with rxCons := v })
  else h

/-- A write to DECK. -/
def Hw.wrDeck (h : Hw) (o : Nat) (v : Word) : Hw :=
  match regIx o 0xC00000 0x10000 2 with
  | some (n, x) => if hn : n < 2 then h.wrDk ⟨n, hn⟩ x v else h
  | none => h

/-! ## IBEX, DMA, EVT, PWR -/

/-- A write to a Herd channel's registers. -/
def Hw.wrCh (h : Hw) (n : Fin 32) (x : Nat) (v : Word) : Hw :=
  if x = 0 then h.chCfgWrite n 0 v
  else if x = 4 then h.chCfgWrite n 1 v
  else if x = 8 then h.chCfgWrite n 2 v
  else h.chFree n (fun h =>
    if x = 0x0C then
      let h := if v.getLsbD 1 then h.chRestart n else h
      if v.getLsbD 2 then h.chFlush n else h
    else if x = 0x20 then h.updCh n (fun c => { c with flags := c.flags &&& ~~~v })
    else if x = 0x24 then h.inject n (v.setWidth 24)
    else if x = 0x28 then h.txfPut n v
    else h)

/-- A write to a Kid lane's registers; the pair's lower words are staged until MASK_HI is written (R395). -/
def Hw.wrKid (h : Hw) (k : Fin 8) (x : Nat) (v : Word) : Hw :=
  if x = 0 then h.kidCfgWrite k 0 v
  else if x = 4 then h.kidCfgWrite k 1 v
  else if x = 8 then h.kidCfgWrite k 2 v
  else if x = 0x10 ∨ x = 0x14 ∨ x = 0x18 then h.stagePut (kidOff k x) v
  else if x = 0x1C then h.kidPair k v
  else if x = 0x28 then h.updKid k (fun c => { c with flags := c.flags &&& ~~~v })
  else if x = 0x2C then h.kidLoad k v
  else h

/-- A write to IBEX. -/
def Hw.wrIbex (h : Hw) (o : Nat) (v : Word) : Hw :=
  match wordIx o 0xD00040 3 with
  | some j => (List.range 16).foldl (fun (h : Hw) i => h.fieldNum ⟨.ibexPinPull, 16 * j + i, 0⟩ (bits v (2 * i) 2)) h
  | none => match wordIx o 0xD01000 512 with
    | some a => h.storeWrite a v
    | none => match regIx o 0xD02000 0x40 32 with
      | some (n, x) => if hn : n < 32 then h.wrCh ⟨n, hn⟩ x v else h
      | none => match regIx o 0xD03000 0x80 8 with
        | some (k, x) => if hk : k < 8 then h.wrKid ⟨k, hk⟩ x v else h
        | none => h

/-- CTRL of a DMA channel: its bits act in ascending order. -/
def Hw.dmaCtrlBits (h : Hw) (n : Fin 16) (v : Word) : Hw :=
  if h.dmaReserved n then h
  else
    let h := if v.getLsbD 0 then h.dmaStartNow n else h
    let h := if v.getLsbD 1 then h.dmaAbort n else h
    let h := if v.getLsbD 2 then h.dmaPause n else h
    if v.getLsbD 3 then h.dmaResume n else h

/-- A write to a DMA channel's registers, but its wide values. -/
def Hw.wrDmaCh (h : Hw) (n : Fin 16) (off x : Nat) (v : Word) : Hw :=
  if x = 0x10 then h.dmaWrite n (fun c => { c with count := bits v 0 25 })
  else if x = 0x14 then h.dmaWrite n (fun c => { c with cfg := v &&& 0xFFFFFF })
  else if x = 0x18 then h.dmaCtrlBits n v
  else if x = 0x24 then (if h.dmaReserved n then h else h.dmaHostPut n v)
  else if x = 0x2C then h.dmaMarkWrite n off (fun c => { c with mark := some (bits v 0 25) })
  else if x = 0x30 then h.dmaMarkWrite n off (fun c => { c with hyst := some (bits v 0 25) })
  else if x = 0x3C then
    if h.dmaReserved n then h
    else
      let h := { h with note := { h.note with dmaEvt := h.note.dmaEvt.set n (h.note.dmaEvt[n] &&& ~~~v) } }
      (h.reEval 21).dmaMark n
  else h

/-- A write to DMA. -/
def Hw.wrDma (h : Hw) (o : Nat) (v : Word) : Hw :=
  match regIx o 0xE01000 0x80 16 with
  | some (n, x) => if hn : n < 16 then h.wrDmaCh ⟨n, hn⟩ o x v else h
  | none => h

/-- A write to EVT. -/
def Hw.wrEvt (h : Hw) (o : Nat) (v : Word) : Hw :=
  if o = 0xE80000 then h.evtSoft (v &&& 0x3FF)
  else match regIx o 0xE81000 0x20 96 with
  | some (t, x) =>
    if ht : t < 96 then
      if x = 0x10 then
        let h := if v.getLsbD 8 then h.ovfClear ⟨t, ht⟩ else h
        if v.getLsbD 16 then h.taskClear ⟨t, ht⟩ else h
      else if x < 0x10 then h.routeWrite ⟨t, ht⟩ (x / 4) v
      else h
    else h
  | none => h

/-- The value of a Graze step whose words are these: four numbers when enabled, a fifth marks it disabled. -/
def stepVal (w0 w1 : Word) : SVal :=
  if w0 = 0 ∧ w1 &&& 0xFFFF003F = 0 then .nats []
  else .nats ([bits w0 0 16, bits w0 16 16, bits w1 16 16, w1.toNat / 2 % 32 * 2] ++ (if w1.getLsbD 0 then [] else [0]))

/-- A write to PWR. -/
def Hw.wrPwr (h : Hw) (o : Nat) (v : Word) : Hw :=
  if o = 0xF00040 then { h with pwr := { h.pwr with hostVote := v &&& 0x103FF } }
  else match regIx o 0xF00100 0x10 8 with
  | some (k, x) =>
    let ws := stepWords (h.effL .pwrGrazeStep k)
    if x = 0 then h.fieldPut ⟨.pwrGrazeStep, k, 0⟩ (stepVal v ws.2)
    else if x = 4 then h.fieldPut ⟨.pwrGrazeStep, k, 0⟩ (stepVal ws.1 v)
    else h
  | none => h

/-! ## TALLY and NOTE -/

/-- A ring register of TALLY: no effect while snapshots are enabled; `reg.range` where the value, or both together once both
are given, is one R457 refuses. -/
def Hw.tallyRingPut (h : Hw) (off ring log2 : Nat) : Hw :=
  if h.tally.enable then h
  else if (ring ≠ 0 ∧ !tallyRingOk ring (2 ^ max 4 log2)) ∨ (log2 ≠ 0 ∧ (log2 < 4 ∨ 16 < log2)) then h.regRange off
  else ({ h with tally := { h.tally with ring := ring, log2 := log2 } }).setMywi ⟨.tallyRing, 0, 0⟩
    (if log2 = 0 then .none else .nats [ring, 2 ^ log2])

/-- A write of MARK or HYST; one that leaves the hysteresis above the mark is discarded. -/
def Hw.tallyMarkPut (h : Hw) (off : Nat) (f : TallySt → TallySt) : Hw :=
  let t := f h.tally
  if t.markVal < t.hystVal then h.regRange off
  else ((({ h with tally := t } : Hw).setMywi ⟨.tallyMark, 0, 0⟩ (if t.mark.isSome then .nat t.markVal else .none)).setMywi
    ⟨.tallyHyst, 0, 0⟩ (if t.hyst.isSome then .nat t.hystVal else .none)).tallyMark

/-- A write to a unit's registers (R449). -/
def Hw.wrUnit (h : Hw) (u : Fin 18) (off x : Nat) (v : Word) : Hw :=
  let lanes := fun (k : Nat) =>
    let l := (List.range 4).map (fun j => (k + j, bits v (8 * j) 8))
    if l.any (fun e => decide (unitCodes u < e.2)) then h.regRange off
    else h.unitChange u (fun x => { x with selNew := l.foldl (fun s e => if he : e.1 < 8 then s.set e.1 e.2 else s) x.selNew })
  if x = 0 then h.unitChange u (fun x => { x with chainNew := Vector.ofFn (fun (p : Fin 4) => v.getLsbD p) })
  else if x = 4 then lanes 0
  else if x = 8 then lanes 4
  else if x = 0xC then h.updUnit u (fun x => { x with wrap := x.wrap &&& ~~~(v.setWidth 8) })
  else h

/-- A write to TALLY. -/
def Hw.wrTally (h : Hw) (o : Nat) (v : Word) : Hw :=
  let t := h.tally
  if o = 0x1000000 then
    let ms := bits v 8 16
    if ms = 0 ∨ 10000 < ms then h.regRange o
    else
      let h := { h with tally := { t with free := v.getLsbD 1 } }
      if t.enable ≠ v.getLsbD 0 ∨ t.periodMs ≠ ms then h.tallySchedule (v.getLsbD 0) ms else h
  else if o = 0x1000018 then h.tallyRingPut o t.ring (bits v 0 5)
  else if o = 0x1000020 then h.tallyHostPut v
  else if o = 0x1000024 then h.tallyMarkPut o (fun t => { t with mark := some (bits v 0 17) })
  else if o = 0x1000028 then h.tallyMarkPut o (fun t => { t with hyst := some (bits v 0 17) })
  else match regIx o 0x1001000 0x100 18 with
  | some (u, x) => if hu : u < 18 then h.wrUnit ⟨u, hu⟩ o x v else h
  | none => h

/-- A write to NOTE. -/
def Hw.wrNote (h : Hw) (o : Nat) (v : Word) : Hw :=
  if o = 0x1100010 then h.clearFaults (v.setWidth 24)
  else match regIx o 0x1100100 0x10 28 with
  | some (s, x) =>
    if hs : s < 28 then
      if x = 0 then (h.setMywi ⟨.noteSMask, s, 0⟩ (.nat v.toNat)).reEval ⟨s, hs⟩
      else if x = 4 then
        let vec := bits v 8 6
        if vec = 63 then h.regRange o
        else
          let l := (List.range 4).filter (fun k => v.getLsbD k)
          let m := if v.getLsbD 15 then [vec] else if vec = 0 then [] else [vec, 0]
          ((h.setMywi ⟨.noteSIrq, s, 0⟩ (.nats l)).setMywi ⟨.noteSMsix, s, 0⟩ (.nats m)).reEval ⟨s, hs⟩
      else h
    else h
  | none => h

/-! ## Wide values (R8) -/

/-- A two's complement number from 64 bits. -/
def signed64 (n : Nat) : Int := if n < 9223372036854775808 then n else (n : Int) - 18446744073709551616

/-- The effect of a wide value written whole at the lowest word's offset; none where no writable value lies there. -/
def Hw.widePut (h : Hw) (lo : Nat) : Option (Nat → Hw) :=
  match regIx lo 0x400000 0x20 8 with
  | some (n, 4) => some (fun v => h.fieldsPut (lo + 4) [numField .outClkFreq n v])
  | some _ => none
  | none => match regIx lo 0x400200 0x40 4 with
  | some (n, 4) => some (fun v =>
      if 1000000 ≤ v ∧ v ≤ 60000000000 then
        h.fieldsPut (lo + 4) [(⟨.outPulsePeriod, n, 0⟩, some (.nats [(h.effL .outPulsePeriod n).headD 0, v * 1000]))]
      else h.regRange (lo + 4))
  | some (n, 0x10) => some (fun v => h.fieldsPut (lo + 4) [numField .outPulseOffset n (signed64 v)])
  | some _ => none
  | none => match regIx lo 0xA00100 0x20 8 with
  | some (q, x) =>
    if hq : q < 8 then
      if x = 0 then some (fun v => h.updQ ⟨q, hq⟩ (fun k => { k with desc := v }))
      else if x = 8 then some (fun v => h.updQ ⟨q, hq⟩ (fun k => { k with cpl := v }))
      else none
    else none
  | none =>
  if lo = 0xA00408 then some (fun v => h.sealAck v)
  else match regIx lo 0xC00000 0x10000 2 with
  | some (n, x) =>
    if hn : n < 2 then
      if x = 0x20 then some (fun v => h.updDk ⟨n, hn⟩ (fun d => { d with txr := v }))
      else if x = 0x28 then some (fun v => h.updDk ⟨n, hn⟩ (fun d => { d with rxr := v }))
      else none
    else none
  | none => match regIx lo 0xE01000 0x80 16 with
  | some (n, x) =>
    if hn : n < 16 then
      if x = 0 then some (fun v => h.dmaWrite ⟨n, hn⟩ (fun c => { c with src := v }))
      else if x = 8 then some (fun v => h.dmaWrite ⟨n, hn⟩ (fun c => { c with dst := v }))
      else if x = 0x34 then some (fun v => h.dmaWrite ⟨n, hn⟩ (fun c => { c with stat := v }))
      else none
    else none
  | none =>
  if lo = 0x1000010 then some (fun v => h.tallyRingPut (lo + 4) v h.tally.log2) else none

/-- A descriptor register of a DMA channel that cannot be written now (R405). -/
def Hw.dmaHeld (h : Hw) (o : Nat) : Bool :=
  match regIx o 0xE01000 0x80 16 with
  | some (n, _) => if hn : n < 16 then h.dmaLocked ⟨n, hn⟩ || h.dmaReserved ⟨n, hn⟩ else false
  | none => false

/-- A write to a word of a writable wide value: a lower word is staged, the highest makes the whole take effect. -/
def Hw.wideWrite (h : Hw) (o : Nat) (v : Word) : Option Hw :=
  match h.wideAt o with
  | none => none
  | some w =>
    match h.widePut w.base with
    | none => none
    | some put =>
      if o = w.base then
        some (if h.dmaHeld o then put w.val else h.stagePut o v)
      else
        let lo := (h.stageGet w.base (wordOf w.val 0)).toNat
        some ((put (v.toNat * 4294967296 + lo)).stageDrop w.base 4)

/-! ## One register -/

/-- The notice source whose register lies at an offset (Table 24.1), but the summaries 10, 21 and 22 and NOTE_FAULT. -/
def evtSource (o : Nat) : Option (Fin 28) :=
  if o = 0x1C then some 0 else if o = 0x24 then some 1 else if o = 0x50 then some 2 else if o = 0x7C then some 3
  else if o = 0x100038 then some 4 else if o = 0x100104 then some 5 else if o = 0x200408 then some 6
  else if o = 0x300080 then some 7 else if o = 0x400400 then some 8 else if o = 0x500004 then some 9
  else if o = 0x600040 then some 11 else if o = 0x640040 then some 12 else if o = 0x680040 then some 13
  else if o = 0x6C0040 then some 14 else if o = 0x800004 then some 15 else if o = 0xA00004 then some 16
  else if o = 0xB00020 then some 17 else if o = 0xC0000C then some 18 else if o = 0xC1000C then some 19
  else if o = 0xD00008 then some 20 else if o = 0xF0005C then some 23 else if o = 0xF80004 then some 24
  else if o = 0x1000008 then some 25 else if o = 0x1200018 then some 26 else none

/-- A W1C of a source register: the bits clear, the source is evaluated anew, and a watermark re-arms (R320, R454). -/
def Hw.w1cSource (h : Hw) (s : Fin 28) (v : Word) : Hw :=
  let h := h.w1cEvt s v
  if s = 16 then h.jrnMark else if s = 25 then h.tallyMark else h

/-- A word of the Keep window is stored; what a lost bank reads as there is covered by what is written. -/
def Hw.keepPut (h : Hw) (o : Nat) (v : Word) : Hw :=
  let b := 8 + (o - 0x2000000) / 0x40000
  let w := match h.keepSeed.toList.getD b none with
    | some n => v ^^^ BitVec.ofNat 32 (Config.freshNat (n + (o - 0x2000000) % 0x40000 / 4))
    | none => v
  { h with keep := sparseSet 0 o w h.keep }

/-- A word of the MSI-X table (R66): vectors held back are settled anew. -/
def Hw.msixPut (h : Hw) (o : Nat) (v : Word) : Hw :=
  let k := (o - 0x3000000) / 4
  ({ h with sys := { h.sys with msixTab := sparseSet (if k % 4 = 3 then (1 : Word) else 0) k v h.sys.msixTab } }).settleVecs

/-- The effect of a 32-bit write by the block its offset lies in. -/
def Hw.wrBlock (h : Hw) (o : Nat) (v : Word) : Hw :=
  if o < 0x100000 then h.wrGlobal o v
  else if o < 0x200000 then h
  else if o < 0x300000 then h.wrRef o v
  else if o < 0x400000 then h.wrSteer o v
  else if o < 0x500000 then h.wrOut o v
  else if o < 0x600000 then h.wrCal o v
  else if o < 0x800000 then h
  else if o < 0xA00000 then h.wrProng o v
  else if o < 0xB00000 then h.wrSeal o v
  else if o < 0xC00000 then h.wrLat o v
  else if o < 0xD00000 then h.wrDeck o v
  else if o < 0xE00000 then h.wrIbex o v
  else if o < 0xE80000 then h.wrDma o v
  else if o < 0xF00000 then h.wrEvt o v
  else if o < 0xF80000 then h.wrPwr o v
  else if o < 0x1000000 then (if o = 0xF80020 then h.fieldPut ⟨.keepRetain, 0, 0⟩ (.nats (retainList v)) else h)
  else if o < 0x1100000 then h.wrTally o v
  else if o < 0x1200000 then h.wrNote o v
  else if 0x2000000 ≤ o ∧ o < 0x2200000 then h.keepPut o v
  else if 0x3000000 ≤ o ∧ o < 0x3000400 then h.msixPut o v
  else h

/-- A 32-bit write to a BAR0 register (R2 to R8, R65). A write at an address that is no multiple of 4 is discarded with
`bus.width`. -/
def Hw.busWrite (h : Hw) (off : Nat) (v : Word) : Hw :=
  if off % 4 ≠ 0 then h.notice 24 0 "bus.width" [("off", "0x" ++ hexPad 8 off)]
  else if h.bar0Isolated off then h.isoRecord off
  else match evtSource off with
    | some s => h.w1cSource s v
    | none => match h.wideWrite off v with
      | some h => h
      | none => h.wrBlock off v

/-! ## Rows -/

/-- The size of BAR0. -/
def bar0Size : Nat := 0x4000000

/-- REGISTER_WRITE (R4). An offset outside the 64 MiB of BAR0 does not exist. -/
def execRegisterWrite (off : Nat) (v : Word) (s : State) : Host.Outcome State Fault Refusal :=
  if bar0Size ≤ off then .fault .noSuchAddress else s.onWrite (fun h => h.busWrite off v)

/-- WIDE_VALUE_HIGH_WRITE (R8). -/
def execWideValueHighWrite (off : Nat) (v : Word) (s : State) : Host.Outcome State Fault Refusal :=
  if bar0Size ≤ off then .fault .noSuchAddress else s.onWrite (fun h => h.busWrite off v)

/-- A host read of one register. -/
def Hw.hostRead (h : Hw) (off : Nat) : Hw :=
  let (w, h) := h.busRead off
  h.ret [w]

/-- WIDE_VALUE_LOW_READ (R7). -/
def execWideValueLowRead (off : Nat) (s : State) : Host.Outcome State Fault Refusal :=
  if bar0Size ≤ off then .fault .noSuchAddress else s.onRead (fun h => h.hostRead off)

/-- RC_FIELD_READ (R6). -/
def execRcFieldRead (off : Nat) (s : State) : Host.Outcome State Fault Refusal :=
  if bar0Size ≤ off then .fault .noSuchAddress else s.onRead (fun h => h.hostRead off)

/-- DMA_BURST (R410): the arbiter grants the next burst; a register side reads and writes as the host does. -/
def execDmaBurst (s : State) : Host.Outcome State Fault Refusal := s.on (fun h => h.dmaBurst Hw.busRead Hw.busWrite)

end Sys2Proof.Machine
end

