-- ==== Sys2Proof/Machine/Balls.lean ====
section
/-!
DEFINITION. The signal balls (R72, R90, R113, Tables 4.4 and 5.4): bank, domain, reset state and isolated state of each, when it
leaves its reset state, and what the engine drives on it. Frames and bytes are whole (notes/assumptions/72.md), so a line that
carries them shows its idle level between commands.
-/
set_option autoImplicit false

namespace Sys2Proof.Machine

/-- The signal balls of Table 4.4; `neg` is the _N ball of a pair. -/
inductive Ball where
  | laneTx (p k : Fin 4) (neg : Bool) | laneRx (p k : Fin 4) (neg : Bool)
  | latTx (n : Fin 4) (neg : Bool) | latRx (n : Fin 4) (neg : Bool)
  | perst | clkreq | mdc | mdio
  | mgmtTx (neg : Bool) | mgmtRx (neg : Bool) | refclk (neg : Bool)
  | gpps (n : Fin 4) | gserRx (n : Fin 4) | gserTx (n : Fin 4)
  | fref (n : Fin 2) (neg : Bool) | apps (n : Fin 2) | alock (n : Fin 2)
  | oscIn (neg : Bool) | oscEn | xo32
  | cal (n : Fin 24) (neg : Bool) | clkout (n : Fin 8) (neg : Bool) | pulse (n : Fin 4) | ibx (n : Fin 48)
  | dkTxd (n : Fin 2) | dkRxd (n : Fin 2) | dkDe (n : Fin 2) | dkRe (n : Fin 2)
  | pmbScl | pmbSda | pmbAlert | wkScl | wkSda | wakeN | resetN
  | irq (n : Fin 4)
  | con0Txd | con0Rts | con0Rxd | con0Cts
  | hspiSck | hspiCs | hspiMosi | hspiMiso | hspiRdy
  | qspiSck | qspiCs | qspiRst | qspiIo (n : Fin 4)
  | pcieTx (n : Fin 4) (neg : Bool) | pcieRx (n : Fin 4) (neg : Bool)
  | rcal (n : Fin 2) | tdiode (neg : Bool) | vsense (vss : Bool) | ft (n : Fin 4)
deriving DecidableEq, Repr

/-- What a ball shows to the board. -/
inductive Drive where
  | unpowered | low | high | hiZ | hiZUp | hiZDown | electricalIdle
  | input | inputUp | inputDown | selfBiased | failSafe | ignored | carrierOnly
  /-- In service: the signal its block sends or terminates. -/
  | live
  | analog
deriving DecidableEq, Repr

/-- Both balls of each pair of a list. -/
def bothOf {α : Type} (l : List α) (f : α → Bool → Ball) : List Ball := l.flatMap (fun x => [f x false, f x true])

/-- The balls in the order of `signalNames`. -/
def allBalls : List Ball :=
  (List.finRange 4).flatMap (fun p => (List.finRange 4).flatMap (fun k =>
    [.laneTx p k false, .laneTx p k true, .laneRx p k false, .laneRx p k true])) ++
  (List.finRange 4).flatMap (fun n => [.latTx n false, .latTx n true, .latRx n false, .latRx n true]) ++
  [.perst, .clkreq, .mdc, .mdio, .mgmtTx false, .mgmtTx true, .mgmtRx false, .mgmtRx true, .refclk false, .refclk true] ++
  (List.finRange 4).map .gpps ++ (List.finRange 4).flatMap (fun n => [.gserRx n, .gserTx n]) ++
  bothOf (List.finRange 2) .fref ++ (List.finRange 2).map .apps ++ (List.finRange 2).map .alock ++
  [.oscIn false, .oscIn true, .oscEn, .xo32] ++ bothOf (List.finRange 24) .cal ++ bothOf (List.finRange 8) .clkout ++
  (List.finRange 4).map .pulse ++ (List.finRange 48).map .ibx ++
  (List.finRange 2).flatMap (fun n => [.dkTxd n, .dkRxd n, .dkDe n, .dkRe n]) ++
  [.pmbScl, .pmbSda, .pmbAlert, .wkScl, .wkSda, .wakeN, .resetN] ++ (List.finRange 4).map .irq ++
  [.con0Txd, .con0Rts, .con0Rxd, .con0Cts, .hspiSck, .hspiCs, .hspiMosi, .hspiMiso, .hspiRdy, .qspiSck, .qspiCs, .qspiRst] ++
  (List.finRange 4).map .qspiIo ++
  bothOf (List.finRange 4) .pcieTx ++ bothOf (List.finRange 4) .pcieRx ++ (List.finRange 2).map .rcal ++
  [.tdiode false, .tdiode true, .vsense false, .vsense true] ++ (List.finRange 4).map .ft

/-- The bank of a ball is powered (Table 4.4): its rail's bit of GLOBAL_SUPPLY.PG, or VDD_AON above V_BOR. -/
def Hw.bankOn (h : Hw) : Ball → Bool
  | .laneTx .. | .laneRx .. | .latTx .. | .latRx .. | .pcieTx .. | .pcieRx .. | .mgmtTx _ | .mgmtRx _ => h.sys.pg.getLsbD 3
  | .refclk _ | .rcal _ => h.sys.pg.getLsbD 2
  | .fref .. | .oscIn _ => h.sys.pg.getLsbD 7
  | .cal .. | .clkout .. | .qspiSck | .qspiCs | .qspiRst | .qspiIo _ | .ft _ => h.sys.pg.getLsbD 5
  | .ibx n => if n.val < 24 then h.sys.pg.getLsbD 5 else h.sys.pg.getLsbD 6
  | .oscEn | .xo32 | .pmbScl | .pmbSda | .pmbAlert | .wkScl | .wkSda | .wakeN | .resetN => h.sys.aonUp
  | .perst | .clkreq | .mdc | .mdio | .gpps _ | .gserRx _ | .gserTx _ | .apps _ | .alock _ | .pulse _
  | .dkTxd _ | .dkRxd _ | .dkDe _ | .dkRe _ | .irq _ | .con0Txd | .con0Rts | .con0Rxd | .con0Cts
  | .hspiSck | .hspiCs | .hspiMosi | .hspiMiso | .hspiRdy => h.sys.pg.getLsbD 6
  | .tdiode _ | .vsense _ => true

/-- The reset state of Table 4.4. -/
def Ball.reset : Ball → Drive
  | .laneTx .. | .latTx .. | .pcieTx .. | .mgmtTx _ => .electricalIdle
  | .laneRx .. | .latRx .. | .pcieRx .. | .mgmtRx _ | .refclk _ | .perst | .xo32 | .pmbAlert | .wakeN | .resetN
  | .hspiSck | .hspiMosi | .ft _ => .input
  | .clkreq | .pmbScl | .pmbSda | .wkScl | .wkSda | .irq _ | .hspiMiso => .hiZ
  | .mdc | .pulse _ | .dkDe _ | .dkRe _ | .qspiSck | .qspiRst => .low
  | .mdio | .gserTx _ | .con0Txd | .con0Rts | .qspiIo _ => .hiZUp
  | .gpps _ | .apps _ | .alock _ => .inputDown
  | .gserRx _ | .dkRxd _ | .con0Rxd | .con0Cts | .hspiCs => .inputUp
  | .fref .. | .oscIn _ => .selfBiased
  | .oscEn | .dkTxd _ | .qspiCs => .high
  | .cal .. => .failSafe
  | .clkout _ neg => if neg then .high else .low
  | .ibx _ | .hspiRdy => .hiZDown
  | .rcal _ | .tdiode _ | .vsense _ => .analog

/-- The domain whose isolation puts a ball into an isolated state, and that state (Table 4.4); none for a dash. -/
def Ball.isolated : Ball → Option (Domain × Drive)
  | .laneTx .. => some (.port, .electricalIdle)
  | .laneRx .. => some (.port, .input)
  | .latTx .. => some (.lat, .electricalIdle)
  | .latRx .. => some (.lat, .input)
  | .gpps _ | .gserRx _ | .fref .. | .apps _ | .alock _ | .cal .. => some (.ref, .ignored)
  | .gserTx _ => some (.ref, .high)
  | .clkout _ neg => some (.ref, if neg then .high else .low)
  | .pulse _ => some (.ref, .low)
  | .ibx _ => some (.ibex, .hiZDown)
  | .dkTxd _ => some (.deck, .high)
  | .dkRxd _ => some (.deck, .carrierOnly)
  | .dkDe _ | .dkRe _ => some (.deck, .low)
  | _ => none

/-- The event of Table 5.4 at which a ball leaves its reset state has happened. -/
def Hw.ballReleased (h : Hw) : Ball → Bool
  | .oscEn => true
  | .qspiRst | .qspiSck | .qspiCs | .qspiIo _ => decide (3 ≤ h.sys.stage)
  | .pcieTx .. | .pcieRx .. | .clkreq => !h.sys.perst
  | .con0Txd | .con0Rts => h.mywi.openM
  | .pmbScl | .pmbSda => decide (8 ≤ h.sys.stage)
  | .ibx n => h.sys.released && h.ibex.mapped.getLsbD n.val
  | .irq _ | .hspiRdy => h.sys.done
  | _ => h.sys.released

/-- What the engine drives on a ball in service. -/
def Hw.ballLive (h : Hw) : Ball → Drive
  | .oscEn => if h.sys.oscEn then .high else .low
  | .pulse n =>
    let x := h.out.pulse[n]
    let on := match x.until_ with | some u => decide (h.time.axis < u) | none => false
    if !h.effB .outOEnable (8 + n.val) then .low
    else if on = decide (h.effN .outPulsePol n.val = 0) then .high else .low
  | .clkout n neg =>
    if !h.effB .outOEnable n.val || (h.out.clk[n]).squelched then (if neg then .high else .low) else .live
  | .ibx n =>
    if h.ibex.pinOe.getLsbD n.val then (if h.ibex.pinOut.getLsbD n.val then .high else .low)
    else match h.effN .ibexPinPull n.val with
      | 0 => .hiZDown | 1 => .hiZUp | _ => .hiZ
  | .dkTxd _ | .con0Txd | .qspiCs | .qspiRst | .gserTx _ => .high
  | .dkDe _ | .dkRe _ | .qspiSck | .mdc => .low
  | .con0Rts => if h.mywi.rtsHigh then .high else .low
  | .irq n => if h.irqLow n.val then .low else .hiZ
  | .hspiRdy => if h.mywi.hspiRdy then .high else .low
  | .laneTx .. | .latTx .. | .pcieTx .. | .mgmtTx _ | .laneRx .. | .latRx .. | .pcieRx .. | .mgmtRx _ => .live
  | b => b.reset

/-- R72, R90 and R113: a ball of an unpowered bank is not driven; until its event of Table 5.4 it keeps its reset state; while
its domain is isolated or down it has its isolated state; in service it follows its block. -/
def Hw.ball (h : Hw) (b : Ball) : Drive :=
  if !h.bankOn b then .unpowered
  else if !h.ballReleased b then b.reset
  else match b.isolated with
    | some (d, x) => if h.domUp d then h.ballLive b else x
    | none => h.ballLive b

/-- The level of a ball, when the engine drives it or a command has told it; none for what the board decides. -/
def Hw.ballLevel (h : Hw) (b : Ball) : Option Bool :=
  match h.ball b with
  | .low => some false
  | .high => some true
  | _ => match b with
    | .perst => some (!h.sys.perst)
    | .wakeN => some (!h.pwr.wakeN)
    | .alock n => some (if n.val = 0 then h.pinsWord.getLsbD 6 else h.pinsWord.getLsbD 7)
    | .ft _ => some false
    | _ => none

end Sys2Proof.Machine
end

