-- ==== Sys2Proof/Machine/Show.lean ====
section
/-!
DEFINITION. What `show` answers (R472, Table 23.7 and the chapters' examples): the values of settings as they are in effect,
and the bodies of status paths.
-/
set_option autoImplicit false

namespace Sys2Proof.Machine

/-- One body line. -/
def kv (k v : String) : String := k ++ "=" ++ v

/-- A time in ps shown in ns. -/
def nsText (ps : Int) : String := showPs 1 ps

/-- The positions of a list that hold, joined. -/
def posList (l : List Bool) : String := showList ((l.zipIdx.filter (·.1)).map (fun p => toString p.2))

/-- Eight hexadecimal digits in two groups. -/
def hex4_4 (n : Nat) : String := (upperHex 4 (n / 65536)) ++ "_" ++ upperHex 4 (n % 65536)

/-- Bytes as hex groups. -/
def groupsOf (l : List Byte) : String := showGroups (l.length / 4) (beNat l)

/-! ## Settings that live in a block's registers -/

/-- The value of a DMA setting, from the channel's registers. -/
def DmaCh.setting (c : DmaCh) (p : PathId) : SVal :=
  let side := fun (a fix : Nat) => SVal.nats [a / 9223372036854775808, sideOff a, if fix = 1 then dmaSizes.getD (bits c.cfg 2 3) 4 else 0]
  match p with
  | .dmaChSrc => side c.src (bits c.cfg 0 1)
  | .dmaChDst => side c.dst (bits c.cfg 1 1)
  | .dmaChCount => .nat c.count
  | .dmaChUnit => .nat (dmaSizes.getD (bits c.cfg 5 3) 4)
  | .dmaChPace => .nat (bits c.cfg 17 7)
  | .dmaChPrio => .nat (bits c.cfg 10 2)
  | .dmaChSwap => .nat (bits c.cfg 8 2)
  | .dmaChRing => .nat (bits c.cfg 12 2)
  | .dmaChMark => .nat c.markVal
  | .dmaChHyst => .nat c.hystVal
  | .dmaChNotify => .nats ((List.range 3).filter (fun k => c.cfg.getLsbD (14 + k)))
  | .dmaChStatusAt => .nat c.stat
  | .dmaChHost => .nat c.host.toNat
  | _ => .none

/-- The value of a Herd channel's setting, from its configuration words (Table 18.1). -/
def HerdCh.setting (c : HerdCh) (p : PathId) : SVal :=
  let full := fun (n : Nat) => if n = 0 then 32 else n
  match p with
  | .ibexChEnable => .nat (bits c.cfg0 27 1)
  | .ibexChProg => .nats [bits c.cfg0 0 9, bits c.cfg0 9 9, bits c.cfg0 18 9, bits c.cfg0 28 3]
  | .ibexChPins => .nats [bits c.cfg1 0 6, bits c.cfg1 6 6, bits c.cfg1 12 6, bits c.cfg2 0 6, bits c.cfg2 6 3, bits c.cfg1 18 6, bits c.cfg1 24 6]
  | .ibexChShift => .nats [bits c.cfg2 21 1, bits c.cfg2 22 1, full (bits c.cfg2 9 5), full (bits c.cfg2 14 5), bits c.cfg2 19 1, bits c.cfg2 20 1]
  | _ => .none

/-- The value of a Kid lane's setting (Table 18.5). -/
def KidLane.setting (c : KidLane) (p : PathId) : SVal :=
  match p with
  | .ibexKidEnable => .nat (bits c.cfg0 31 1)
  | .ibexKidPin => .nat (bits c.cfg0 24 6)
  | .ibexKidClock =>
    if c.cfg0.getLsbD 30 then .nats [1, bits c.cfg1 0 6, bits c.cfg1 6 1] else .nats [0, bits c.cfg0 0 24 + 1, bits c.cfg2 0 24]
  | .ibexKidPattern => .nat c.pattern.toNat
  | .ibexKidMask => .nat c.mask.toNat
  | .ibexKidOnMatch => .nats ((List.range 3).filter (fun k => c.cfg1.getLsbD (8 + k)))
  | .ibexKidHoldoff => .nat (bits c.cfg1 11 5)
  | _ => .none

/-- The value of a TALLY setting. -/
def Hw.tallySetting (h : Hw) (k : Key) : SVal :=
  let t := h.tally
  match k.p with
  | .tallyEnable => .nat (b2n t.enable)
  | .tallyPeriod => .nat (t.periodMs * 1000000000)
  | .tallyRing => if t.log2 = 0 then .none else .nats [t.ring, 2 ^ t.log2]
  | .tallyRingMode => .nat (b2n t.free)
  | .tallyRingHost => .nat t.host.toNat
  | .tallyMark => .nat t.markVal
  | .tallyHyst => .nat t.hystVal
  | .tallyUC => if hu : k.i < 18 then .nat ((t.u[k.i]).selNew.toList.getD k.j 0) else .none
  | .tallyUChain =>
    if hu : k.i < 18 then .nats ((List.finRange 4).filterMap (fun p => if (t.u[k.i]).chainNew[p] then some (2 * p.val) else none)) else .none
  | _ => .none

/-- The value in effect of a setting: that of the block's registers where they hold it, else the settings' (R472). -/
def Hw.shown (h : Hw) (k : Key) : SVal :=
  if stemOf k.p = "dma" then (if hn : k.i < 16 then (h.dma.ch[k.i]).setting k.p else .none)
  else if stemOf k.p = "tally" then h.tallySetting k
  else match k.p with
  | .evtTaskTSrc => if ht : k.i < 96 then .nats (h.evt.src[k.i]) else .none
  | .ibexStore => .nats (0 :: (List.range 64).map (fun a => (h.herdWord a).toNat))
  | .ibexChEnable | .ibexChProg | .ibexChPins | .ibexChShift =>
    if hn : k.i < 32 then (h.ibex.ch[k.i]).setting k.p else .none
  | .ibexKidEnable | .ibexKidPin | .ibexKidClock | .ibexKidPattern | .ibexKidMask | .ibexKidOnMatch | .ibexKidHoldoff =>
    if hn : k.i < 8 then (h.ibex.kid[k.i]).setting k.p else .none
  | .systemMode => .nat (h.sys.runMode - 1)
  | _ => h.eff k

/-- The value a class R path takes at its next occasion, when it differs (R459). -/
def Hw.nextVal (h : Hw) (k : Key) : Option SVal :=
  let n : Option SVal := match k.p with
    | .latEid => h.sett.eidNext
    | .pmbMap => h.sys.pmbMapSet.map .str
    | _ => none
  match n with
  | some v => if v = h.eff k then none else some v
  | none => none

/-- The lines of a setting. -/
def Hw.showSetting (h : Hw) (ses : Fin 11) (k : Key) : List String :=
  match k.p with
  | .utcLeap =>
    (pairsOf (h.effL .utcLeap)).map (fun p => kv "leap" (quoted (showDate p.1 ++ (if p.2 = 1 then " +1" else " -1"))))
  | .mywiAccount =>
    (match accountParts (h.effS .mywiAccount k.i) with
     | some (n, r, _) => [kv (keyLast k) (n ++ "," ++ (["observer", "operator", "custodian"].getD (r - 1) "observer"))]
     | none => [kv (keyLast k) "none"])
  | _ =>
    let v := match (h.mywi.sess[ses]).setting k.p with
      | some n => .nat n
      | none => h.shown k
    kv (keyLast k) (showVal k.p.row.vt v) ::
      (match h.nextVal k with
       | some v => [kv "next" (showVal k.p.row.vt v)]
       | none => [])

/-! ## Custody time, modes, islands, supplies, boot, image -/

/-- UTC of an Axis second as a date and time; during an inserted leap second the seconds read 60 (R32). -/
def Hw.utcText (h : Hw) (t : Nat) : String :=
  let sec := secOf t
  let inserted := match h.time.leap with | some l => l.insert && decide (sec + 1 = l.at_) | none => false
  let u := (utcSec (if inserted then sec - 1 else sec) h.taiUtc).toNat
  let x := u % 86400
  showDate (u / 86400) ++ "T" ++ decPad 2 (x / 3600) ++ ":" ++ decPad 2 (x / 60 % 60) ++ ":" ++
    (if inserted then "60" else decPad 2 (x % 60)) ++ "." ++ decPad 9 (nsOf t)

/-- The domain names of Table 3.1. -/
def Domain.name : Domain → String
  | .aon => "AON" | .keep => "KEEP" | .ref => "REF" | .port => "PORT" | .pipe => "PIPE" | .seal => "SEAL" | .lat => "LAT"
  | .deck => "DECK" | .ibex => "IBEX" | .store => "STORE"

/-- The clock of an island (Table 3.1); a port's follows its mode. -/
def Hw.islandClock (h : Hw) (n : Nat) : String :=
  if n = 0 ∨ n = 41 ∨ (36 ≤ n ∧ n ≤ 39) then "1250MHz"
  else if n = 1 then "32.768kHz"
  else if n = 2 then "400MHz"
  else if 3 ≤ n ∧ n ≤ 10 then
    (if hp : (n - 3) / 2 < 4 then (if (h.port.p[(n - 3) / 2]).mode < 4 then "644.53125MHz" else "161.1328125MHz") else "")
  else if n ≤ 26 ∨ n = 44 ∨ n = 45 then "1000MHz"
  else if n = 27 ∨ n = 42 then "800MHz"
  else if n ≤ 31 then "161.1328125MHz"
  else if n ≤ 33 then "160MHz"
  else if n = 34 ∨ n = 43 then "500MHz"
  else if n = 35 then "625MHz"
  else if n = 47 then "200MHz"
  else "250MHz"

/-- A signal group of Table 4.4: the beginning of its names, bank, domain and direction. -/
def signalGroups : List (String × String × String × String) :=
  [("pcie_perst_n", "VDDIO_33", "KEEP", "in"), ("pcie_clkreq_n", "VDDIO_33", "KEEP", "od"), ("pcie_refclk", "VDD_SDS", "KEEP", "in"),
   ("pcie_tx", "VDDH_SDS", "KEEP", "out"), ("pcie_rx", "VDDH_SDS", "KEEP", "in"), ("mgmt_tx", "VDDH_SDS", "KEEP", "out"),
   ("mgmt_rx", "VDDH_SDS", "KEEP", "in"), ("mgmt_mdc", "VDDIO_33", "KEEP", "out"), ("mgmt_mdio", "VDDIO_33", "KEEP", "io"),
   ("sds_rcal", "VDD_SDS", "none", "analog"), ("gpps", "VDDIO_33", "REF", "in"), ("fref", "VDD_ANA", "REF", "in"),
   ("apps", "VDDIO_33", "REF", "in"), ("alock", "VDDIO_33", "REF", "in"), ("osc_in", "VDD_ANA", "REF", "in"),
   ("osc_en", "VDD_AON", "AON", "out"), ("xo32_in", "VDD_AON", "AON", "in"), ("clkout", "VDDIO_18", "REF", "out"),
   ("cal", "VDDIO_18", "REF", "in"), ("pulse", "VDDIO_33", "REF", "out"), ("pmb_alert_n", "VDD_AON", "AON", "in"),
   ("pmb_", "VDD_AON", "AON", "od"), ("wk_", "VDD_AON", "AON", "od"), ("wake_n", "VDD_AON", "AON", "in"),
   ("reset_n", "VDD_AON", "AON", "in"), ("irq_n", "VDDIO_33", "KEEP", "od"), ("con0_txd", "VDDIO_33", "KEEP", "out"),
   ("con0_rts_n", "VDDIO_33", "KEEP", "out"), ("con0_", "VDDIO_33", "KEEP", "in"), ("hspi_miso", "VDDIO_33", "KEEP", "out"),
   ("hspi_rdy", "VDDIO_33", "KEEP", "out"), ("hspi_", "VDDIO_33", "KEEP", "in"), ("qspi0_io", "VDDIO_18", "KEEP", "io"),
   ("qspi0_", "VDDIO_18", "KEEP", "out"), ("tdiode", "none", "none", "analog"), ("vsense", "none", "none", "analog"),
   ("ft", "VDDIO_18", "none", "in")]

/-- The bank, domain and direction of a signal (Table 4.4). -/
def signalOf (s : String) : String × String × String :=
  let l := s.toList
  match signalGroups.find? (fun g => (dropPre? g.1 l).isSome) with
  | some g => g.2
  | none =>
    match dropPre? "ibx" l with
    | some r => ((if (decNat? r).getD 0 < 24 then "VDDIO_18" else "VDDIO_33"), "IBEX", "io")
    | none =>
      if (dropPre? "gser" l).isSome then ("VDDIO_33", "REF", if (l.reverse.take 2) = ['x', 'r'] then "in" else "out")
      else if (dropPre? "dk" l).isSome then ("VDDIO_33", "DECK", if (dropPre? "rxd" (l.drop 4)).isSome then "in" else "out")
      else if l.headD ' ' = 'l' then ("VDDH_SDS", "LAT", if (dropPre? "tx" (l.drop 2)).isSome then "out" else "in")
      else ("VDDH_SDS", "PORT", if (dropPre? "tx" (l.drop 2)).isSome then "out" else "in")

/-- The name of COLD_SRC. -/
def coldSrcName (n : Nat) : String := (["none", "reset_n", "rail", "restart", "wake"][n]?).getD ""

/-- The stages of `boot.log`. -/
def stageName (n : Nat) : String :=
  (["aon", "rails", "rom", "sfdp", "verify", "firmware", "store_fill", "settings", "pmbus", "release", "done"][n]?).getD ""

/-- Status bodies of chapters 1 to 6. -/
def Hw.showBase (h : Hw) (k : Key) : List String :=
  match k.p with
  | .axisTime => [kv "tai" (showAxis h.time.axis), kv "frac" ("0x" ++ upperHex 4 h.frac), kv "utc" (h.utcText h.time.axis)]
  | .axisTrust => [kv "state" h.time.trust.name, kv "unc" (nsText h.time.unc)]
  | .axisUnc => [kv "unc" (nsText h.time.unc)]
  | .axisSteps => [kv "steps" (toString h.time.stepCnt.toNat)]
  | .systemModeBoot => [kv "boot" (modeName h.sys.bootMode)]
  | .systemBlocks =>
    let b := h.blocksWord
    let l := fun (lo n : Nat) => posList ((List.range n).map (fun i => b.getLsbD (lo + i)))
    [kv "ports" (l 0 4), kv "groups" (l 4 4), kv "lat" (show01 (b.getLsbD 8)), kv "dk_coord" (l 9 2), kv "dk_member" (l 11 2),
     kv "graze_ok" (show01 (b.getLsbD 13))]
  | .systemRestarts => [kv "restarts" (toString h.sys.restarts.toNat)]
  | .systemEid => [kv "eid" (eidText h.ownEid)]
  | .islandList =>
    (List.finRange 48).map (fun n => kv (islandNames.getD n "")
      (String.intercalate "," [(islandDomain n).name, if h.domUp (islandDomain n) then "up" else "down", show01 ((h.wfWord n).getLsbD 31)]))
  | .islandName =>
    let d := islandDomain k.i
    [kv "no" (toString k.i), kv "domain" d.name, kv "clock" (h.islandClock k.i), kv "state" (if h.domUp d then "up" else "down"),
     kv "wf_delay" (toString (bits (h.wfWord k.i) 0 16) ++ "ps"), kv "wf_valid" (show01 ((h.wfWord k.i).getLsbD 31))]
  | .axisWavefront => [kv "islands" "48", kv "last_slip" (toString h.wave.lastSlip)]
  | .storeMap =>
    [kv "client_table" "0x0-0x7fffffff", kv "journal" "0x80000000-0x17fffffff", kv "general" "0x180000000-0x1ffffffff"]
  | .storeEcc =>
    [kv "ce" (toString h.sys.ceCnt.toNat), kv "uce" (toString h.sys.uceCnt.toNat),
     kv "uce_addr" (if h.sys.uceCnt = 0 ∧ h.sys.uceAddr = 0 then "none" else hexMin h.sys.uceAddr)]
  | .pinList => [kv "pins" (showList (NameList.names .signal))]
  | .pinSignal =>
    let n := (NameList.names .signal).getD k.i ""
    let g := signalOf n
    let level := match (allBalls[k.i]?).bind h.ballLevel with
      | some b => show01 b
      | none => toString (Config.freshNat (h.free + k.i) % 2)
    [kv "ball" (Config.ballOf n), kv "bank" g.1, kv "domain" g.2.1, kv "dir" g.2.2] ++
    (if g.2.2 = "analog" then [] else [kv "level" level])
  | .supplyStatus =>
    let names := ["core", "sram", "sds", "sdsh", "store", "io18", "io33", "ana"]
    [kv "pg" (showList ((names.zipIdx.filter (fun p => h.sys.pg.getLsbD p.2)).map (·.1))), kv "osc" (show01 h.steer.oscOk),
     kv "xo32" (show01 h.sys.xo32Ok), kv "aon_mv" (toString h.sys.aonMvReg)]
  | .supplyAon =>
    [kv "aon_mv" (toString h.sys.aonMvReg), kv "warn_mv" (toString (h.effN .supplyAonWarnMv)),
     kv "low_latched" (show01 ((h.note.evt[(1 : Fin 28)]).getLsbD 8))]
  | .bootCause =>
    [kv "cause" ((["power_on", "cold", "warm", "mode", "activation"][h.sys.lastCause]?).getD "")] ++
    (if h.sys.lastCause = 1 then [kv "src" (coldSrcName h.sys.coldSrc)] else []) ++
    [kv "slot" (if h.sys.slot = 1 then "a" else if h.sys.slot = 2 then "b" else "none")] ++
    (if h.sys.aBad then [kv "slot_a" "bad"] else []) ++ (if h.sys.bBad then [kv "slot_b" "bad"] else [])
  | .bootSlot =>
    [kv "slot" (if h.sys.slot = 1 then "a" else if h.sys.slot = 2 then "b" else "none")] ++
    (if h.sys.aBad then [kv "slot_a" "bad"] else []) ++ (if h.sys.bBad then [kv "slot_b" "bad"] else []) ++
    (([10, 11, 12] : List Nat).filterMap (fun i => if h.latched i then some (kv "fault" (faultCode i)) else none))
  | .bootTime => [kv "time" (toString h.sys.bootUs.toNat ++ "us")]
  | .bootLog => h.sys.bootLog.map (fun e => kv (stageName e.1) (toString e.2 ++ "us"))
  | .bootSkipped => h.sys.skipped.map (fun s => kv "skipped" s)
  | .pmbFound => h.sys.regs.map (fun r => kv "reg" (hexMin r.addr ++ "," ++ toString r.pages.length))
  | .imageSlotA | .imageSlotB =>
    let s : Fin 2 := if k.p = .imageSlotA then 0 else 1
    let i := h.img.info[s]
    [kv "state" ((["none", "writing", "staged", "active"][i.state]?).getD ""), kv "gen" (toString i.gen), kv "fw" (hexMin i.fw),
     kv "rollback" (toString i.rollback), kv "result" (toString i.result)]
  | .imageWrite =>
    (match h.img.write with
     | some w => [kv "busy" "1", kv "slot" (slotName w.slot), kv "step" (toString w.step)]
     | none => [kv "busy" "0"])
  | .imageOwner =>
    (List.finRange 4).map (fun (n : Fin 4) => kv ("owner" ++ toString n.val)
      (if h.img.ownerRevoked.getLsbD n then "revoked" else if (h.img.owners[n]).isSome then "enrolled" else "none"))
  | .imageRollback => [kv "rollback" (toString h.img.rollback)]
  | _ => []

/-! ## Sessions, references, steering, Caliper, ports -/

/-- The name of a role. -/
def roleName (r : Nat) : String := (["none", "observer", "operator", "custodian"][r]?).getD ""

/-- The place of a session on its transport. -/
def sesPlace (i : Fin 11) : Nat := if i.val < 3 then 0 else i.val - 3

/-- Status bodies of chapters 7 to 12. -/
def Hw.showMiddle (h : Hw) (ses : Fin 11) (k : Key) : List String :=
  let s := h.mywi.sess[ses]
  match k.p with
  | .mywiSessionInfo =>
    [kv "transport" (transportName ses.val), kv "session" (toString (sesPlace ses)), kv "role" (roleName s.role),
     kv "account" (s.account.getD "none"), kv "prompt" (if s.prompt then "on" else "off"), kv "echo" (if s.echo then "on" else "off"),
     kv "check" ((["off", "on", "require"][s.check]?).getD ""), kv "txn" (if s.txn.isSome then "open" else "none"),
     kv "lost" (toString s.lost)]
  | .mywiSessions =>
    (List.finRange 11).filterMap (fun (i : Fin 11) =>
      let s := h.mywi.sess[i]
      if s.openS then some (kv "session" (transportName i.val ++ "." ++ toString (sesPlace i) ++ "," ++ roleName s.role ++ "," ++ s.account.getD "none"))
      else none)
  | .mywiCounters =>
    kv "lines" (toString h.mywi.lines.toNat) ::
    (([1, 2, 3, 4, 5, 6, 7, 9] : List Nat).map (fun n => kv ("e" ++ toString n) (toString ((h.mywi.errs.toList.getD (n - 1) 0).toNat))))
  | .refList => (List.finRange 20).map (fun i => let r := h.ref.ins[i]; kv (refName (some i)) (r.st.name ++ "," ++ toString r.tql))
  | .refSelected => [kv "selected" (refName h.ref.sel)]
  | .refIn =>
    if hi : k.i < 20 then
      let r := h.ref.ins[k.i]
      [kv "state" r.st.name, kv "tql" (toString r.tql), kv "mapped_tql" (toString r.mapped), kv "off" (nsText r.ofs),
       kv "reason" ((["none", "phase", "freq", "seconds"][r.reason]?).getD "")]
    else []
  | .steerState =>
    let w := h.steerWord
    let b := fun (n : Nat) => show01 (w.getLsbD n)
    let st := h.steer
    [kv "lock" (b 11), kv "bw" (fixedDec 6 st.bw ++ "mHz"), kv "step" (toString (bits w 4 4)), kv "slewing" (b 12),
     kv "delta" (nsText h.deltaPs), kv "predict" (b 13), kv "fll" (b 17), kv "slope_clamp" (b 14), kv "clamp" (b 15), kv "pull_limit" (b 16),
     kv "freq" (fixedDecI 9 (if st.predict then st.ypred else st.integ) ++ "ppb"), kv "u_loop" (nsText st.uloop)]
  | .steerTangent =>
    let st := h.steer
    let f := st.fit.getD {}
    [kv "valid" (show01 st.valid), kv "frozen" (show01 st.frozen),
     kv "hold" (toString (if h.time.trust = .holdover then h.holdDur / auPerSec else 0) ++ "s"), kv "sigma_y" (fixedDec 9 f.sigY ++ "ppb"),
     kv "age" (fixedDecI 9 f.a ++ "ppb"), kv "tc" (fixedDecI 9 f.c ++ "ppb"),
     kv "u_hold" (toString (if h.time.trust = .holdover then min uncMax h.uHold else 0) ++ "ps")]
  | .calStatus => [kv "dll" (posList h.cal.dll.toList), kv "first_done" (show01 h.cal.firstDone)]
  | .calCh => if hc : k.i < 40 then let c := h.cal.ch[k.i]; [kv "level" (toString c.queue.length), kv "lost" (toString c.lost.toNat)] else []
  | .portP =>
    if hp : k.i < 4 then
      let q := h.port.p[k.i]
      [kv "mode" (portModeNames.getD q.mode "")] ++
      (List.finRange 4).map (fun (n : Fin 4) => kv ("lane" ++ toString n.val) (if (q.lanes[n]).st = .up then "up" else "down")) ++
      (List.finRange 4).filterMap (fun (n : Fin 4) =>
        if h.lpProvided k.i n then some (kv ("l" ++ toString n.val) (if (q.lps[n]).ready then "ts_ready" else "not_ready")) else none) ++
      [kv "preempt" (if q.preemptOk && h.effB .portPPreempt k.i then "active" else "inactive"),
       kv "synce_tx" (if h.effB .portPSynceTx k.i then "on" else "off")]
    else []
  | _ => []

/-! ## Pronghorn, Seal, Lattice, Deckline -/

/-- The counters of Table 13.7. -/
def prongCounterNames : List String :=
  ["reply_ntp", "reply_nts", "reply_ptp", "kod_rate", "kod_ntsn", "notready_drop", "wave_drop", "rate_drop", "no_entry",
   "restart_drop", "step_drop", "unsupp_drop", "policy_drop", "auth_fail", "full_drop", "admit_drop", "late_drop", "grant_deny"]

/-- Status bodies of chapters 13 to 17. -/
def Hw.showNet (h : Hw) (k : Key) : List String :=
  match k.p with
  | .prongStatus =>
    [kv "groups" (posList ((List.finRange 4).map (fun g => h.groupIn g))),
     kv "reloading" (match h.prong.reload with | some (g, _) => toString g.val | none => "none"),
     kv "bank" (toString (h.prong.bank % 2)), kv "switch_pending" (show01 h.switchPending), kv "lead" (showVal (PathId.prongLaunchLead).row.vt (h.eff ⟨.prongLaunchLead, 0, 0⟩)),
     kv "epoch" (toString h.prong.epoch)]
  | .prongCounters =>
    (List.finRange 4).flatMap (fun (g : Fin 4) =>
      if h.groupIn g then
        (prongCounterNames.zip (h.prong.cnt[g]).toList).map (fun p => kv ("g" ++ toString g.val ++ "." ++ p.1) (toString p.2.toNat))
      else [])
  | .prongNtsEpoch =>
    let per := h.prong.rotPer / 1000000000000
    let e := h.prong.epoch
    [kv "epoch" (toString e), kv "next_at" (if per = 0 then "none" else showAxis ((h.sec / per + 1) * per * auPerSec)),
     kv "accept" (showList ((([e - 2, e - 1, e] : List Nat).filter (fun n => h.prong.ring.any (fun r => decide (r.1 = n)))).map toString))]
  | .prongPtpGrants => [kv "grants" (toString h.prong.grants.length), kv "capacity" (toString h.grantCap)]
  | .prongUrgent =>
    (List.finRange 16).map (fun i => let l := h.lp i
      kv ("p" ++ toString (i.val / 4) ++ "_l" ++ toString (i.val % 4)) (toString (min 65535 l.maxNs) ++ "ns," ++ toString (min 65535 l.deep)))
  | .sealStatus =>
    let slot := fun (o : Option (Fin 8)) => match o with | some n => toString n.val | none => "none"
    [kv "pending" (toString (min 1024 h.sealPending)), kv "es256" (slot (h.activeKey 0)), kv "eddsa" (slot (h.activeKey 1)),
     kv "sign_ok" (show01 h.signOk), kv "busy_restart" (show01 h.sealU.busy), kv "queues" (posList (h.sealU.queues.toList.map (·.en)))]
  | .sealIdentity => [kv "fp" (groupsOf (beBytes 32 identityFp.toNat))]
  | .sealKey =>
    if hn : k.i < 8 then
      let x := h.sealU.keys[k.i]
      [kv "state" ((["empty", "ready", "active", "retired"][x.st.code]?).getD "")] ++
      (if x.st = .empty then []
       else [kv "alg" (if x.alg = 0 then "es256" else "eddsa"), kv "kid" (showGroups 2 (keyKid x.alg x.key)),
             kv "key" (groupsOf ((pubKey x.alg x.key).drop ((pubKey x.alg x.key).length % 4)))] ++
        (match h.attestation ⟨k.i, hn⟩ with
         | some l => [kv "attest" (groupsOf (padTo ((l.length + 3) / 4 * 4) l))]
         | none => []))
    else []
  | .sealCounters =>
    (["signed", "refused_trust", "invalid_time", "busy", "rate", "journal_full", "no_key", "no_sample", "malformed", "auth_fail"].zip
      h.sealU.cnt.toList).map (fun p => kv p.1 (toString p.2.toNat))
  | .journalStatus =>
    [kv "next" (toString h.sealU.next), kv "ack" (toString h.sealU.ack), kv "level" (toString h.jrnLevel), kv "free" (toString h.freeSlots),
     kv "policy" (if h.effN .journalFull = 0 then "stop_signing" else "wrap_after_export")]
  | .latRoot => [kv "root" (eidText h.lat.root.eid), kv "hops" (toString h.lat.hops)]
  | .latRoster => if h.lat.isRoot then h.lat.roster.map (fun e => kv "entry" (toString e.eid)) else []
  | .latL =>
    if hn : k.i < 4 then
      let l := h.lat.link[k.i]
      [kv "state" l.st.name, kv "role" ((["none", "parent", "child", "peer"][h.latRole ⟨k.i, hn⟩]?).getD ""),
       kv "peer" (if l.peer.isSome then eidText l.peerEid else "none"), kv "off" (nsText l.theta), kv "delay" (nsText l.d),
       kv "ulink" (toString (h.uLink ⟨k.i, hn⟩) ++ "ps")]
    else []
  | .latCounters =>
    (List.finRange 4).flatMap (fun (n : Fin 4) =>
      (["rx_bad", "hello_miss", "exch_rej", "exch_late"].zip (h.lat.link[n]).cnt.toList).map (fun p =>
        kv ("l" ++ toString n.val ++ "." ++ p.1) (toString p.2.toNat)))
  | .deckDk =>
    if hn : k.i < 2 then
      let d := h.dk ⟨k.i, hn⟩
      [kv "role" (["off", "coordinator", "member"].getD d.role ""), kv "rate" (rateName d.rate), kv "ceiling" (rateName (h.dkCeil ⟨k.i, hn⟩)),
       kv "members" (toString d.roster.length), kv "plan_ver" (toString d.planVer)]
    else []
  | .deckDkMembers =>
    if hn : k.i < 2 then (h.dk ⟨k.i, hn⟩).roster.map (fun m => kv ("a" ++ toString m.addr) (showGroups 2 m.mid)) else []
  | .deckCounters =>
    (List.finRange 2).flatMap (fun (n : Fin 2) =>
      (["rx_bad", "beacon_late", "beacon_coll", "slot_coll", "coll_drop", "up_denied", "foreign", "seal_undeliv", "too_long"].zip
        (h.dk n).cnt.toList).map (fun p => kv ("dk" ++ toString n.val ++ "." ++ p.1) (toString p.2.toNat)))
  | _ => []

/-! ## Ibex, DMA, events, power, Tally, transactions, notices -/

/-- A pair's value as four groups of four digits. -/
def wideHex (n : Nat) : String := "0x" ++ hex4_4 (n / 4294967296) ++ "_" ++ hex4_4 (n % 4294967296)

/-- The lines of a Tally unit: CYCLES, its counters (a chained pair as one) and the flags of Table 21.4. -/
def Hw.tallyLines (h : Hw) (u : Fin 18) : List String :=
  let x := h.tally.u[u]
  let c := fun (n : Nat) => x.c.toList.getD n 0
  kv "cycles" (toString (h.unitCycles u)) ::
  ((List.finRange 4).flatMap (fun p =>
    if x.chain[p] then [kv ("c" ++ toString (2 * p.val)) (wideHex (c (2 * p.val) + 4294967296 * c (2 * p.val + 1)))]
    else [kv ("c" ++ toString (2 * p.val)) (toString (c (2 * p.val))), kv ("c" ++ toString (2 * p.val + 1)) (toString (c (2 * p.val + 1)))]) ++
   [kv "flags" (showList ((["present", "down", "restarted", "changed", "invalid"].zipIdx.filter
      (fun p => (h.unitFlags u).testBit p.2)).map (·.1)))])

/-- The staged items of a session. -/
def Hw.stagedOf (h : Hw) (ses : Fin 11) : List (Key × SVal) := ((h.mywi.sess[ses]).txn).getD []

/-- Status bodies of chapters 18 to 25. -/
def Hw.showRest (h : Hw) (ses : Fin 11) (k : Key) : List String :=
  match k.p with
  | .ibexStatus => [kv "running" ("0x" ++ hexPad 8 (h.rdIbex 0xD00000).toNat), kv "halted" ("0x" ++ hexPad 8 (h.rdIbex 0xD00004).toNat)]
  | .ibexCh | .ibexChState =>
    if hn : k.i < 32 then
      let c := h.ibex.ch[k.i]
      [kv "pc" (toString c.pc), kv "x" ("0x" ++ hexPad 8 c.x.toNat), kv "y" ("0x" ++ hexPad 8 c.y.toNat), kv "stalled" (show01 c.stalled),
       kv "tx" (toString c.tx.length), kv "rx" (toString c.rx.length)]
    else []
  | .ibexChFlags => if hn : k.i < 32 then [kv "flags" (showList (flagList chFlagNames (h.ibex.ch[k.i]).flags))] else []
  | .ibexKid => if hk : k.i < 8 then let c := h.ibex.kid[k.i]; [kv "cap" (toString c.cap.length), kv "load" (toString c.load.length)] else []
  | .ibexKidFlags => if hk : k.i < 8 then [kv "flags" (showList (flagList kidFlagNames (h.ibex.kid[k.i]).flags))] else []
  | .dmaStatus => [kv "pending" (toString (h.dma.ch.toList.filter (fun c => decide (c.st = .pending))).length)]
  | .dmaCh =>
    if hn : k.i < 16 then
      let c := h.dma.ch[k.i]
      [kv "state" ((["idle", "pending", "moving", "paused", "ended"][c.st.code]?).getD ""), kv "code" (toString c.code),
       kv "residue" (toString c.residue), kv "eng" (toString c.eng.toNat), kv "host" (toString c.host.toNat)]
    else []
  | .evtTaskT => if ht : k.i < 96 then [kv "count" (toString h.evt.cnt[k.i]), kv "ovf" (show01 h.evt.ovf[k.i])] else []
  | .pwrState => [kv "state" h.pwr.st.name, kv "last_wake" (wakeName h.pwr.lastWake), kv "sleep_ok" (show01 h.sleepCond)]
  | .pwrDomains => allDomains.map (fun d => kv (String.ofList (d.name.toList.map Char.toLower)) (if h.domUp d then "up" else "down"))
  | .pwrVotes => allDomains.map (fun d => kv (String.ofList (d.name.toList.map Char.toLower)) ("0x" ++ hexPad 2 (h.votesWord d).toNat))
  | .pwrFaults => [kv "faults" (showList (([16, 17, 19] : List Nat).filterMap (fun i => if h.latched i then some (faultCode i) else none)))]
  | .tallyU => if hu : k.i < 18 then h.tallyLines ⟨k.i, hu⟩ else []
  | .tallySnap => [kv "seq" (toString h.tally.seq), kv "eng" (toString h.tally.eng.toNat), kv "lost" (toString h.tally.lostCnt.toNat)]
  | .txnStatus =>
    let w := h.txnWord
    [kv "window" (show01 (w.getLsbD 0)), kv "stage" ((["idle", "wait", "c", "b1", "b2", "b3", "b4"][h.txnStage]?).getD ""),
     kv "remaining" (toString (bits w 16 16)), kv "bank_done" (show01 (w.getLsbD 1)), kv "staged" (toString (h.stagedOf ses).length)]
  | .txnStaged => (h.stagedOf ses).map (fun e => kv "item" (keyText e.1))
  | .txnLast => [kv "epoch" (showAxis h.txn.lastT), kv "end" (showAxis h.txn.lastEnd), kv "items" (toString h.txn.lastItems)]
  | .noteStatus =>
    [kv "pend" ("0x" ++ hexPad 8 (h.rdNote 0x1100000).toNat), kv "raw" ("0x" ++ hexPad 8 (h.rdNote 0x1100004).toNat),
     kv "irq" ("0x" ++ hexPad 8 h.noteIrq.toNat), kv "fault" ("0x" ++ hexPad 8 h.noteFault.toNat),
     kv "console_only" (toString h.note.consoleOnly.toNat)]
  | .faultList => (List.range 24).filterMap (fun i => if h.latched i then some (kv "fault" (faultCode i)) else none)
  | .faultCode =>
    [kv "latched" (show01 (h.latched k.i)),
     kv "at" (if h.note.faultCnt.toList.getD k.i 0 = 0 ∧ h.note.faultAt.toList.getD k.i 0 = 0 then "none"
       else showAxis (h.note.faultAt.toList.getD k.i 0)),
     kv "count" (toString (h.note.faultCnt.toList.getD k.i 0).toNat), kv "kind" (faultKind k.i)]
  | .supplyTj => [kv "tj" (toString h.sys.tNow), kv "max" (toString h.sys.tMax), kv "warn" (toString (h.effN .supplyTjWarn))]
  | _ => []

/-! ## `show` as a whole -/

/-- The domain of the block that owns a status path; none for blocks in KEEP and AON. -/
def statusDomain (p : PathId) : Option Domain :=
  let s := stemOf p
  if s = "axis" ∨ s = "utc" ∨ s = "steer" ∨ s = "ref" ∨ s = "out" ∨ s = "cal" then some .ref
  else if s = "port" then some .port
  else if s = "prong" then some .pipe
  else if s = "seal" ∨ s = "journal" then some .seal
  else if s = "lat" then some .lat
  else if s = "deck" then some .deck
  else if s = "ibex" then some .ibex
  else none

/-- A path that holds a setting. -/
def isSetting (p : PathId) : Bool := decide (p.row.cls ≠ .none) && decide (p.row.vt ≠ .none)

/-- The body lines of `show` for a path of a path table (R472). -/
def Hw.showBody (h : Hw) (ses : Fin 11) (k : Key) : List String :=
  if isSetting k.p then h.showSetting ses k
  else if (statusDomain k.p).any (fun d => !h.domUp d) then [kv "state" "down"]
  else
    let c := k.p.row.chapter
    if c ≤ 6 then h.showBase k
    else if c = 7 ∨ c = 23 then h.showMiddle ses k
    else if c ≤ 12 then h.showMiddle ses k
    else if c ≤ 17 then h.showNet k
    else if k.p = .supplyTj then h.showRest ses k
    else h.showRest ses k

/-- `show prong.client <addr>` (Table 23.7); none: the address has no valid entry (E405). -/
def Hw.showClient (h : Hw) (f a : Nat) : Option (List String) :=
  let (af, key) := clientKeyOf f a
  match h.findClient af key with
  | none => none
  | some at_ =>
    let e := h.entryAt at_
    some [kv "key" (hexMin e.key), kv "af" (if af then "ipv6" else "ipv4"), kv "static" (show01 e.static), kv "class" (toString e.cls),
      kv "tokens" (fixedDec 10 (e.tokens * 10000000000 / 1024)), kv "req_cnt" (toString e.cnt),
      kv "kod_until" (if e.kodUntil = 0 then "none" else toString e.kodUntil),
      kv "crp_key" (if 2147483648 ≤ e.crp then toString (e.crp % 1048576) else "none")]

end Sys2Proof.Machine
end

