-- ==== Sys2Proof/Machine/Mywi.lean ====
section
/-!
DEFINITION. The verbs of Mywi: the forms of Table 23.1, the order of tests of Table 7.4, paths and their tree (R470 to
R479), login (R151 to R154) and what each verb does.
-/
set_option autoImplicit false

namespace Sys2Proof.Machine

/-- What a verb answers: the engine after it, the body, the code (0 is `.ok`), what begins once the terminal line is sent,
and whether the response waits for a commit. -/
structure Ans where
  hw : Hw
  body : List String := []
  code : Nat := 0
  after : Hw → Hw := id
  wait : Bool := false

/-- A refusal: nothing is done. -/
def Hw.no (h : Hw) (code : Nat) : Ans := { hw := h, code := code }

/-- Acceptance with body lines. -/
def Hw.yes (h : Hw) (body : List String := []) : Ans := { hw := h, body := body }

/-- The outcome of a block's command as an answer. -/
def Hw.took (h : Hw) (r : Except Nat Hw) (body : List String := []) : Ans :=
  match r with
  | .ok x => x.yes body
  | .error e => h.no e

/-- The role a session holds. -/
def Hw.role (h : Hw) (ses : Fin 11) : Nat := (h.mywi.sess[ses]).role

/-- The session has a transaction open. -/
def Hw.inTxn (h : Hw) (ses : Fin 11) : Bool := (h.mywi.sess[ses]).txn.isSome

/-- The role test (test 6 of Table 7.4), then the rest. -/
def Hw.needs (h : Hw) (ses : Fin 11) (r : Nat) (a : Ans) : Ans := if h.role ses < r then h.no 401 else a

/-- What a transaction does not permit (R462), then the rest. -/
def Hw.outside (h : Hw) (ses : Fin 11) (a : Ans) : Ans := if h.inTxn ses then h.no 402 else a

/-- A number of a command, between bounds: E102 for another form, E301 outside. -/
def argNat (lo hi : Nat) (s : String) : Parse Nat :=
  match natural? s.toList with
  | some n => if n < lo ∨ hi < n then .error 301 else .ok n
  | none => match number? s.toList with
    | some _ => .error 301
    | none => .error 102

/-! ## Forms (Table 23.1, R470) -/

/-- A path token: at most 12 segments and 128 bytes. -/
def pathForm (s : String) : Bool :=
  let l := s.toList
  let gs := splitAt '.' l
  decide (l.length ≤ 128 ∧ gs.length ≤ 12) && (match l with | c :: _ => c.isLower | [] => false) &&
  gs.all (fun g => !g.isEmpty && g.all (fun c => c.isLower || c.isDigit || decide (c = '_')))

/-- T of `commit at`, as model units: an Axis time, or a relative time after `now`. -/
def commitTime (now : Nat) (s : String) : Parse Nat :=
  match s.toList with
  | '+' :: r => match quantity timeUnitPs r with
    | .ok z => if z < 0 then .error 102 else .ok (now + z.toNat * auPerPs)
    | .error e => .error e
  | l => (axisNs l).map (fun n => n * auPerNs)

/-- 0 when the arguments match a form of the verb, else E101 for the verb, E102 for a malformed token, E103 for another
form. -/
def formCode (verb : String) (a : List String) : Nat :=
  let is := fun (b : Bool) => if b then 0 else 103
  match verb, a with
  | "show", [p] => is (pathForm p)
  | "show", ["prong.client", _] => 0
  | "set", [p, _] => is (pathForm p)
  | "clear", [p] => is (pathForm p)
  | "clear", [p, _] => is (pathForm p)
  | "list", [] => 0
  | "list", [p] => is (pathForm p)
  | "which", [p] => is (pathForm p)
  | "auth", [x] => is (x ≠ "reply" ∧ x ≠ "account")
  | "auth", ["reply", m] => is ((hexGroups? m.toList).any (fun g => decide (g.2 = 8)))
  | "auth", ["account", _, _, _] => 0
  | "quit", [] => 0
  | "begin", [] => 0
  | "commit", [] => 0
  | "commit", ["at", t] => (match commitTime 0 t with | .error 102 => 102 | _ => 0)
  | "abort", [] => 0
  | "flush", ["class", _] => 0
  | "reset", [b] => is (pathForm b)
  | "restart", ["warm"] => 0
  | "restart", ["warden"] => 0
  | "restart", ["cold"] => 0
  | "restart", ["cold", "force"] => 0
  | "power", ["off"] => 0
  | "power", ["off", "force"] => 0
  | "image", ["write", "store", _, _] => 0
  | "image", ["write", "begin", _] => 0
  | "image", ["write", "end"] => 0
  | "image", ["chunk", _, _] => 0
  | "image", ["activate"] => 0
  | "image", ["owner", "enroll", x] => is (x = "a" ∨ x = "b")
  | "image", ["owner", "revoke", _] => 0
  | "image", ["rollback", "commit"] => 0
  | "seal", ["key", "gen", _, x] => is (x = "es256" ∨ x = "eddsa")
  | "seal", ["key", "use", _] => 0
  | "seal", ["key", "retire", _] => 0
  | "seal", ["key", "erase", _] => 0
  | "journal", ["release", _] => 0
  | v, _ =>
    if (["show", "set", "clear", "list", "which", "auth", "quit", "begin", "commit", "abort", "flush", "reset", "restart",
         "power", "image", "seal", "journal"] : List String).contains v then 103 else 101

/-! ## The tree (R475, R476, R480) -/

/-- Every instance of a path. -/
def keysOf (p : PathId) : List Key :=
  match rowCounts p.row with
  | [] => [⟨p, 0, 0⟩]
  | [n] => (List.range n).map (fun i => ⟨p, i, 0⟩)
  | n :: m :: _ => (List.range n).flatMap (fun i => (List.range m).map (fun j => ⟨p, i, j⟩))

/-- Every path of the tree, in the order of the path tables. -/
def allKeys : List Key := allPaths.flatMap keysOf

/-- The dotted segments of a key's path. -/
def keyParts (k : Key) : List (List Char) := splitAt '.' (keyText k).toList

/-- The stems of Table 23.3 that hold paths. -/
def stems : List String :=
  ["system", "axis", "utc", "island", "store", "keep", "pin", "supply", "boot", "pmb", "image", "mywi", "mgmt", "ref", "steer",
   "out", "cal", "port", "prong", "seal", "journal", "lat", "deck", "ibex", "dma", "evt", "pwr", "tally", "txn", "note", "fault"]

/-- The children of a node among some keys: each name with whether it is a leaf, in order, one entry for each key below. -/
def childrenOf (ss : List (List Char)) (ks : List Key) : List (List Char × Bool) :=
  ks.filterMap (fun k =>
    let g := keyParts k
    if ss.isPrefixOf g then (g[ss.length]?).map (fun c => (c, decide (g.length = ss.length + 1))) else none)

/-- Some key lies below a node. -/
def nodeIn (ss : List (List Char)) (ks : List Key) : Bool := ks.any (fun k => let g := keyParts k; ss.isPrefixOf g && decide (ss.length < g.length))

/-- A number of the token is out of the range its place has in some path. -/
def nodeOut (ss : List (List Char)) : Bool :=
  allPaths.any (fun p => (List.range p.row.pat.length).any (fun n => decide (matchSegs (p.row.pat.take (n + 1)) ss = some none)))

/-- What a path token names: a path of a table, a node, or the code that refuses it (test 5 of Table 7.4). -/
inductive Place where
  | leaf (k : Key)
  | node
  | bad (code : Nat)
deriving DecidableEq, Repr

/-- Resolve a path. `any` leaves out the test that the running configuration provides the instance (R461). -/
def Hw.place (h : Hw) (any : Bool) (p : String) : Place :=
  let ss := splitAt '.' p.toList
  match findPath p with
  | some (some k) => if any || h.provided k then .leaf k else .bad 203
  | some none => .bad 203
  | none =>
    if nodeIn ss (allKeys.filter (fun k => any || h.provided k)) then .node
    else if nodeIn ss allKeys || nodeOut ss then .bad 203
    else .bad 201

/-- The lines of `list` below a node (R475). -/
def Hw.listLines (h : Hw) (p : String) : List String :=
  let ss := splitAt '.' p.toList
  let cs := childrenOf ss (allKeys.filter (fun k => h.provided k))
  (cs.map (·.1)).eraseDups.flatMap (fun c =>
    let full := String.ofList (List.intercalate ['.'] (ss ++ [c]))
    (if cs.any (fun x => decide (x = (c, true))) then ["leaf=" ++ full] else []) ++
    (if cs.any (fun x => decide (x = (c, false))) then ["node=" ++ full] else []))

/-- The names of the classes, of the value types and of the roles to set (R476, R483). -/
def className (x : PClass) : String :=
  match x with | .none => "none" | .a => "A" | .b1 => "B1" | .b2 => "B2" | .b3 => "B3" | .b4 => "B4" | .c => "C" | .r => "R"
def typeName (n : Nat) : String := (["none", "BOOL", "UINT", "SINT", "TIME", "FREQ", "RATIO", "ENUM", "TEXT"][n]?).getD "none"
def roleToSet (n : Nat) : String := (["read-only", "observer", "operator", "custodian", "profile"][n]?).getD ""

/-- The lines of `which` for a path of a table. -/
def whichLines (k : Key) : List String :=
  let r := k.p.row
  let settable := r.canSet || decide (r.role = 4)
  ["path_id=0x" ++ upperHex 4 (pathIdOf k / 65536) ++ "_" ++ upperHex 4 (pathIdOf k),
   "class=" ++ className r.cls, "type=" ++ (if settable then typeName (recType r.vt) else "none"),
   "role=" ++ roleToSet r.role,
   "verbs=" ++ String.intercalate "," ((if r.canShow then ["show"] else []) ++ (if r.canSet then ["set"] else []) ++
     (if r.canClear then ["clear"] else []))]

/-- Those of a node no table lists. -/
def whichNode : List String := ["path_id=none", "class=none", "type=none", "role=read-only", "verbs=list"]

/-- `show` (R472). -/
def Hw.verbShow (h : Hw) (ses : Fin 11) (p : String) : Ans :=
  match h.place false p with
  | .bad c => h.no c
  | .node => h.yes
  | .leaf k => if k.p.row.canShow then h.yes (h.showBody ses k) else h.no 202

/-- `show prong.client <addr>`. -/
def Hw.verbShowClient (h : Hw) (addr : String) : Ans :=
  match addr? addr.toList with
  | none => h.no 102
  | some (f, a) => match h.showClient f a with
    | some l => h.yes l
    | none => h.no 405

/-- `list`. -/
def Hw.verbList (h : Hw) (a : List String) : Ans :=
  match a with
  | p :: _ => match h.place false p with
    | .bad c => h.no c
    | _ => h.yes (h.listLines p)
  | [] => h.yes (stems.map (fun s => "node=" ++ s))

/-- `which`. -/
def Hw.verbWhich (h : Hw) (p : String) : Ans :=
  match h.place false p with
  | .bad c => h.no c
  | .node => h.yes whichNode
  | .leaf k => h.yes (whichLines k)

/-! ## set and clear (R461, R473, R474) -/

/-- Restarts name their client: transport byte, session and account. -/
def Hw.restartBy (h : Hw) (ses : Fin 11) (kind : RestartKind) (mode : Nat) : Hw :=
  h.startRestart kind mode (transCode ses) (sesPlace ses) ((h.mywi.sess[ses]).account.getD "")

/-- The paths of the records that conflict with a mode, in image order (R39). -/
def Hw.conflictPaths (h : Hw) (mode : Nat) : List String :=
  h.records.filterMap (fun r => match r.setting with
    | .ok (k, v) => if conflicts mode k v then some (keyText k) else none
    | .error _ => none)

/-- `set system.mode` (R39, R40); the restart begins once `.ok` is sent. -/
def Hw.verbMode (h : Hw) (ses : Fin 11) (n : Nat) : Ans :=
  h.outside ses
    (if h.restartBusy then h.no 501
     else if h.freeSlots = 0 then h.no 506
     else match h.conflictPaths (n + 1) with
       | [] => { hw := h, after := fun (h : Hw) => h.restartBy ses .mode (n + 1) }
       | l => { hw := h, body := l.map (fun p => "conflict=" ++ p), code := 406 })

/-- Stage an item of a transaction (R461, R462, R465). -/
def Hw.stageItem (h : Hw) (ses : Fin 11) (k : Key) (v : SVal) : Ans :=
  match (h.mywi.sess[ses]).txn with
  | none => h.no 405
  | some l =>
    if k.p.row.cls = .r then h.no 402
    else if h.inWindow k then h.no 501
    else match stageIn l k v with
      | .ok l' => (h.updSes ses (fun s => { s with txn := some l' })).yes
      | .error e => h.no e

/-- Tests 7 (the constraints) and 8, then the effect; `same` leaves out the effect. -/
def Hw.effectOf (h : Hw) (ses : Fin 11) (k : Key) (v : SVal) (same : Bool) : Ans :=
  if !isAct k.p && (h.overlay k v).violates k then h.no 303
  else
    let c := h.stateTest k v
    if c ≠ 0 then h.no c
    else if same then h.yes
    else h.took (h.applyItem (some ses) k v)

/-- `set` (R473): what is in effect already is left alone. -/
def Hw.verbSet (h : Hw) (ses : Fin 11) (p t : String) : Ans :=
  match h.place (h.inTxn ses) p with
  | .bad c => h.no c
  | .node => h.no 202
  | .leaf k =>
    let r := k.p.row
    if !r.canSet then h.no (if r.role = 0 ∨ r.role = 4 then 204 else 202)
    else h.needs ses r.role
      (match parseValue r.vt t with
       | .error e => h.no e
       | .ok v =>
         if k.p = .systemMode then
           (match v with | .nat n => h.verbMode ses n | _ => h.no 301)
         else if h.inTxn ses then h.stageItem ses k v
         else if isSession k.p then h.took (h.applyItem (some ses) k v)
         else h.effectOf ses k v (!isAct k.p && decide (h.shown k = v)))

/-- The value that stands for a `clear`, with its item (Txn). -/
def clearItem (k : Key) (item : Option String) : Parse SVal :=
  match k.p, item with
  | .prongClient, none => .ok .none
  | .prongClient, some a => (match addr? a.toList with | some (f, x) => .ok (.nats [f, x]) | none => .error 102)
  | .utcLeap, none => .ok .none
  | .utcLeap, some d => (dateDay d.toList).map (fun n => .nats [n])
  | _, some _ => .error 103
  | _, none => .ok (clearedVal k)

/-- `clear` of a status or counter path: its latches and counters. -/
def Hw.statusClear (h : Hw) (k : Key) : Hw :=
  match k.p with
  | .storeEcc => { h with sys := { h.sys with ceCnt := 0, uceCnt := 0, uceAddr := 0 } }
  | .supplyAon => h.w1cEvt 1 0x100
  | .bootSkipped => { h with sys := { h.sys with skipped := [] } }
  | .prongCounters => { h with prong := { h.prong with cnt := Vector.replicate 4 (Vector.replicate 18 0) } }
  | .prongUrgent => (List.finRange 16).foldl (fun (h : Hw) (i : Fin 16) => h.updLp i (fun l => { l with maxNs := 0, deep := 0 })) h
  | .sealCounters => { h with sealU := { h.sealU with cnt := Vector.replicate 10 0 } }
  | .latCounters => (List.finRange 4).foldl (fun (h : Hw) (n : Fin 4) => h.updLink n (fun l => { l with cnt := Vector.replicate 4 0 })) h
  | .deckCounters => (List.finRange 2).foldl (fun (h : Hw) (n : Fin 2) => h.updDk n (fun d => { d with cnt := Vector.replicate 9 0 })) h
  | .ibexChState => if hn : k.i < 32 then h.chRestart ⟨k.i, hn⟩ else h
  | .ibexChFlags => if hn : k.i < 32 then h.updCh ⟨k.i, hn⟩ (fun c => { c with flags := 0 }) else h
  | .ibexKidFlags => if hk : k.i < 8 then h.updKid ⟨k.i, hk⟩ (fun c => { c with flags := 0 }) else h
  | .evtTaskTCount => if ht : k.i < 96 then h.taskClear ⟨k.i, ht⟩ else h
  | .pwrFaults => h.clearFaults sleepFaultMask
  | .tallyU => if hu : k.i < 18 then h.unitChange ⟨k.i, hu⟩ (fun x => { x with clearPend := true }) else h
  | .mywiCounters => { h with mywi := { h.mywi with lines := 0, errs := Vector.replicate 9 0 } }
  | .faultCode => h.clearFaults (1#24 <<< k.i)
  | .faultAll => h.clearFaults 0xFFFFFF
  | _ => h

/-- `clear` of a status path: channel 31 is IRIG-B's own while that output is enabled (R399). -/
def Hw.statusAns (h : Hw) (k : Key) : Ans :=
  if (k.p = .ibexChState ∨ k.p = .ibexChFlags) ∧ k.i = 31 ∧ h.irigReserved then h.no 507
  else (h.statusClear k).yes

/-- `clear` (R474). -/
def Hw.verbClear (h : Hw) (ses : Fin 11) (p : String) (item : Option String) : Ans :=
  match h.place (h.inTxn ses) p with
  | .bad c => h.no c
  | .node => h.no 202
  | .leaf k =>
    let r := k.p.row
    if !r.canClear then h.no 202
    else match clearItem k item with
      | .error 103 => h.no 103
      | x =>
        if !isSetting k.p then h.needs ses 2 (h.statusAns k)
        else h.needs ses r.role
          (match x with
           | .error e => h.no e
           | .ok v =>
             if h.inTxn ses then h.stageItem ses k v
             else h.effectOf ses k v (decide (r.cls = .a) && decide (h.shown k = v)))

/-! ## Login (R151 to R154, R478) -/

/-- Some `mywi.account` record is in effect. -/
def Hw.anyAccount (h : Hw) : Bool := (List.range 16).any (fun i => (accountParts (h.effS .mywiAccount i)).isSome)

/-- The role and key of the account of a name: the first record that holds it. -/
def Hw.accountOf (h : Hw) (name : String) : Option (Nat × Nat) :=
  (List.range 16).findSome? (fun i => match accountParts (h.effS .mywiAccount i) with
    | some (n, r, w) => if n = name then ((hexGroups? w.toList).bind (fun g => Config.unwrapKey g.1)).map (fun k => (r, k)) else none
    | none => none)

/-- m of R151. -/
def authMessage (name : String) (trans : Nat) (nonce : Nat) : List Byte :=
  asciiBytes "mywi1" ++ [0] ++ asciiBytes name ++ [0] ++ beBytes 1 trans ++ beBytes 16 nonce

/-- A login on a session: custodian is held once (R149) and leaves a LOGIN record (R318); the transport's count of
failures ends (R152). -/
def Hw.login (h : Hw) (ses : Fin 11) (role : Nat) (account : String) : Except Nat Hw :=
  let h := h.updSes ses Session.roleEnd
  if role = 3 ∧ h.custodianHeld then .error 505
  else if role = 3 ∧ h.freeSlots = 0 then .error 506
  else
    let h := if role = 3 then
        h.journal 0x18 (beBytes 1 (transCode ses) ++ beBytes 1 (sesPlace ses) ++ accountBytes (some account)) else h
    let h := { h with mywi := { h.mywi with fails := h.mywi.fails.set (transOf ses) 0 } }
    .ok (h.takeRoleSes ses role (some account))

/-- The answer to a login. -/
def Hw.loginAns (h : Hw) (ses : Fin 11) (role : Nat) (account : String) : Ans :=
  match h.login ses role account with
  | .ok x => x.yes ["role=" ++ roleName role]
  | .error e => h.no e

/-- A failed reply (R152): `mywi.auth_fail`, and at the fifth failure the lock, with which the count starts again. -/
def Hw.authFail (h : Hw) (ses : Fin 11) (name : String) : Hw :=
  let t := transOf ses
  let n := h.mywi.fails[t] + 1
  let h := { h with mywi := { h.mywi with
    fails := h.mywi.fails.set t (if n = 5 then 0 else n)
    lockAt := if n = 5 then h.mywi.lockAt.set t (some h.time.up) else h.mywi.lockAt } }
  h.say "mywi.auth_fail" [("transport", transportName ses.val), ("name", name)]

/-- `auth` is locked on the session's transport (R152). -/
def Hw.authLocked (h : Hw) (ses : Fin 11) : Bool := (h.mywi.lockAt[transOf ses]).isSome

/-- `auth <name>`: the role ends and a nonce is sent, for an unknown name as for a known one. -/
def Hw.verbAuth (h : Hw) (ses : Fin 11) (name : String) : Ans :=
  if h.authLocked ses then h.no 602
  else
    let (n, h) := h.fresh
    let v : BitVec 128 := BitVec.ofNat 128 n
    (h.updSes ses (fun s => { s.roleEnd with nonce := some { bits := v, at_ := h.time.up, name := name } })).yes
      ["nonce=" ++ showGroups 4 v.toNat]

/-- `auth reply <mac>`: each nonce is good for one reply within 30 s. -/
def Hw.verbReply (h : Hw) (ses : Fin 11) (mac : String) : Ans :=
  if h.authLocked ses then h.no 602
  else match (h.mywi.sess[ses]).nonce with
    | none => h.no 604
    | some n =>
      let h := h.updSes ses (fun s => { s with nonce := none })
      if n.at_ + 30 * auPerSec < h.time.up then h.no 604
      else
        let m := authMessage n.name (transCode ses) n.bits.toNat
        match h.accountOf n.name with
        | some (r, k) =>
          if hexGroups? mac.toList = some ((Config.hmacSha256 k m).toNat, 8) then h.loginAns ses r n.name
          else (h.authFail ses n.name).no 601
        | none => (h.authFail ses n.name).no 601

/-- `auth local` (R153). -/
def Hw.verbLocal (h : Hw) (ses : Fin 11) : Ans :=
  if h.authLocked ses then h.no 602
  else if 3 ≤ ses.val ∨ h.anyAccount then h.no 603
  else h.loginAns ses 3 "local"

/-- `auth end`: the role ends, and on MGMT the connection (R150). -/
def Hw.verbEnd (h : Hw) (ses : Fin 11) : Ans :=
  if h.authLocked ses then h.no 602
  else { hw := h.updSes ses Session.roleEnd, after := fun (h : Hw) => if 3 ≤ ses.val then h.endSes ses else h }

/-- `auth account <n> <name> <role>` (R478). -/
def Hw.verbAccount (h : Hw) (ses : Fin 11) (n name role : String) : Ans :=
  h.needs ses 3
    (match argNat 0 15 n with
     | .error e => h.no e
     | .ok i =>
       if !nameOk name.toList || !(["observer", "operator", "custodian"] : List String).contains role then h.no 302
       else h.outside ses
         (if h.authLocked ses then h.no 602
          else
            let (x, h) := h.fresh
            let k := x % 2 ^ 256
            let w := showGroups 10 (Config.wrapKey k)
            (h.put ⟨.mywiAccount, i, 0⟩ (.str (name ++ "," ++ role ++ "," ++ w))).yes ["key=" ++ showGroups 8 k, "wrapped=" ++ w]))

/-- The forms of `auth`. -/
def Hw.authForms (h : Hw) (ses : Fin 11) (a : List String) : Ans :=
  match a with
  | ["end"] => h.verbEnd ses
  | ["local"] => h.verbLocal ses
  | ["reply", m] => h.verbReply ses m
  | ["account", n, x, r] => h.verbAccount ses n x r
  | [x] => h.verbAuth ses x
  | _ => h.no 103

/-- `quit` (R477): the session ends; on CON0, HSPI and the mailbox a new one begins at once. -/
def Hw.verbQuit (h : Hw) (ses : Fin 11) : Ans :=
  { hw := h, after := fun (h : Hw) => let h := h.endSes ses; if ses.val < 3 then h.startSes ses else h }

/-! ## Transactions (R461 to R463) -/

/-- `begin`. -/
def Hw.verbBegin (h : Hw) (ses : Fin 11) : Ans :=
  h.needs ses 2 (h.outside ses ((h.updSes ses (fun s => { s with txn := some [] })).yes))

/-- `abort`. -/
def Hw.verbAbort (h : Hw) (ses : Fin 11) : Ans := h.needs ses 2 ((h.updSes ses (fun s => { s with txn := none })).yes)

/-- `commit`, `commit at <T>`: the response is sent once the last item is applied. -/
def Hw.verbCommit (h : Hw) (ses : Fin 11) (a : List String) : Ans :=
  let now := h.time.axis
  let t : Parse Nat := match a with
    | [_, t] => commitTime now t
    | _ => .ok (now + 100 * auPerUs)
  h.needs ses 2
    (match t, (h.mywi.sess[ses]).txn with
     | .error e, _ => h.no e
     | .ok _, none => h.no 405
     | .ok t, some l =>
       match h.commitTest t l with
       | (0, _) => { hw := h.commitStart ses t l, wait := true }
       | (c, body) => { hw := h, body := body, code := c })

/-! ## One block and the engine as a whole -/

/-- `flush class n`, `flush class all` (R286). -/
def Hw.verbFlush (h : Hw) (ses : Fin 11) (x : String) : Ans :=
  h.needs ses 2
    (if x = "all" then (h.flushClass none).yes
     else match argNat 0 63 x with
       | .ok n => (h.flushClass (some n)).yes
       | .error e => h.no e)

/-- The blocks of Table 5.6 by name. -/
def resetBlocks : List RstBlock :=
  (List.finRange 4).map RstBlock.port ++ (List.finRange 4).map RstBlock.group ++ (List.finRange 4).map RstBlock.lat ++
  (List.finRange 2).map RstBlock.deck ++ [.ibex, .dma, .tally]

/-- A block reset asked for by Mywi (R97): the reset begins once `.ok` is sent. -/
def Hw.resetAns (h : Hw) (ses : Fin 11) (b : RstBlock) : Ans :=
  h.needs ses 2 (h.outside ses
    (let c := h.resetTest b
     if c ≠ 0 then h.no c else { hw := h, after := fun (h : Hw) => h.resetStart b }))

/-- `reset <block>`: another block is E408. -/
def Hw.verbReset (h : Hw) (ses : Fin 11) (x : String) : Ans :=
  match resetBlocks.find? (fun b => decide (b.name = x)) with
  | some b => h.resetAns ses b
  | none => h.needs ses 2 (h.no 408)

/-- `restart warm` (R96). -/
def Hw.verbWarm (h : Hw) (ses : Fin 11) : Ans :=
  h.needs ses 2 (h.outside ses
    (if h.restartBusy then h.no 501 else { hw := h, after := fun (h : Hw) => h.restartBy ses .warm h.sys.runMode }))

/-- `restart warden` (R468). -/
def Hw.verbWarden (h : Hw) (ses : Fin 11) : Ans :=
  h.needs ses 2 (h.outside ses
    (if h.restartBusy || h.img.write.isSome then h.no 501 else { hw := h, after := Hw.wardenRestart }))

/-- `restart cold`, `restart cold force` (R96): COLD_SRC 3. -/
def Hw.verbCold (h : Hw) (ses : Fin 11) (force : Bool) : Ans :=
  h.needs ses 3 (h.outside ses
    (if h.restartBusy then h.no 501
     else if !force && decide (h.sealU.ack < h.sealU.next) then h.no 409
     else { hw := h, after := fun (h : Hw) => h.coldReset 3 }))

/-- `power off`, `power off force` (R442): the entry begins once `.ok` is sent. -/
def Hw.verbPower (h : Hw) (ses : Fin 11) (force : Bool) : Ans :=
  h.needs ses 3 (h.outside ses
    (match h.powerOffStart force with
     | .error e => h.no e
     | .ok _ => { hw := h, after := fun (h : Hw) => (match h.powerOffStart force with | .ok x => x | .error _ => h) }))

/-! ## image (R129 to R132, R479) -/

/-- A length of an image in bytes: E304 above 4 MiB. -/
def imageLength (s : String) : Parse Nat :=
  match natural? s.toList with
  | some n => if 4194304 < n then .error 304 else .ok n
  | none => .error 102

/-- `image write store <offset> <length>`: bytes of the general region of Store. -/
def Hw.verbImageStore (h : Hw) (ses : Fin 11) (o n : String) : Ans :=
  h.needs ses 3
    (match imageLength n, argNat 0x180000000 0x1FFFFFFFF o with
     | .error e, _ => h.no e
     | _, .error e => h.no e
     | .ok len, .ok off =>
       if 0x200000000 < off + len then h.no 301
       else h.outside ses (h.took (h.imageStart (some off) [] len)))

/-- `image write begin <length>`. -/
def Hw.verbImageBegin (h : Hw) (ses : Fin 11) (n : String) : Ans :=
  h.needs ses 3
    (match imageLength n with
     | .error e => h.no e
     | .ok len => h.outside ses
       (if (h.mywi.sess[ses]).img.isSome || h.imageBusy then h.no 501
        else if 0xFFFFFFFF ≤ h.img.nextGen then h.no 502
        else (h.updSes ses (fun s => { s with img := some { len := len } })).yes))

/-- A digit of base64. -/
def b64val (c : Char) : Option Nat :=
  if c.isUpper then some (c.toNat - 65) else if c.isLower then some (c.toNat - 71) else if c.isDigit then some (c.toNat + 4)
  else if c = '+' then some 62 else if c = '/' then some 63 else none

/-- Base64 with its padding. -/
def base64? : List Char → Option (List Byte)
  | [] => some []
  | [a, b, '=', '='] => match b64val a, b64val b with
    | some x, some y => some (beBytes 1 ((x * 64 + y) / 16))
    | _, _ => none
  | [a, b, c, '='] => match b64val a, b64val b, b64val c with
    | some x, some y, some z => some (beBytes 2 (((x * 64 + y) * 64 + z) / 4))
    | _, _, _ => none
  | a :: b :: c :: d :: r => match b64val a, b64val b, b64val c, b64val d, base64? r with
    | some x, some y, some z, some w, some l => some (beBytes 3 (((x * 64 + y) * 64 + z) * 64 + w) ++ l)
    | _, _, _, _, _ => none
  | _ => none

/-- Lay a chunk over the staged bytes. -/
def ImgStage.put (s : ImgStage) (o : Nat) (l : List Byte) : ImgStage :=
  { s with bytes := (List.range l.length).map (fun i => (o + i, l.getD i 0)) ++
      s.bytes.filter (fun c => decide (c.1 < o ∨ o + l.length ≤ c.1)) }

/-- The bytes of a staged image: 0xFF where no chunk covered it. -/
def ImgStage.image (s : ImgStage) : List Byte := (List.range s.len).map (fun i => (assoc i s.bytes).getD 0xFF)

/-- `image chunk <offset> <base64>`. -/
def Hw.verbImageChunk (h : Hw) (ses : Fin 11) (o t : String) : Ans :=
  h.needs ses 3
    (match natural? o.toList, base64? t.toList with
     | none, _ => h.no 102
     | _, none => h.no 302
     | some off, some l =>
       if 576 < l.length then h.no 302
       else match (h.mywi.sess[ses]).img with
         | none => h.outside ses (h.no 501)
         | some g =>
           if g.len < off + l.length then h.no 301
           else h.outside ses ((h.updSes ses (fun s => { s with img := some (g.put off l) })).yes))

/-- `image write end`. -/
def Hw.verbImageEnd (h : Hw) (ses : Fin 11) : Ans :=
  h.needs ses 3 (h.outside ses
    (match (h.mywi.sess[ses]).img with
     | none => h.no 501
     | some g => match h.imageStart none g.image g.len with
       | .ok x => (x.updSes ses (fun s => { s with img := none })).yes
       | .error e => h.no e))

/-- A command that appends a record needs a free slot (R323). -/
def Hw.recorded (h : Hw) (a : Ans) : Ans := if h.freeSlots = 0 then h.no 506 else a

/-- `image activate` (R131): the warm restart begins once `.ok` is sent. -/
def Hw.verbActivate (h : Hw) (ses : Fin 11) : Ans :=
  h.needs ses 3 (h.outside ses
    (match h.imageActivate with
     | .error e => h.no e
     | .ok x => h.recorded { hw := x, after := fun (h : Hw) => h.restartBy ses .activation h.sys.runMode }))

/-- `image owner enroll a|b` (R120). -/
def Hw.verbEnroll (h : Hw) (ses : Fin 11) (x : String) : Ans :=
  h.needs ses 3 (h.outside ses
    (match h.ownerEnroll (if x = "a" then 0 else 1) with
     | .error e => h.no e
     | .ok y => h.recorded y.yes))

/-- `image owner revoke <0-3>` (R120). -/
def Hw.verbRevoke (h : Hw) (ses : Fin 11) (x : String) : Ans :=
  h.needs ses 3
    (match argNat 0 3 x with
     | .error e => h.no e
     | .ok n => h.outside ses
       (match h.ownerRevoke (Fin.ofNat 4 n) with
        | .error e => h.no e
        | .ok y => h.recorded y.yes))

/-- `image rollback commit` (R121). -/
def Hw.verbRollback (h : Hw) (ses : Fin 11) : Ans :=
  h.needs ses 3 (h.outside ses
    (match h.rollbackCommit with
     | .error e => h.no e
     | .ok y => h.recorded y.yes))

/-! ## seal and journal (R313, R322) -/

/-- A `seal key` command on a slot. -/
def Hw.verbKey (h : Hw) (ses : Fin 11) (n : String) (f : Hw → Fin 8 → Except Nat Hw) : Ans :=
  h.needs ses 3
    (match argNat 0 7 n with
     | .error e => h.no e
     | .ok k => h.outside ses (h.took (f h (Fin.ofNat 8 k))))

/-- `journal release <seq>`. -/
def Hw.verbRelease (h : Hw) (ses : Fin 11) (x : String) : Ans :=
  h.needs ses 3
    (match argNat 0 18446744073709551615 x with
     | .error e => h.no e
     | .ok v => h.outside ses (h.took (h.journalReleaseTo v) ["rel=" ++ toString v]))

/-! ## A verb as a whole -/

/-- The effect of a verb whose arguments match a form, in a session that holds a role or with `auth`. -/
def Hw.verbDo (h : Hw) (ses : Fin 11) (verb : String) (a : List String) : Ans :=
  match verb, a with
  | "show", [p] => h.verbShow ses p
  | "show", [_, x] => h.verbShowClient x
  | "set", [p, v] => h.verbSet ses p v
  | "clear", [p] => h.verbClear ses p none
  | "clear", [p, x] => h.verbClear ses p (some x)
  | "list", a => h.verbList a
  | "which", [p] => h.verbWhich p
  | "auth", a => h.authForms ses a
  | "quit", _ => h.verbQuit ses
  | "begin", _ => h.verbBegin ses
  | "commit", a => h.verbCommit ses a
  | "abort", _ => h.verbAbort ses
  | "flush", [_, x] => h.verbFlush ses x
  | "reset", [x] => h.verbReset ses x
  | "restart", ["warm"] => h.verbWarm ses
  | "restart", ["warden"] => h.verbWarden ses
  | "restart", ["cold"] => h.verbCold ses false
  | "restart", ["cold", "force"] => h.verbCold ses true
  | "power", ["off"] => h.verbPower ses false
  | "power", ["off", "force"] => h.verbPower ses true
  | "image", ["write", "store", o, n] => h.verbImageStore ses o n
  | "image", ["write", "begin", n] => h.verbImageBegin ses n
  | "image", ["chunk", o, t] => h.verbImageChunk ses o t
  | "image", ["write", "end"] => h.verbImageEnd ses
  | "image", ["activate"] => h.verbActivate ses
  | "image", ["owner", "enroll", x] => h.verbEnroll ses x
  | "image", ["owner", "revoke", x] => h.verbRevoke ses x
  | "image", ["rollback", "commit"] => h.verbRollback ses
  | "seal", ["key", "gen", n, x] => h.verbKey ses n (fun (h : Hw) k => h.keyGen k (if x = "es256" then 0 else 1))
  | "seal", ["key", "use", n] => h.verbKey ses n Hw.keyUse
  | "seal", ["key", "retire", n] => h.verbKey ses n Hw.keyRetire
  | "seal", ["key", "erase", n] => h.verbKey ses n Hw.keyErase
  | "journal", [_, x] => h.verbRelease ses x
  | _, _ => h.no 103

/-- Tests 3 and 4 of Table 7.4, then the verb. -/
def Hw.verb (h : Hw) (ses : Fin 11) (verb : String) (a : List String) : Ans :=
  let c := formCode verb a
  if c ≠ 0 then h.no c
  else if verb ≠ "auth" ∧ h.role ses = 0 then h.no 404
  else h.verbDo ses verb a

/-- The interpreter takes lines of a session: Mywi is open, the session too, no commit of its own is in progress and its
output is not full (R163, R465). -/
def Hw.sesReady (h : Hw) (ses : Fin 11) : Bool :=
  let s := h.mywi.sess[ses]
  h.mywi.openM && s.openS && !s.waiting && !s.blocked && h.domUp .keep

/-- A new baud rate waits for the terminal line of its `set` to leave CON0; on another transport it is taken at once
(R156). -/
def Hw.baudMark (old h : Hw) (ses : Fin 11) (tag : String) : Hw :=
  match h.mywi.baudNext with
  | some (r, none) =>
    if ses = 0 then
      let s := { (old.mywi.sess[ses]) with prompt := false }
      { h with mywi := { h.mywi with baudNext := some (r, some (s.answer ses.val tag [] (terminal 0)).out.length) } }
    else { h with mywi := { h.mywi with baud := r, baudNext := none } }
  | _ => h

/-- Answer a line: the response, then what begins after it; a commit answers once it is applied. A line answered with E503
marks the mailbox's OVERRUN. -/
def Hw.finish (_h : Hw) (ses : Fin 11) (tag : String) (a : Ans) : Hw :=
  if a.wait then a.hw.updSes ses (fun s => { s with tag := tag })
  else
    let h := Hw.baudMark a.hw (a.hw.respond ses tag a.body a.code) ses tag
    let h := if ses = 2 ∧ a.code = 503 then h.setMbx 3 else h
    a.after h

/-- A line of one verb, as its own command: the line arrives whole, without a tag, when the session takes lines. -/
def Hw.runVerb (h : Hw) (ses : Fin 11) (verb : String) (a : List String) : Hw :=
  h.when (h.sesReady ses) (fun h =>
    let h := h.updSes ses (fun s => { s with lastLine := h.time.up })
    h.finish ses "" (h.verb ses verb a))

end Sys2Proof.Machine
end

