-- ==== Sys2Proof/Machine/Console.lean ====
section
/-!
DEFINITION. Mywi lines and transports (chapter 7): a complete line is taken apart and answered (R133 to R142, R147), and
the events of CON0, HSPI, the mailbox and MGMT (R155 to R164); the Mywi commands as rows of their own.
-/
set_option autoImplicit false

namespace Sys2Proof.Machine

/-! ## Taking a line apart -/

/-- Where a line is being cut into tokens: the tokens so far, latest first, with whether each was quoted; an open plain
token, an open quoted one; whether an escape is open, a quote has just closed, the line is malformed. -/
structure Lex where
  toks : List (Bool × List Char) := []
  cur : Option (List Char) := none
  quo : Option (List Char) := none
  esc : Bool := false
  closed : Bool := false
  bad : Bool := false
deriving DecidableEq, Repr

/-- One character more. -/
def Lex.step (x : Lex) (c : Char) : Lex :=
  match x.quo with
  | some q =>
    if x.esc then (if c = '"' ∨ c = '\\' then { x with quo := some (c :: q), esc := false } else { x with bad := true })
    else if c = '\\' then { x with esc := true }
    else if c = '"' then { x with toks := (true, q.reverse) :: x.toks, quo := none, closed := true }
    else { x with quo := some (c :: q) }
  | none =>
    if c = ' ' then
      match x.cur with
      | some t => { x with toks := (false, t.reverse) :: x.toks, cur := none, closed := false }
      | none => { x with closed := false }
    else if x.closed then { x with bad := true }
    else if c = '"' then
      match x.cur with
      | some _ => { x with bad := true }
      | none => { x with quo := some [] }
    else { x with cur := some (c :: x.cur.getD []) }

/-- The tokens of a line, quoted ones with their escapes resolved; none when a quote is malformed (E102). -/
def lexLine (l : List Char) : Option (List (Bool × List Char)) :=
  let x := l.foldl Lex.step {}
  if x.bad || x.quo.isSome then none
  else some ((match x.cur with | some t => (false, t.reverse) :: x.toks | none => x.toks).reverse)

/-- Cut at the first `;c=` outside a quoted string (R141). -/
def cutCheck (inQ esc : Bool) : List Char → List Char × Option (List Char)
  | [] => ([], none)
  | c :: r =>
    if inQ then
      let q := if esc then (true, false) else if c = '\\' then (true, true) else if c = '"' then (false, false) else (true, false)
      let (a, b) := cutCheck q.1 q.2 r
      (c :: a, b)
    else if c = ';' ∧ r.take 2 = ['c', '='] then ([], some (r.drop 2))
    else
      let (a, b) := cutCheck (decide (c = '"')) false r
      (c :: a, b)

/-- The check suffix is exactly the CRC of what stands before it. -/
def checkOk (body suffix : List Char) : Bool :=
  decide (suffix.length = 4) && suffix.all (fun c => (hexVal? c).isSome) &&
  decide (suffix.foldl (fun a c => a * 16 + (hexVal? c).getD 0) 0 = crc16 (asciiBytes (String.ofList body)))

/-- A part of a token whose uppercase letters are hexadecimal digits or belong to a unit (R137). `v6`: the token holds a
`:`, so that its parts may be groups of an address. -/
def caseOk (v6 : Bool) (l : List Char) : Bool :=
  l.all (fun c => !c.isUpper) ||
  (match l with | '0' :: 'x' :: r => r.all (fun c => (hexVal? c).isSome || decide (c = '_')) | _ => false) ||
  (l.all (fun c => (hexVal? c).isSome) && (v6 || decide (l.length = 8))) ||
  (match decFrac? l with
   | some (_, _, u) => (timeUnitPs u).isSome || (freqUnit u).isSome || (ratioUnit u).isSome
   | none => false)

/-- A plain token: no `;`, and uppercase only where R137 allows it. -/
def tokenOk (l : List Char) : Bool :=
  let v6 := l.contains ':'
  !l.contains ';' &&
  (l.foldr (fun c (a : List (List Char)) =>
    if ([',', ':', '@', '/', '+', '-', '='] : List Char).contains c then [] :: a
    else match a with | x :: r => (c :: x) :: r | [] => [[c]]) [[]]).all (caseOk v6)

/-- A tag token. -/
def tagOf (l : List Char) : Option String :=
  match l with
  | '#' :: d => if 1 ≤ d.length ∧ d.length ≤ 9 ∧ d.all Char.isDigit then some (String.ofList d) else none
  | _ => none

/-- The tag at the start of a line that fails test 1, when it parses. -/
def tryTag (l : List Char) : String :=
  let l := (l.map (fun c => if c = '\t' then ' ' else c)).dropWhile (· = ' ')
  let t := l.takeWhile (· ≠ ' ')
  if (l.drop t.length).isEmpty then "" else (tagOf t).getD ""

/-- Tokens tested by R137; the third argument of `image chunk` is base64, whose letters are of both cases. -/
def lineTokensOk (l : List (Bool × List Char)) : Bool :=
  let chunk := match l with | a :: b :: _ => decide (a.2 = "image".toList ∧ b.2 = "chunk".toList) | _ => false
  (l.zipIdx.all (fun t => t.1.1 || (chunk && decide (t.2 = 3)) || tokenOk t.1.2))

/-- Test 3 on a line and what follows: the tag and the answer. -/
def Hw.lineAns (h : Hw) (ses : Fin 11) (body : List Char) : String × Ans :=
  match lexLine (body.map (fun c => if c = '\t' then ' ' else c)) with
  | none => ("", h.no 102)
  | some l =>
    let (tag, l) : Option String × List (Bool × List Char) := match l with
      | (false, '#' :: d) :: r => (some ((tagOf ('#' :: d)).getD ""), r)
      | l => (none, l)
    if tag = some "" then ("", h.no 102)
    else
      let tg := tag.getD ""
      if !lineTokensOk l then (tg, h.no 102)
      else match l with
        | (false, v) :: r => (tg, h.verb ses (String.ofList v) (r.map (fun t => String.ofList t.2)))
        | _ => (tg, h.no 101)

/-- The bytes of a line, a CR of its terminator left out. -/
def lineBytes (l : List InItem) : List Byte :=
  let b := l.filterMap (fun (x : InItem) => match x with | .byte b => some b | .bad _ => none)
  if b.getLast? = some 0x0D then b.dropLast else b

/-- Test 1 of Table 7.4: the code of the first failure in its order, or 0. -/
def byteCode (l : List InItem) : Nat :=
  let has := fun (n : Nat) => l.any (fun (x : InItem) => decide (x = .bad n))
  if has 702 then 702
  else if has 703 then 703
  else if (lineBytes l).any (fun b => !decide (b = 0x09 ∨ (0x20 ≤ b.toNat ∧ b.toNat ≤ 0x7E))) then 704
  else if has 503 then 503
  else 0

/-- One complete line of a session (R147). -/
def Hw.lineDo (h : Hw) (ses : Fin 11) (l : List InItem) : Hw :=
  let c := byteCode l
  let text := (lineBytes l).map (fun b => Char.ofNat b.toNat)
  if c ≠ 0 then h.finish ses (tryTag text) (h.no c)
  else if text.all (fun c => decide (c = ' ' ∨ c = '\t')) then (h.updSes ses (fun s => s.put s.promptText)).pump ses
  else
    let (body, suffix) := cutCheck false false text
    let ok := match suffix with | some x => checkOk body x | none => decide ((h.mywi.sess[ses]).check ≠ 2)
    if !ok then h.finish ses "" (h.no 701)
    else
      let (tag, a) := h.lineAns ses body
      h.finish ses tag a

/-- The first complete line of an input buffer and what follows it. -/
def firstLine (l : List InItem) : Option (List InItem × List InItem) :=
  let a := l.takeWhile (fun (x : InItem) => decide (x ≠ .byte 0x0A))
  if a.length < l.length then some (a, l.drop (a.length + 1)) else none

/-- CON0_RTS_N (R157): high while fewer than 256 bytes of the input buffer are free. -/
def Hw.rts (h : Hw) : Hw :=
  { h with mywi := { h.mywi with rtsHigh := decide (inSize < (h.mywi.sess[(0 : Fin 11)]).inUsed + 256) } }

/-- Room in an input buffer lets the mailbox ring move on and CON0_RTS_N fall. -/
def Hw.inMoved (h : Hw) (ses : Fin 11) : Hw :=
  if ses = 0 then h.rts else if ses = 2 then (h.mbxTake 1024).mbxPump 512 else h

/-- MYWI_LINE (R147, R148): the interpreter takes the session's next complete line. -/
def execMywiLine (ses : Fin 11) (s : State) : Host.Outcome State Fault Refusal :=
  s.on (fun h => h.when (h.sesReady ses) (fun h =>
    match firstLine (h.mywi.sess[ses]).inBuf with
    | none => h
    | some (l, r) => ((h.updSes ses (fun s => { s with inBuf := r })).lineDo ses l).inMoved ses))

/-! ## Sessions -/

/-- MGMT takes connections (R127, R155). -/
def Hw.mgmtOpen (h : Hw) : Bool := h.mywi.openM && h.anchored && h.effB .mgmtEnable

/-- SESSION_START (R155): a session begins on a transport that has none. -/
def execSessionStart (ses : Fin 11) (s : State) : Host.Outcome State Fault Refusal :=
  s.on (fun h => h.when (h.mywi.openM && !(h.mywi.sess[ses]).openS && (decide (ses.val < 3) || h.mgmtOpen)) (fun h => h.startSes ses))

/-- MYWI_IDLE (R150): no complete line for `mywi.idle`; the role ends, and on MGMT the connection. -/
def execMywiIdle (ses : Fin 11) (s : State) : Host.Outcome State Fault Refusal :=
  s.on (fun h =>
    let x := h.mywi.sess[ses]
    h.when (x.openS && h.passed x.lastLine (h.effN .mywiIdle)) (fun h =>
      if 3 ≤ ses.val then h.endSes ses else h.updSes ses Session.roleEnd))

/-- AUTH_LOCK_EXPIRY (R152): the lock of a transport ends after 60 s. -/
def execAuthLockExpiry (t : Fin 4) (s : State) : Host.Outcome State Fault Refusal :=
  s.on (fun h => h.when (h.passedO h.mywi.lockAt[t] 60000000000000) (fun h =>
    { h with mywi := { h.mywi with lockAt := h.mywi.lockAt.set t none } }))

/-- MGMT_CONNECT (R161): a handshake that succeeds takes a free session; a ninth connection is refused. -/
def execMgmtConnect (ok : Bool) (s : State) : Host.Outcome State Fault Refusal :=
  s.on (fun h => h.when (ok && h.mgmtOpen) (fun h =>
    match (List.finRange 11).find? (fun (i : Fin 11) => decide (3 ≤ i.val) && !(h.mywi.sess[i]).openS) with
    | some i => h.startSes i
    | none => h))

/-- An MGMT connection is gone, with what it had not sent. -/
def Hw.mgmtDrop (h : Hw) (ses : Fin 11) : Hw :=
  h.when (decide (3 ≤ ses.val) && (h.mywi.sess[ses]).openS) (fun h => (h.endSes ses).updSes ses (fun _ => {}))

/-- MGMT_CONNECTION_DROP (R150). -/
def execMgmtConnectionDrop (ses : Fin 11) (s : State) : Host.Outcome State Fault Refusal := s.on (fun h => h.mgmtDrop ses)

/-- MGMT_OUTPUT_BLOCKED (R163): output has been blocked for 30 s. -/
def execMgmtOutputBlocked (ses : Fin 11) (s : State) : Host.Outcome State Fault Refusal :=
  s.on (fun h => h.when (decide ((h.mywi.sess[ses]).out ≠ [])) (fun h => h.mgmtDrop ses))

/-- Every open session sends what waits for it (R144): what happens while no command waits. -/
def Hw.sendAll (h : Hw) : Hw := (List.finRange 11).foldl (fun (h : Hw) (i : Fin 11) => h.pump i) h

/-! ## CON0 (R156, R157, R164) -/

/-- CON0_CHARACTER_RECEIVED: a framing error marks the line. -/
def execCon0CharacterReceived (b : Byte) (framed : Bool) (s : State) : Host.Outcome State Fault Refusal :=
  s.on (fun h => h.when (h.mywi.openM && (h.mywi.sess[(0 : Fin 11)]).openS) (fun h =>
    let h := if framed then h.updSes 0 (fun s => s.item (.bad 703)) else h
    (h.takeByte 0 b).rts))

/-- CON0_BREAK: the partial line is discarded. -/
def execCon0Break (s : State) : Host.Outcome State Fault Refusal := s.on (fun h => (h.updSes 0 Session.dropPartial).rts)

/-- Bytes have left CON0 or MGMT; a new baud rate is in use once the last character of its `.ok` has left. -/
def Hw.drained (h : Hw) (ses : Fin 11) (n : Nat) : Hw :=
  let h := h.updSes ses (fun s => { s with out := s.out.drop n })
  if ses ≠ 0 then h
  else match h.mywi.baudNext with
    | some (r, some k) =>
      if k ≤ n then { h with mywi := { h.mywi with baud := r, baudNext := none } }
      else { h with mywi := { h.mywi with baudNext := some (r, some (k - n)) } }
    | some (r, none) => if (h.mywi.sess[ses]).out = [] then { h with mywi := { h.mywi with baud := r, baudNext := none } } else h
    | none => h

/-- OUTPUT_BUFFER_DRAIN (R163): `n` characters leave on CON0 or an MGMT connection, and notices that waited for room follow. -/
def execOutputBufferDrain (ses : Fin 11) (n : Nat) (s : State) : Host.Outcome State Fault Refusal :=
  s.on (fun h => h.when (decide (ses.val ≠ 1 ∧ ses.val ≠ 2)) (fun h => (h.drained ses n).pump ses))

/-! ## HSPI (R158, Table 7.6) -/

/-- What MISO carries in a transaction the engine ignores. -/
def Hw.hspiIgnored (h : Hw) (n : Nat) : Hw := { h with mywi := { h.mywi with miso := List.replicate n 0xFF } }

/-- A WRITE: the first RX_FREE bytes are taken, the rest discarded with the mark of E503. -/
def Hw.hspiPut (h : Hw) (data : List Byte) : Hw :=
  let free := inSize - (h.mywi.sess[(1 : Fin 11)]).inUsed
  let h := (data.take free).foldl (fun (h : Hw) b => h.takeByte 1 b) { h with mywi := { h.mywi with miso := [] } }
  if data.length ≤ free then h
  else h.updSes 1 (fun s => if s.openS ∧ ¬ s.skip then { s.item (.bad 503) with skip := true } else s)

/-- HSPI_WRITE. -/
def execHspiWrite (data : List Byte) (s : State) : Host.Outcome State Fault Refusal :=
  s.on (fun h => if !h.mywi.hspiRdy ∨ data.length = 0 ∨ 1024 < data.length then h.hspiIgnored data.length else h.hspiPut data)

/-- HSPI_READ: the bytes after the dummy byte, 0x00 beyond TX_PENDING. -/
def execHspiRead (n : Nat) (s : State) : Host.Outcome State Fault Refusal :=
  s.on (fun h =>
    if !h.mywi.hspiRdy ∨ n = 0 ∨ 1024 < n then h.hspiIgnored n
    else
      let o := (h.mywi.sess[(1 : Fin 11)]).out.take n
      let h := { h with mywi := { h.mywi with miso := padTo n (o.map (fun (c : Char) => BitVec.ofNat 8 c.toNat)) } }
      (h.updSes 1 (fun s => { s with out := s.out.drop n })).pump 1)

/-- HSPI_STATUS: RX_FREE and TX_PENDING, most significant byte first. -/
def execHspiStatus (s : State) : Host.Outcome State Fault Refusal :=
  s.on (fun h =>
    if !h.mywi.hspiRdy then h.hspiIgnored 4
    else
      let x := h.mywi.sess[(1 : Fin 11)]
      { h with mywi := { h.mywi with miso := beBytes 2 (inSize - x.inUsed) ++ beBytes 2 (min 65535 x.out.length) } })

/-! ## The mailbox (R159, R160) -/

/-- MBX_IN_PROD_WRITE. -/
def execMbxInProdWrite (v : Word) (s : State) : Host.Outcome State Fault Refusal := s.onWrite (fun h => h.busWrite 0x108 v)

/-- MBX_RESET. -/
def execMbxReset (s : State) : Host.Outcome State Fault Refusal := s.on (fun h => h.when (h.domUp .keep) (fun h => h.mbxResetNow))

/-! ## Verbs as rows -/

/-- SHOW (R472). -/
def execMywiShow (ses : Fin 11) (args : List String) (s : State) : Host.Outcome State Fault Refusal := s.on (fun h => h.runVerb ses "show" args)
/-- SHOW_PRONG_CLIENT (Table 23.7). -/
def execMywiShowProngClient (ses : Fin 11) (addr : String) (s : State) : Host.Outcome State Fault Refusal :=
  s.on (fun h => h.runVerb ses "show" ["prong.client", addr])
/-- SET (R473). -/
def execMywiSet (ses : Fin 11) (args : List String) (s : State) : Host.Outcome State Fault Refusal := s.on (fun h => h.runVerb ses "set" args)
/-- CLEAR (R474). -/
def execMywiClear (ses : Fin 11) (path : String) (s : State) : Host.Outcome State Fault Refusal := s.on (fun h => h.runVerb ses "clear" [path])
/-- CLEAR_ITEM (R474). -/
def execMywiClearItem (ses : Fin 11) (path item : String) (s : State) : Host.Outcome State Fault Refusal :=
  s.on (fun h => h.runVerb ses "clear" [path, item])
/-- LIST (R475). -/
def execMywiList (ses : Fin 11) (args : List String) (s : State) : Host.Outcome State Fault Refusal := s.on (fun h => h.runVerb ses "list" args)
/-- WHICH (R476). -/
def execMywiWhich (ses : Fin 11) (args : List String) (s : State) : Host.Outcome State Fault Refusal := s.on (fun h => h.runVerb ses "which" args)
/-- AUTH (R151): `auth <name>`. -/
def execMywiAuth (ses : Fin 11) (args : List String) (s : State) : Host.Outcome State Fault Refusal := s.on (fun h => h.runVerb ses "auth" args)
/-- AUTH_REPLY (R151). -/
def execMywiAuthReply (ses : Fin 11) (args : List String) (s : State) : Host.Outcome State Fault Refusal :=
  s.on (fun h => h.runVerb ses "auth" ("reply" :: args))
/-- AUTH_LOCAL (R153). -/
def execMywiAuthLocal (ses : Fin 11) (s : State) : Host.Outcome State Fault Refusal := s.on (fun h => h.runVerb ses "auth" ["local"])
/-- AUTH_END (R150). -/
def execMywiAuthEnd (ses : Fin 11) (s : State) : Host.Outcome State Fault Refusal := s.on (fun h => h.runVerb ses "auth" ["end"])
/-- AUTH_ACCOUNT (R478). -/
def execMywiAuthAccount (ses : Fin 11) (args : List String) (s : State) : Host.Outcome State Fault Refusal :=
  s.on (fun h => h.runVerb ses "auth" ("account" :: args))
/-- QUIT (R477). -/
def execMywiQuit (ses : Fin 11) (s : State) : Host.Outcome State Fault Refusal := s.on (fun h => h.runVerb ses "quit" [])
/-- BEGIN (R461). -/
def execTxnBegin (ses : Fin 11) (s : State) : Host.Outcome State Fault Refusal := s.on (fun h => h.runVerb ses "begin" [])
/-- COMMIT (R463). -/
def execTxnCommit (ses : Fin 11) (args : List String) (s : State) : Host.Outcome State Fault Refusal := s.on (fun h => h.runVerb ses "commit" args)
/-- ABORT (R462). -/
def execTxnAbort (ses : Fin 11) (s : State) : Host.Outcome State Fault Refusal := s.on (fun h => h.runVerb ses "abort" [])
/-- SET_SYSTEM_MODE (R39). -/
def execSetSystemMode (ses : Fin 11) (value : String) (s : State) : Host.Outcome State Fault Refusal :=
  s.on (fun h => h.runVerb ses "set" ["system.mode", value])
/-- SET_PORT_MODE (R265). -/
def execSetPortMode (ses : Fin 11) (p : Fin 4) (value : String) (s : State) : Host.Outcome State Fault Refusal :=
  s.on (fun h => h.runVerb ses "set" ["port.p" ++ toString p.val ++ ".mode", value])
/-- RESTART_WARM (R96). -/
def execRestartWarm (ses : Fin 11) (s : State) : Host.Outcome State Fault Refusal := s.on (fun h => h.runVerb ses "restart" ["warm"])
/-- RESTART_COLD (R96). -/
def execRestartCold (ses : Fin 11) (s : State) : Host.Outcome State Fault Refusal := s.on (fun h => h.runVerb ses "restart" ["cold"])
/-- RESTART_COLD_FORCE (R96). -/
def execRestartColdForce (ses : Fin 11) (s : State) : Host.Outcome State Fault Refusal :=
  s.on (fun h => h.runVerb ses "restart" ["cold", "force"])
/-- RESTART_WARDEN (R468). -/
def execRestartWarden (ses : Fin 11) (s : State) : Host.Outcome State Fault Refusal := s.on (fun h => h.runVerb ses "restart" ["warden"])
/-- POWER_OFF (R442). -/
def execPowerOff (ses : Fin 11) (s : State) : Host.Outcome State Fault Refusal := s.on (fun h => h.runVerb ses "power" ["off"])
/-- POWER_OFF_FORCE (R442). -/
def execPowerOffForce (ses : Fin 11) (s : State) : Host.Outcome State Fault Refusal :=
  s.on (fun h => h.runVerb ses "power" ["off", "force"])

/-- A block reset by `reset <block>` of a session, or by its bit of GLOBAL_BLOCK_RST (R97). -/
def State.resetOf (s : State) (ses : Option (Fin 11)) (b : RstBlock) (bit : Nat) : Host.Outcome State Fault Refusal :=
  match ses with
  | some i => s.on (fun h => h.runVerb i "reset" [b.name])
  | none => s.onWrite (fun h => h.busWrite 0x4C (fld bit 1))

/-- BLOCK_RESET_PORT. -/
def execBlockResetPort (ses : Option (Fin 11)) (p : Fin 4) (s : State) : Host.Outcome State Fault Refusal := s.resetOf ses (.port p) p.val
/-- BLOCK_RESET_PRONG_GROUP (R290). -/
def execBlockResetProngGroup (ses : Option (Fin 11)) (g : Fin 4) (s : State) : Host.Outcome State Fault Refusal :=
  s.resetOf ses (.group g) (4 + g.val)
/-- BLOCK_RESET_LAT. -/
def execBlockResetLat (ses : Option (Fin 11)) (n : Fin 4) (s : State) : Host.Outcome State Fault Refusal := s.resetOf ses (.lat n) (8 + n.val)
/-- BLOCK_RESET_DECK. -/
def execBlockResetDeck (ses : Option (Fin 11)) (n : Fin 2) (s : State) : Host.Outcome State Fault Refusal :=
  s.resetOf ses (.deck n) (12 + n.val)
/-- BLOCK_RESET_IBEX (R400). -/
def execBlockResetIbex (ses : Option (Fin 11)) (s : State) : Host.Outcome State Fault Refusal := s.resetOf ses .ibex 14
/-- BLOCK_RESET_DMA. -/
def execBlockResetDma (ses : Option (Fin 11)) (s : State) : Host.Outcome State Fault Refusal := s.resetOf ses .dma 15
/-- BLOCK_RESET_TALLY. -/
def execBlockResetTally (ses : Option (Fin 11)) (s : State) : Host.Outcome State Fault Refusal := s.resetOf ses .tally 16

/-- FLUSH_CLASS (R286): by `flush class`, or by PRONG_CLASS_INVAL. -/
def execFlushClass (ses : Option (Fin 11)) (c : Fin 64) (s : State) : Host.Outcome State Fault Refusal :=
  match ses with
  | some i => s.on (fun h => h.runVerb i "flush" ["class", toString c.val])
  | none => s.onWrite (fun h => h.busWrite 0x800020 (fld 0 c.val ||| fld 31 1))
/-- FLUSH_CLASS_ALL (R286). -/
def execFlushClassAll (ses : Option (Fin 11)) (s : State) : Host.Outcome State Fault Refusal :=
  match ses with
  | some i => s.on (fun h => h.runVerb i "flush" ["class", "all"])
  | none => s.onWrite (fun h => h.busWrite 0x800020 (fld 30 3))

/-- FAULT_CLEAR (R493): by a W1C of NOTE_FAULT, or by the `clear` of a session that names these faults. -/
def execFaultClear (ses : Option (Fin 11)) (mask : BitVec 24) (s : State) : Host.Outcome State Fault Refusal :=
  match ses with
  | some i => s.on (fun h => h.when (h.sesReady i) (fun h =>
      let h := h.updSes i (fun s => { s with lastLine := h.time.up })
      h.finish i "" (if h.role i = 0 then h.no 404 else h.needs i 2 (h.clearFaults mask).yes)))
  | none => s.onWrite (fun h => h.busWrite 0x1100010 (mask.setWidth 32))

/-- SEAL_KEY_GEN (R313). -/
def execSealKeyGen (ses : Fin 11) (args : List String) (s : State) : Host.Outcome State Fault Refusal :=
  s.on (fun h => h.runVerb ses "seal" ("key" :: "gen" :: args))
/-- SEAL_KEY_USE (R313). -/
def execSealKeyUse (ses : Fin 11) (args : List String) (s : State) : Host.Outcome State Fault Refusal :=
  s.on (fun h => h.runVerb ses "seal" ("key" :: "use" :: args))
/-- SEAL_KEY_RETIRE (R313). -/
def execSealKeyRetire (ses : Fin 11) (args : List String) (s : State) : Host.Outcome State Fault Refusal :=
  s.on (fun h => h.runVerb ses "seal" ("key" :: "retire" :: args))
/-- SEAL_KEY_ERASE (R313). -/
def execSealKeyErase (ses : Fin 11) (args : List String) (s : State) : Host.Outcome State Fault Refusal :=
  s.on (fun h => h.runVerb ses "seal" ("key" :: "erase" :: args))
/-- JOURNAL_RELEASE (R322). -/
def execJournalRelease (ses : Fin 11) (args : List String) (s : State) : Host.Outcome State Fault Refusal :=
  s.on (fun h => h.runVerb ses "journal" ("release" :: args))

/-- IMAGE_WRITE_STORE (R130). -/
def execImageWriteStore (ses : Fin 11) (args : List String) (s : State) : Host.Outcome State Fault Refusal :=
  s.on (fun h => h.runVerb ses "image" ("write" :: "store" :: args))
/-- IMAGE_WRITE_BEGIN (R479). -/
def execImageWriteBegin (ses : Fin 11) (args : List String) (s : State) : Host.Outcome State Fault Refusal :=
  s.on (fun h => h.runVerb ses "image" ("write" :: "begin" :: args))
/-- IMAGE_CHUNK (R479). -/
def execImageChunk (ses : Fin 11) (args : List String) (s : State) : Host.Outcome State Fault Refusal :=
  s.on (fun h => h.runVerb ses "image" ("chunk" :: args))
/-- IMAGE_WRITE_END (R479). -/
def execImageWriteEnd (ses : Fin 11) (s : State) : Host.Outcome State Fault Refusal := s.on (fun h => h.runVerb ses "image" ["write", "end"])
/-- IMAGE_ACTIVATE (R131). -/
def execImageActivate (ses : Fin 11) (args : List String) (s : State) : Host.Outcome State Fault Refusal :=
  s.on (fun h => h.runVerb ses "image" ("activate" :: args))
/-- IMAGE_OWNER_ENROLL (R120). -/
def execImageOwnerEnroll (ses : Fin 11) (args : List String) (s : State) : Host.Outcome State Fault Refusal :=
  s.on (fun h => h.runVerb ses "image" ("owner" :: "enroll" :: args))
/-- IMAGE_OWNER_REVOKE (R120). -/
def execImageOwnerRevoke (ses : Fin 11) (args : List String) (s : State) : Host.Outcome State Fault Refusal :=
  s.on (fun h => h.runVerb ses "image" ("owner" :: "revoke" :: args))
/-- IMAGE_ROLLBACK_COMMIT (R121). -/
def execImageRollbackCommit (ses : Fin 11) (s : State) : Host.Outcome State Fault Refusal :=
  s.on (fun h => h.runVerb ses "image" ["rollback", "commit"])

end Sys2Proof.Machine
end

