-- ==== Sys2Proof/Machine/Dispatch.lean ====
section
/-! DEFINITION. What each command does: one arm per constructor, each a call of its meaning. -/

namespace Sys2Proof.Machine

def exec (i : Instr) (s : State) : Host.Outcome State Fault Refusal :=
  match i with
  | .registerWrite off v => Sys2Proof.Machine.execRegisterWrite off v s
  | .wideValueLowRead off => Sys2Proof.Machine.execWideValueLowRead off s
  | .wideValueHighWrite off v => Sys2Proof.Machine.execWideValueHighWrite off v s
  | .axisNowRead sub => Sys2Proof.Machine.execAxisNowRead sub s
  | .bar2Write addr data errs => Sys2Proof.Machine.execBar2Write addr data errs s
  | .bar2Read addr n errs => Sys2Proof.Machine.execBar2Read addr n errs s
  | .trustTick => Sys2Proof.Machine.execTrustTick s
  | .leapTakesEffect => Sys2Proof.Machine.execLeapTakesEffect s
  | .smearWindowStart => Sys2Proof.Machine.execSmearWindowStart s
  | .mywiShow ses args => Sys2Proof.Machine.execMywiShow ses args s
  | .mywiShowProngClient ses addr => Sys2Proof.Machine.execMywiShowProngClient ses addr s
  | .mywiSet ses args => Sys2Proof.Machine.execMywiSet ses args s
  | .mywiClear ses path => Sys2Proof.Machine.execMywiClear ses path s
  | .mywiClearItem ses path item => Sys2Proof.Machine.execMywiClearItem ses path item s
  | .mywiList ses args => Sys2Proof.Machine.execMywiList ses args s
  | .mywiWhich ses args => Sys2Proof.Machine.execMywiWhich ses args s
  | .setSystemMode ses value => Sys2Proof.Machine.execSetSystemMode ses value s
  | .restartWarm ses => Sys2Proof.Machine.execRestartWarm ses s
  | .restartCold ses => Sys2Proof.Machine.execRestartCold ses s
  | .restartColdForce ses => Sys2Proof.Machine.execRestartColdForce ses s
  | .restartWarden ses => Sys2Proof.Machine.execRestartWarden ses s
  | .wardenRestart => Sys2Proof.Machine.execWardenRestart s
  | .sealPendingDrained => Sys2Proof.Machine.execSealPendingDrained s
  | .restartBlocksConfigured => Sys2Proof.Machine.execRestartBlocksConfigured s
  | .signingResumes => Sys2Proof.Machine.execSigningResumes s
  | .wavefrontWrap n diff => Sys2Proof.Machine.execWavefrontWrap n diff s
  | .echoCalibration n meas => Sys2Proof.Machine.execEchoCalibration n meas s
  | .powerOn mv => Sys2Proof.Machine.execPowerOn mv s
  | .xo32Absent => Sys2Proof.Machine.execXo32Absent s
  | .aonLow mv => Sys2Proof.Machine.execAonLow mv s
  | .railFail r => Sys2Proof.Machine.execRailFail r s
  | .coldReset => Sys2Proof.Machine.execColdReset s
  | .bootStart sfdp osc => Sys2Proof.Machine.execBootStart sfdp osc s
  | .pmbusScan found stuck => Sys2Proof.Machine.execPmbusScan found stuck s
  | .blockRelease => Sys2Proof.Machine.execBlockRelease s
  | .bootDone us => Sys2Proof.Machine.execBootDone us s
  | .oscAbsent => Sys2Proof.Machine.execOscAbsent s
  | .oscInAppears => Sys2Proof.Machine.execOscInAppears s
  | .pciePerst level => Sys2Proof.Machine.execPciePerst level s
  | .pcieConfigWrite busMaster msixEn msixMask d3hot => Sys2Proof.Machine.execPcieConfigWrite busMaster msixEn msixMask d3hot s
  | .blockResetPort ses p => Sys2Proof.Machine.execBlockResetPort ses p s
  | .blockResetProngGroup ses g => Sys2Proof.Machine.execBlockResetProngGroup ses g s
  | .blockResetLat ses n => Sys2Proof.Machine.execBlockResetLat ses n s
  | .blockResetDeck ses n => Sys2Proof.Machine.execBlockResetDeck ses n s
  | .blockResetIbex ses => Sys2Proof.Machine.execBlockResetIbex ses s
  | .blockResetDma ses => Sys2Proof.Machine.execBlockResetDma ses s
  | .blockResetTally ses => Sys2Proof.Machine.execBlockResetTally ses s
  | .blockResetDone k => Sys2Proof.Machine.execBlockResetDone k s
  | .imageWriteStore ses args => Sys2Proof.Machine.execImageWriteStore ses args s
  | .imageWriteBegin ses args => Sys2Proof.Machine.execImageWriteBegin ses args s
  | .imageChunk ses args => Sys2Proof.Machine.execImageChunk ses args s
  | .imageWriteEnd ses => Sys2Proof.Machine.execImageWriteEnd ses s
  | .imageWriteDone flashOk => Sys2Proof.Machine.execImageWriteDone flashOk s
  | .imageActivate ses args => Sys2Proof.Machine.execImageActivate ses args s
  | .imageOwnerEnroll ses args => Sys2Proof.Machine.execImageOwnerEnroll ses args s
  | .imageOwnerRevoke ses args => Sys2Proof.Machine.execImageOwnerRevoke ses args s
  | .imageRollbackCommit ses => Sys2Proof.Machine.execImageRollbackCommit ses s
  | .mywiLine ses => Sys2Proof.Machine.execMywiLine ses s
  | .sessionStart ses => Sys2Proof.Machine.execSessionStart ses s
  | .mywiAuth ses args => Sys2Proof.Machine.execMywiAuth ses args s
  | .mywiAuthReply ses args => Sys2Proof.Machine.execMywiAuthReply ses args s
  | .authLockExpiry t => Sys2Proof.Machine.execAuthLockExpiry t s
  | .mywiAuthLocal ses => Sys2Proof.Machine.execMywiAuthLocal ses s
  | .mywiAuthEnd ses => Sys2Proof.Machine.execMywiAuthEnd ses s
  | .mywiAuthAccount ses args => Sys2Proof.Machine.execMywiAuthAccount ses args s
  | .mywiQuit ses => Sys2Proof.Machine.execMywiQuit ses s
  | .mywiIdle ses => Sys2Proof.Machine.execMywiIdle ses s
  | .con0Break => Sys2Proof.Machine.execCon0Break s
  | .hspiWrite data => Sys2Proof.Machine.execHspiWrite data s
  | .hspiRead n => Sys2Proof.Machine.execHspiRead n s
  | .hspiStatus => Sys2Proof.Machine.execHspiStatus s
  | .mbxInProdWrite v => Sys2Proof.Machine.execMbxInProdWrite v s
  | .mbxReset => Sys2Proof.Machine.execMbxReset s
  | .mgmtConnect ok => Sys2Proof.Machine.execMgmtConnect ok s
  | .mgmtOutputBlocked ses => Sys2Proof.Machine.execMgmtOutputBlocked ses s
  | .gnssPpsEdge k sub => Sys2Proof.Machine.execGnssPpsEdge k sub s
  | .nmeaSentence k text => Sys2Proof.Machine.execNmeaSentence k text s
  | .atomEdge k ev => Sys2Proof.Machine.execAtomEdge k ev s
  | .esmcPdu p ssm ext => Sys2Proof.Machine.execEsmcPdu p ssm ext s
  | .ptpClientMessage p m => Sys2Proof.Machine.execPtpClientMessage p m s
  | .refDown k => Sys2Proof.Machine.execRefDown k s
  | .holdOffExpiry k => Sys2Proof.Machine.execHoldOffExpiry k s
  | .waitToRestoreExpiry k => Sys2Proof.Machine.execWaitToRestoreExpiry k s
  | .crossCheck synce => Sys2Proof.Machine.execCrossCheck synce s
  | .loopUpdate fdiff => Sys2Proof.Machine.execLoopUpdate fdiff s
  | .acquisitionStep => Sys2Proof.Machine.execAcquisitionStep s
  | .slewComplete => Sys2Proof.Machine.execSlewComplete s
  | .tangentSample => Sys2Proof.Machine.execTangentSample s
  | .holdoverPredict => Sys2Proof.Machine.execHoldoverPredict s
  | .tempRead die pmb => Sys2Proof.Machine.execTempRead die pmb s
  | .oscLost => Sys2Proof.Machine.execOscLost s
  | .oscReturn => Sys2Proof.Machine.execOscReturn s
  | .pulseInstant n => Sys2Proof.Machine.execPulseInstant n s
  | .skewCalibration o pad => Sys2Proof.Machine.execSkewCalibration o pad s
  | .alignEdge n sub => Sys2Proof.Machine.execAlignEdge n sub s
  | .alignHold n => Sys2Proof.Machine.execAlignHold n s
  | .irigbFrameBuild => Sys2Proof.Machine.execIrigbFrameBuild s
  | .caliperEdge c falling sub => Sys2Proof.Machine.execCaliperEdge c falling sub s
  | .calPop0Read c => Sys2Proof.Machine.execCalPop0Read c s
  | .intervalPair c => Sys2Proof.Machine.execIntervalPair c s
  | .intervalTimeout c => Sys2Proof.Machine.execIntervalTimeout c s
  | .gateStart c => Sys2Proof.Machine.execGateStart c s
  | .gateEnd c => Sys2Proof.Machine.execGateEnd c s
  | .codeDensityTable c hits => Sys2Proof.Machine.execCodeDensityTable c hits s
  | .cdSlow c => Sys2Proof.Machine.execCdSlow c s
  | .calDll k => Sys2Proof.Machine.execCalDll k s
  | .calCdSelWrite line => Sys2Proof.Machine.execCalCdSelWrite line s
  | .pcsMarker p k tx diff => Sys2Proof.Machine.execPcsMarker p k tx diff s
  | .tsReady l => Sys2Proof.Machine.execTsReady l s
  | .portRefine p k => Sys2Proof.Machine.execPortRefine p k s
  | .signalDetect p k => Sys2Proof.Machine.execSignalDetect p k s
  | .linkUp p k skew phase => Sys2Proof.Machine.execLinkUp p k skew phase s
  | .linkDown p k => Sys2Proof.Machine.execLinkDown p k s
  | .linkRetry p k => Sys2Proof.Machine.execLinkRetry p k s
  | .setPortMode ses p value => Sys2Proof.Machine.execSetPortMode ses p value s
  | .portMode p => Sys2Proof.Machine.execPortMode p s
  | .preemptVerify p ok => Sys2Proof.Machine.execPreemptVerify p ok s
  | .frameReceive l frame sub fecOk fcsOk => Sys2Proof.Machine.execFrameReceive l frame sub fecOk fcsOk s
  | .launchRelease l early => Sys2Proof.Machine.execLaunchRelease l early s
  | .ptpSyncSend l dst sub => Sys2Proof.Machine.execPtpSyncSend l dst sub s
  | .ptpAnnounceSend l dst sub => Sys2Proof.Machine.execPtpAnnounceSend l dst sub s
  | .esmcInformationPdu p => Sys2Proof.Machine.execEsmcInformationPdu p s
  | .ntpRequest l r => Sys2Proof.Machine.execNtpRequest l r s
  | .ntsRequest l r n => Sys2Proof.Machine.execNtsRequest l r n s
  | .delayReq l r => Sys2Proof.Machine.execDelayReq l r s
  | .pdelayReq l r => Sys2Proof.Machine.execPdelayReq l r s
  | .requestUnicastTransmission l a kind period dur => Sys2Proof.Machine.execRequestUnicastTransmission l a kind period dur s
  | .cancelUnicastTransmission l a kind => Sys2Proof.Machine.execCancelUnicastTransmission l a kind s
  | .grantExpiry => Sys2Proof.Machine.execGrantExpiry s
  | .ntsKeConnection l a => Sys2Proof.Machine.execNtsKeConnection l a s
  | .clientTableSweep bucket => Sys2Proof.Machine.execClientTableSweep bucket s
  | .cacheEviction q => Sys2Proof.Machine.execCacheEviction q s
  | .flushClass ses c => Sys2Proof.Machine.execFlushClass ses c s
  | .flushClassAll ses => Sys2Proof.Machine.execFlushClassAll ses s
  | .prongHashGo af => Sys2Proof.Machine.execProngHashGo af s
  | .ntsKeyRotation => Sys2Proof.Machine.execNtsKeyRotation s
  | .ntsKeyErase => Sys2Proof.Machine.execNtsKeyErase s
  | .policyBankSwitch => Sys2Proof.Machine.execPolicyBankSwitch s
  | .groupReturn g => Sys2Proof.Machine.execGroupReturn g s
  | .crpRequest l a udp f sub => Sys2Proof.Machine.execCrpRequest l a udp f sub s
  | .sealQProdWrite q v => Sys2Proof.Machine.execSealQProdWrite q v s
  | .sealAdmission sub => Sys2Proof.Machine.execSealAdmission sub s
  | .signatureComplete => Sys2Proof.Machine.execSignatureComplete s
  | .sealKeyGen ses args => Sys2Proof.Machine.execSealKeyGen ses args s
  | .sealKeyUse ses args => Sys2Proof.Machine.execSealKeyUse ses args s
  | .sealKeyRetire ses args => Sys2Proof.Machine.execSealKeyRetire ses args s
  | .sealKeyErase ses args => Sys2Proof.Machine.execSealKeyErase ses args s
  | .journalRelease ses args => Sys2Proof.Machine.execJournalRelease ses args s
  | .sealJrnAckWrite hi => Sys2Proof.Machine.execSealJrnAckWrite hi s
  | .latHelloSend n => Sys2Proof.Machine.execLatHelloSend n s
  | .latAnnounceSend n => Sys2Proof.Machine.execLatAnnounceSend n s
  | .latExchangeSend n late => Sys2Proof.Machine.execLatExchangeSend n late s
  | .latHelloReceived n f fcsOk => Sys2Proof.Machine.execLatHelloReceived n f fcsOk s
  | .latAnnounceReceived n f fcsOk => Sys2Proof.Machine.execLatAnnounceReceived n f fcsOk s
  | .latExchangeReceived n f fcsOk sub => Sys2Proof.Machine.execLatExchangeReceived n f fcsOk sub s
  | .latLeaveReceived n f fcsOk => Sys2Proof.Machine.execLatLeaveReceived n f fcsOk s
  | .helloMiss n => Sys2Proof.Machine.execHelloMiss n s
  | .linkReady n refine => Sys2Proof.Machine.execLinkReady n refine s
  | .rootElection => Sys2Proof.Machine.execRootElection s
  | .mergeTest n => Sys2Proof.Machine.execMergeTest n s
  | .registryRefresh => Sys2Proof.Machine.execRegistryRefresh s
  | .rosterExpiry => Sys2Proof.Machine.execRosterExpiry s
  | .superframeStart n e => Sys2Proof.Machine.execSuperframeStart n e s
  | .beaconReceived n f rate sub => Sys2Proof.Machine.execBeaconReceived n f rate sub s
  | .beaconMissing n => Sys2Proof.Machine.execBeaconMissing n s
  | .slotSend n echoes => Sys2Proof.Machine.execSlotSend n echoes s
  | .openFieldSend n e => Sys2Proof.Machine.execOpenFieldSend n e s
  | .join n f => Sys2Proof.Machine.execJoin n f s
  | .joinAck n f => Sys2Proof.Machine.execJoinAck n f s
  | .deckStatus n f sub => Sys2Proof.Machine.execDeckStatus n f sub s
  | .deckLeave n f => Sys2Proof.Machine.execDeckLeave n f s
  | .deckData n f sub => Sys2Proof.Machine.execDeckData n f sub s
  | .sealReq n f sub => Sys2Proof.Machine.execSealReq n f sub s
  | .sealResp n e => Sys2Proof.Machine.execSealResp n e s
  | .memberDrop n a => Sys2Proof.Machine.execMemberDrop n a s
  | .quarantineExpiry n => Sys2Proof.Machine.execQuarantineExpiry n s
  | .rateDownshift n => Sys2Proof.Machine.execRateDownshift n s
  | .deckCoordDup n => Sys2Proof.Machine.execDeckCoordDup n s
  | .coordResume n => Sys2Proof.Machine.execCoordResume n s
  | .deckTxProdWrite n v => Sys2Proof.Machine.execDeckTxProdWrite n v s
  | .deckSearchExpiry n => Sys2Proof.Machine.execDeckSearchExpiry n s
  | .br n pins sub => Sys2Proof.Machine.execBr n pins sub s
  | .await n pins sub edge => Sys2Proof.Machine.execAwait n pins sub edge s
  | .shin n pins sub => Sys2Proof.Machine.execShin n pins sub s
  | .shout n pins sub => Sys2Proof.Machine.execShout n pins sub s
  | .fetch n pins sub => Sys2Proof.Machine.execFetch n pins sub s
  | .post n pins sub => Sys2Proof.Machine.execPost n pins sub s
  | .copy n pins sub => Sys2Proof.Machine.execCopy n pins sub s
  | .load n pins sub => Sys2Proof.Machine.execLoad n pins sub s
  | .mark n pins sub => Sys2Proof.Machine.execMark n pins sub s
  | .ibexInject n v => Sys2Proof.Machine.execIbexInject n v s
  | .ibexTxfWrite n v => Sys2Proof.Machine.execIbexTxfWrite n v s
  | .ibexRxfRead n => Sys2Proof.Machine.execIbexRxfRead n s
  | .ibexRestart n => Sys2Proof.Machine.execIbexRestart n s
  | .ibexFlush n => Sys2Proof.Machine.execIbexFlush n s
  | .ibexCfgWrite u k v => Sys2Proof.Machine.execIbexCfgWrite u k v s
  | .ibexStoreWrite a v => Sys2Proof.Machine.execIbexStoreWrite a v s
  | .kidMatch k b sub => Sys2Proof.Machine.execKidMatch k b sub s
  | .kidMaskHiWrite k v => Sys2Proof.Machine.execKidMaskHiWrite k v s
  | .kidLoadWrite k v => Sys2Proof.Machine.execKidLoadWrite k v s
  | .kidCap0Read k => Sys2Proof.Machine.execKidCap0Read k s
  | .dmaStart n ctrl => Sys2Proof.Machine.execDmaStart n ctrl s
  | .dmaAbort n => Sys2Proof.Machine.execDmaAbort n s
  | .dmaPause n => Sys2Proof.Machine.execDmaPause n s
  | .dmaResume n => Sys2Proof.Machine.execDmaResume n s
  | .dmaBurst => Sys2Proof.Machine.execDmaBurst s
  | .dmaPassEnd n => Sys2Proof.Machine.execDmaPassEnd n s
  | .dmaRingHostWrite n v => Sys2Proof.Machine.execDmaRingHostWrite n v s
  | .eventArrival k => Sys2Proof.Machine.execEventArrival k s
  | .evtSoftWrite v => Sys2Proof.Machine.execEvtSoftWrite v s
  | .evtTaskClear t => Sys2Proof.Machine.execEvtTaskClear t s
  | .sleepEntry => Sys2Proof.Machine.execSleepEntry s
  | .powerOff ses => Sys2Proof.Machine.execPowerOff ses s
  | .powerOffForce ses => Sys2Proof.Machine.execPowerOffForce ses s
  | .domainDrop d => Sys2Proof.Machine.execDomainDrop d s
  | .regulatorAck => Sys2Proof.Machine.execRegulatorAck s
  | .pmbAck bus => Sys2Proof.Machine.execPmbAck bus s
  | .wake cause => Sys2Proof.Machine.execWake cause s
  | .domainRelease d pg => Sys2Proof.Machine.execDomainRelease d pg s
  | .grazeStep k temp keepErr fx refSeen cmpHit => Sys2Proof.Machine.execGrazeStep k temp keepErr fx refSeen cmpHit s
  | .aonTimer => Sys2Proof.Machine.execAonTimer s
  | .wakeN low => Sys2Proof.Machine.execWakeN low s
  | .wakePortMatch read => Sys2Proof.Machine.execWakePortMatch read s
  | .wakePortWrite b => Sys2Proof.Machine.execWakePortWrite b s
  | .wakePortRead => Sys2Proof.Machine.execWakePortRead s
  | .decklineCarrier n => Sys2Proof.Machine.execDecklineCarrier n s
  | .tallySnapshot outer => Sys2Proof.Machine.execTallySnapshot outer s
  | .tallyWrap u k w => Sys2Proof.Machine.execTallyWrap u k w s
  | .tallyRingHostWrite v => Sys2Proof.Machine.execTallyRingHostWrite v s
  | .txnBegin ses => Sys2Proof.Machine.execTxnBegin ses s
  | .txnCommit ses args => Sys2Proof.Machine.execTxnCommit ses args s
  | .txnAbort ses => Sys2Proof.Machine.execTxnAbort ses s
  | .txnEpoch => Sys2Proof.Machine.execTxnEpoch s
  | .classBItemApply => Sys2Proof.Machine.execClassBItemApply s
  | .faultClear ses mask => Sys2Proof.Machine.execFaultClear ses mask s
  | .dieTempSample t => Sys2Proof.Machine.execDieTempSample t s
  | .vddAonFallBelowVBor => Sys2Proof.Machine.execVddAonFallBelowVBor s
  | .rcFieldRead off => Sys2Proof.Machine.execRcFieldRead off s
  | .pcieLinkChange up => Sys2Proof.Machine.execPcieLinkChange up s
  | .con0CharacterReceived b framed => Sys2Proof.Machine.execCon0CharacterReceived b framed s
  | .outputBufferDrain ses n => Sys2Proof.Machine.execOutputBufferDrain ses n s
  | .mgmtConnectionDrop ses => Sys2Proof.Machine.execMgmtConnectionDrop ses s
  | .loopOffsetsMissing => Sys2Proof.Machine.execLoopOffsetsMissing s
  | .clkoutRisingEdge n => Sys2Proof.Machine.execClkoutRisingEdge n s
  | .dllRelock k => Sys2Proof.Machine.execDllRelock k s
  | .latBlockLock n lock phase => Sys2Proof.Machine.execLatBlockLock n lock phase s
  | .laneSample k b => Sys2Proof.Machine.execLaneSample k b s
  | .voltageRequestRetry ok => Sys2Proof.Machine.execVoltageRequestRetry ok s
  | .keeperCalibration fx => Sys2Proof.Machine.execKeeperCalibration fx s
  | .aonLowRearm mv => Sys2Proof.Machine.execAonLowRearm mv s

end Sys2Proof.Machine
end

