-- ==== Sys2Proof/WellFormed.lean ====
section
/-!
DEFINITION. Which commands are well formed: those whose operands the spec gives a meaning. An access lies inside its BAR
(chapter 0; Table 3.4), an HSPI transaction carries 1 to 1,024 bytes (Table 7.6), an SSM code has four bits (R171), a verb has
the number of arguments of a form of Table 23.1.
-/
set_option autoImplicit false

namespace Sys2Proof

/-- The size of BAR0: 64 MiB. -/
def bar0Bytes : Nat := 0x4000000

/-- The size of BAR2, the Store aperture: 8 GiB (Table 3.4). -/
def storeBytes : Nat := 0x200000000

/-- A command that is well formed. -/
def Instr.wf : Instr → Bool
  | .registerWrite off _ => decide (off < bar0Bytes)
  | .wideValueHighWrite off _ => decide (off < bar0Bytes)
  | .wideValueLowRead off => decide (off < bar0Bytes)
  | .rcFieldRead off => decide (off < bar0Bytes)
  | .bar2Write addr data _ => decide (addr + data.length ≤ storeBytes)
  | .bar2Read addr n _ => decide (addr + n ≤ storeBytes)
  | .hspiWrite data => decide (1 ≤ data.length ∧ data.length ≤ 1024)
  | .hspiRead n => decide (1 ≤ n ∧ n ≤ 1024)
  | .esmcPdu _ ssm _ => decide (ssm < 16)
  | .mywiShow _ args => decide (args.length ≤ 2)
  | .mywiSet _ args => decide (args.length = 2)
  | .mywiList _ args => decide (args.length ≤ 1)
  | .mywiWhich _ args => decide (args.length = 1)
  | .txnCommit _ args => decide (args.length = 0 ∨ args.length = 2)
  | .axisNowRead .. | .trustTick .. | .leapTakesEffect .. | .smearWindowStart .. | .gnssPpsEdge .. | .nmeaSentence .. => true
  | .atomEdge .. | .ptpClientMessage .. | .refDown .. | .holdOffExpiry .. | .waitToRestoreExpiry .. | .crossCheck .. => true
  | .loopUpdate .. | .acquisitionStep .. | .slewComplete .. | .tangentSample .. | .holdoverPredict .. | .tempRead .. => true
  | .oscLost .. | .oscReturn .. | .loopOffsetsMissing .. | .wavefrontWrap .. | .echoCalibration .. | .signalDetect .. => true
  | .linkUp .. | .linkDown .. | .linkRetry .. | .tsReady .. | .pcsMarker .. | .portRefine .. => true
  | .preemptVerify .. | .portMode .. | .esmcInformationPdu .. | .frameReceive .. | .ntpRequest .. | .ntsRequest .. => true
  | .delayReq .. | .pdelayReq .. | .ptpSyncSend .. | .ptpAnnounceSend .. | .requestUnicastTransmission .. | .cancelUnicastTransmission .. => true
  | .grantExpiry .. | .ntsKeConnection .. | .launchRelease .. | .clientTableSweep .. | .cacheEviction .. | .prongHashGo .. => true
  | .ntsKeyRotation .. | .ntsKeyErase .. | .policyBankSwitch .. | .groupReturn .. | .caliperEdge .. | .calPop0Read .. => true
  | .intervalPair .. | .intervalTimeout .. | .gateStart .. | .gateEnd .. | .codeDensityTable .. | .cdSlow .. => true
  | .calDll .. | .dllRelock .. | .calCdSelWrite .. | .pulseInstant .. | .skewCalibration .. | .alignEdge .. => true
  | .alignHold .. | .irigbFrameBuild .. | .clkoutRisingEdge .. | .crpRequest .. | .sealQProdWrite .. | .sealAdmission .. => true
  | .signatureComplete .. | .sealJrnAckWrite .. | .latHelloSend .. | .latAnnounceSend .. | .latExchangeSend .. | .latHelloReceived .. => true
  | .latAnnounceReceived .. | .latExchangeReceived .. | .latLeaveReceived .. | .helloMiss .. | .linkReady .. | .rootElection .. => true
  | .mergeTest .. | .registryRefresh .. | .rosterExpiry .. | .latBlockLock .. | .superframeStart .. | .beaconReceived .. => true
  | .beaconMissing .. | .slotSend .. | .openFieldSend .. | .join .. | .joinAck .. | .deckStatus .. => true
  | .deckLeave .. | .deckData .. | .sealReq .. | .sealResp .. | .memberDrop .. | .quarantineExpiry .. => true
  | .rateDownshift .. | .deckCoordDup .. | .coordResume .. | .deckTxProdWrite .. | .deckSearchExpiry .. | .br .. => true
  | .await .. | .shin .. | .shout .. | .fetch .. | .post .. | .copy .. => true
  | .load .. | .mark .. | .ibexInject .. | .ibexTxfWrite .. | .ibexRxfRead .. | .ibexRestart .. => true
  | .ibexFlush .. | .ibexCfgWrite .. | .ibexStoreWrite .. | .kidMatch .. | .kidMaskHiWrite .. | .kidLoadWrite .. => true
  | .kidCap0Read .. | .laneSample .. | .dmaStart .. | .dmaAbort .. | .dmaPause .. | .dmaResume .. => true
  | .dmaBurst .. | .dmaPassEnd .. | .dmaRingHostWrite .. | .eventArrival .. | .evtSoftWrite .. | .evtTaskClear .. => true
  | .tallySnapshot .. | .tallyWrap .. | .tallyRingHostWrite .. | .mywiShowProngClient .. | .mywiClear .. | .mywiClearItem .. => true
  | .setSystemMode .. | .restartWarm .. | .restartCold .. | .restartColdForce .. | .restartWarden .. | .wardenRestart .. => true
  | .sealPendingDrained .. | .restartBlocksConfigured .. | .signingResumes .. | .powerOn .. | .xo32Absent .. | .aonLow .. => true
  | .aonLowRearm .. | .vddAonFallBelowVBor .. | .railFail .. | .coldReset .. | .bootStart .. | .pmbusScan .. => true
  | .blockRelease .. | .bootDone .. | .oscAbsent .. | .oscInAppears .. | .pciePerst .. | .pcieConfigWrite .. => true
  | .pcieLinkChange .. | .blockResetPort .. | .blockResetProngGroup .. | .blockResetLat .. | .blockResetDeck .. | .blockResetIbex .. => true
  | .blockResetDma .. | .blockResetTally .. | .blockResetDone .. | .imageWriteStore .. | .imageWriteBegin .. | .imageChunk .. => true
  | .imageWriteEnd .. | .imageWriteDone .. | .imageActivate .. | .imageOwnerEnroll .. | .imageOwnerRevoke .. | .imageRollbackCommit .. => true
  | .mywiLine .. | .sessionStart .. | .mywiAuth .. | .mywiAuthReply .. | .authLockExpiry .. | .mywiAuthLocal .. => true
  | .mywiAuthEnd .. | .mywiAuthAccount .. | .mywiQuit .. | .mywiIdle .. | .con0Break .. | .con0CharacterReceived .. => true
  | .hspiStatus .. | .mbxInProdWrite .. | .mbxReset .. | .mgmtConnect .. | .mgmtOutputBlocked .. | .mgmtConnectionDrop .. => true
  | .outputBufferDrain .. | .setPortMode .. | .flushClass .. | .flushClassAll .. | .sealKeyGen .. | .sealKeyUse .. => true
  | .sealKeyRetire .. | .sealKeyErase .. | .journalRelease .. | .sleepEntry .. | .powerOff .. | .powerOffForce .. => true
  | .domainDrop .. | .regulatorAck .. | .pmbAck .. | .wake .. | .domainRelease .. | .grazeStep .. => true
  | .aonTimer .. | .wakeN .. | .wakePortMatch .. | .wakePortWrite .. | .wakePortRead .. | .decklineCarrier .. => true
  | .voltageRequestRetry .. | .keeperCalibration .. | .txnBegin .. | .txnAbort .. | .txnEpoch .. | .classBItemApply .. => true
  | .faultClear .. | .dieTempSample .. => true

end Sys2Proof
end

