-- ==== Sys2Proof/Safety.lean ====
section
/-!
DEFINITION. What a safe run is, in the terms the statements use: a command that completes, a line that is answered, a queue
whose commands are well formed, and the invariants every step keeps.
-/
set_option autoImplicit false

namespace Sys2Proof.Machine

/-- Command `c` completes on `s`: it answers a next state, leaves the queue as it is, and what it leaves of the hardware
satisfies `p`. -/
def Completes (c : Instr) (s : State) (p : Hw → Prop) : Prop :=
  ∃ t, exec c s = .next t ∧ t.pending = s.pending ∧ p t.hw

/-- Every command that waits is well formed. -/
def QueueOk (s : State) : Prop := ∀ c ∈ s.pending, c.wf = true

/-- The sparse memories are in their canonical form: Store, the Ibex engine's instruction store, and the Keep window. -/
abbrev MemOk (h : Hw) : Prop :=
  Memory.wf h = true ∧ sparseWf (0 : Word) h.ibex.store = true ∧ sparseWf (0 : Word) h.keep = true

/-- The invariant of every reachable state: well-formed commands wait, and the memories are in their canonical form. -/
def Inv (s : State) : Prop := QueueOk s ∧ MemOk s.hw

/-- A step of `s` is safe: it answers a next state. -/
def Safe (s : State) : Prop := ∃ t, step s = .next t

/-- A session takes lines and holds a role of at least `r` (0 none, 1 observer, 2 operator, 3 custodian). -/
abbrev Ready (s : State) (ses : Fin 11) (r : Nat) : Prop := s.hw.sesReady ses = true ∧ r ≤ s.hw.role ses

/-- The engine as a verb of a session sees it: the time of the line is noted (R150). -/
def Hw.lined (h : Hw) (ses : Fin 11) : Hw := h.updSes ses (fun s => { s with lastLine := h.time.up })

/-- A line without a tag has been answered: it is counted, and the body lines, the terminal line and the prompt have gone to
the session's output; the mailbox session's output moves on to its ring. -/
def Answered (h k : Hw) (ses : Fin 11) (body : List String) (code : Nat) : Prop :=
  k.mywi.lines = incSat h.mywi.lines ∧
  (ses ≠ 2 → ∃ rest,
    (k.mywi.sess[ses]).out = ((h.mywi.sess[ses]).answer ses.val "" body (terminal code)).out ++ rest)

/-- A request from `a`, UDP port `udp`, stamped `sub` model units after the tick on logical port `l`, reaches pipeline `q`
(R267): both domains are up, the port is ready, the stamp's island is in order and no warm restart holds requests off. -/
abbrev Reaches (h : Hw) (l q : Fin 16) (sub : Nat) (a : Addr) (udp : Nat) : Prop :=
  h.domUp .port = true ∧ h.domUp .pipe = true ∧ h.pipeOf (h.time.axis + sub) a udp = some q ∧ h.portDrop l = none

/-- A request that pipeline `q` admits on its normal lane for `cost` cycles and within its rate (R268, R271, R282): its class
is not urgent, and demands no NTS when `plain`. -/
abbrev NormalLane (h : Hw) (l q : Fin 16) (sub : Nat) (a : Addr) (cost : Nat) (plain : Bool) : Prop :=
  let rx := h.time.axis + sub
  let e := (h.lookup q rx a).1
  let h1 := (h.lookup q rx a).2
  let c := h1.classOf rx a e
  h1.polN rx .prongClassUrgent c ≠ 1 ∧ (plain = true → h1.polN rx .prongClassNtsRequire c ≠ 1) ∧ h1.inflight q rx < 252 ∧
  h1.admits l q rx cost = true ∧ (h1.rateUpdate (h1.groupOf (some q)) rx a c).1 = .serve

/-- Some booking of logical port `l` came from pipeline `q` and satisfies `p`. -/
def Booked (h : Hw) (l : Fin 16) (p : Booking → Prop) : Prop := ∃ b ∈ (h.lp l).books, p b

/-- A whole Lattice frame of `type` with at least `min_` bytes is heard on link `n` (R326). -/
abbrev LatHeard (h : Hw) (n : Fin 4) (type min_ : Nat) (f : List Byte) : Prop :=
  h.latAlive n = true ∧ beAt f 0 1 = 1 ∧ beAt f 1 1 = type ∧ min_ ≤ f.length

/-- A whole Deckline frame of `type` for this station is heard on segment `n` (R353). -/
abbrev DkHeard (h : Hw) (n : Fin 2) (type : Nat) (f : List Byte) : Prop :=
  h.domUp .deck = true ∧ (h.dk n).role ≠ 0 ∧ dkGood f = true ∧
  (dkDst f = 63 ∨ dkDst f = if (h.dk n).role = 1 then 0 else (h.dk n).addr) ∧ dkType f = type

/-- Channel `n` of the Ibex engine is about to execute instruction `i` at its PC, for the first time (R379). -/
abbrev AtTurn (h : Hw) (n : Fin 32) (i : Herd) : Prop :=
  h.domUp .ibex = true ∧ (h.ibex.ch[n]).en = true ∧ (h.ibex.ch[n]).inj = none ∧ (h.ibex.ch[n]).delay = 0 ∧
  (h.ibex.ch[n]).stalled = false ∧ (h.ibex.ch[n]).start ≤ (h.ibex.ch[n]).pc ∧
  (h.ibex.ch[n]).pc ≤ (h.ibex.ch[n]).wrapTop ∧ herdDecode (h.herdWord (h.ibex.ch[n]).pc) = some i

/-- The PC after an instruction that does not write it (R379). -/
def HerdCh.nextPc (c : HerdCh) : Nat := if c.pc = c.wrapTop then c.wrapBot else (c.pc + 1) % 512

/-- Registers of channel `n` take host writes: the domain is up, and IRIG-B does not reserve the channel (R399). -/
abbrev HostMay (h : Hw) (n : Fin 32) : Prop :=
  h.sys.d3hot = false ∧ h.domUp .ibex = true ∧ (n ≠ 31 ∨ h.irigReserved = false)

/-- The registers of DMA channel `n` take host writes: KEEP is up and IRIG-B does not reserve the channel (R216). -/
abbrev DmaMay (h : Hw) (n : Fin 16) : Prop := h.sys.d3hot = false ∧ h.domUp .keep = true ∧ h.dmaReserved n = false

/-- A pass of channel `n` that moves its whole length, at most one unit, from Store to Store in one burst: both sides lie in
Store, the destination outside the journal, nothing is swapped, and no word is in error. -/
abbrev OneUnit (h : Hw) (n : Fin 16) : Prop :=
  let c := h.dma.ch[n]
  c.ring = 0 ∧ c.pace = 0 ∧ c.swap = 0 ∧ c.srcFix = false ∧ c.dstFix = false ∧ c.done = 0 ∧ 0 < c.wcount ∧
  c.wcount ≤ c.unit ∧ isReg c.wsrc = false ∧ isReg c.wdst = false ∧ c.wsrc + c.wcount ≤ storeSize ∧
  c.wdst + c.wcount ≤ storeSize ∧ (c.wdst + c.wcount ≤ journalBase ∨ journalEnd ≤ c.wdst) ∧ h.domUp .store = true ∧
  h.sys.uceWords = []

/-- The input items of a text. -/
def textItems (t : String) : List InItem := (asciiBytes t).map InItem.byte

/-! ## What a command may write -/

/-- The parts of the hardware, by the unit that holds them. -/
inductive Blk where
  | time
  | sys
  | wave
  | note
  | mywi
  | txn
  | sett
  | ref
  | steer
  | sealU
  | store
  | keep
  | keepSeed
  | evt
  | port
  | prong
  | pwr
  | cal
  | out
  | lat
  | deck
  | ibex
  | dma
  | tally
  | img
deriving DecidableEq, Repr

/-- A part is the same in two states of the hardware. -/
def Hw.same (h k : Hw) : Blk → Prop
  | .time => k.time = h.time
  | .sys => k.sys = h.sys
  | .wave => k.wave = h.wave
  | .note => k.note = h.note
  | .mywi => k.mywi = h.mywi
  | .txn => k.txn = h.txn
  | .sett => k.sett = h.sett
  | .ref => k.ref = h.ref
  | .steer => k.steer = h.steer
  | .sealU => k.sealU = h.sealU
  | .store => k.store = h.store
  | .keep => k.keep = h.keep
  | .keepSeed => k.keepSeed = h.keepSeed
  | .evt => k.evt = h.evt
  | .port => k.port = h.port
  | .prong => k.prong = h.prong
  | .pwr => k.pwr = h.pwr
  | .cal => k.cal = h.cal
  | .out => k.out = h.out
  | .lat => k.lat = h.lat
  | .deck => k.deck = h.deck
  | .ibex => k.ibex = h.ibex
  | .dma => k.dma = h.dma
  | .tally => k.tally = h.tally
  | .img => k.img = h.img

/-- Every part but those of a list. -/
def Blk.but (l : List Blk) : List Blk :=
  [.time, .sys, .wave, .note, .mywi, .txn, .sett, .ref, .steer, .sealU, .store, .keep,
   .keepSeed, .evt, .port, .prong, .pwr, .cal, .out, .lat, .deck, .ibex, .dma, .tally,
   .img].filter (fun b => !l.contains b)

end Sys2Proof.Machine

namespace Sys2Proof
open Sys2Proof.Machine

/-- The parts that a command may write: its own unit, what its effect reaches (a notice that goes out reaches `note` and
`mywi`, a counted signal `tally`, a record of the policy stream `sealU` and `store`), and nothing else. -/
def Instr.writes : Instr → List Blk
  | .smearWindowStart .. => [.time]
  | .aonLowRearm .. => [.sys]
  | .authLockExpiry .. | .con0Break .. | .con0CharacterReceived .. | .hspiWrite .. | .hspiStatus .. => [.mywi]
  | .slewComplete .. | .oscReturn .. => [.steer]
  | .pcsMarker .. | .ptpSyncSend .. | .ptpAnnounceSend .. => [.port]
  | .grantExpiry .. | .cacheEviction .. | .ntsKeyErase .. => [.prong]
  | .keeperCalibration .. => [.pwr]
  | .gateStart .. | .dllRelock .. => [.cal]
  | .rosterExpiry .. => [.lat]
  | .quarantineExpiry .. | .rateDownshift .. | .coordResume .. => [.deck]
  | .laneSample .. => [.ibex]
  | .pciePerst .. | .pcieConfigWrite .. | .pcieLinkChange .. => [.sys, .note]
  | .wake .. | .aonTimer .. | .wakeN .. | .wakePortMatch .. | .wakePortRead .. => [.sys, .pwr]
  | .cdSlow .. => [.note, .cal]
  | .oscAbsent .. => [.note, .mywi]
  | .mywiIdle .. | .mbxReset .. | .mgmtOutputBlocked .. | .mgmtConnectionDrop .. => [.mywi, .txn]
  | .aonLow .. | .pmbusScan .. | .dieTempSample .. => [.sys, .note, .mywi]
  | .decklineCarrier .. => [.sys, .pwr, .deck]
  | .echoCalibration .. => [.wave, .note, .mywi]
  | .gnssPpsEdge .. | .nmeaSentence .. | .atomEdge .. | .esmcPdu .. | .waitToRestoreExpiry .. => [.note, .mywi, .ref]
  | .acquisitionStep .. | .tangentSample .. | .tempRead .. => [.note, .mywi, .steer]
  | .signalDetect .. | .linkRetry .. | .tsReady .. | .portRefine .. | .preemptVerify .. => [.note, .mywi, .port]
  | .portMode .. => [.note, .mywi, .port]
  | .ntsKeyRotation .. | .groupReturn .. => [.note, .mywi, .prong]
  | .codeDensityTable .. | .calDll .. => [.note, .mywi, .cal]
  | .skewCalibration .. | .alignEdge .. | .alignHold .. | .irigbFrameBuild .. | .clkoutRisingEdge .. => [.note, .mywi, .out]
  | .linkReady .. | .mergeTest .. | .registryRefresh .. => [.note, .mywi, .lat]
  | .deckCoordDup .. => [.note, .mywi, .deck]
  | .tallyWrap .. | .mywiShow .. | .mywiShowProngClient .. | .mywiList .. | .mywiWhich .. => [.note, .mywi, .tally]
  | .imageWriteBegin .. | .imageChunk .. | .sessionStart .. | .mywiAuth .. | .hspiRead .. => [.note, .mywi, .tally]
  | .mgmtConnect .. | .outputBufferDrain .. | .txnBegin .. | .txnAbort .. => [.note, .mywi, .tally]
  | .imageWriteDone .. => [.note, .mywi, .img]
  | .wakePortWrite .. => [.note, .mywi, .pwr]
  | .leapTakesEffect .. | .ptpClientMessage .. | .holdOffExpiry .. => [.time, .note, .mywi, .ref]
  | .holdoverPredict .. | .oscLost .. | .loopOffsetsMissing .. => [.time, .note, .mywi, .steer]
  | .tallyRingHostWrite .. | .mbxInProdWrite .. => [.sys, .note, .mywi, .tally]
  | .wavefrontWrap .. => [.wave, .note, .mywi, .tally]
  | .linkUp .. => [.note, .mywi, .ref, .port]
  | .esmcInformationPdu .. | .frameReceive .. | .ntsKeConnection .. => [.note, .mywi, .port, .tally]
  | .policyBankSwitch .. => [.note, .mywi, .sett, .prong]
  | .gateEnd .. => [.note, .mywi, .cal, .tally]
  | .pulseInstant .. => [.note, .mywi, .evt, .out]
  | .latBlockLock .. => [.note, .mywi, .ref, .lat]
  | .beaconMissing .. => [.note, .mywi, .ref, .deck]
  | .join .. | .deckStatus .. => [.note, .mywi, .deck, .tally]
  | .imageWriteStore .. | .imageWriteEnd .. => [.note, .mywi, .tally, .img]
  | .mywiAuthEnd .. | .mywiQuit .. => [.note, .mywi, .txn, .tally]
  | .axisNowRead .. => [.time, .sys, .note, .mywi, .tally]
  | .refDown .. | .crossCheck .. => [.time, .note, .mywi, .ref, .steer]
  | .loopUpdate .. => [.time, .note, .mywi, .steer, .tally]
  | .rootElection .. => [.time, .note, .mywi, .ref, .lat]
  | .xo32Absent .. => [.time, .sys, .note, .mywi, .pwr]
  | .prongHashGo .. | .flushClass .. | .flushClassAll .. => [.sys, .note, .mywi, .prong, .tally]
  | .calPop0Read .. | .calCdSelWrite .. => [.sys, .note, .mywi, .cal, .tally]
  | .sealQProdWrite .. | .sealJrnAckWrite .. => [.sys, .note, .mywi, .sealU, .tally]
  | .ibexInject .. | .ibexTxfWrite .. | .ibexRxfRead .. | .ibexRestart .. | .ibexFlush .. => [.sys, .note, .mywi, .ibex, .tally]
  | .ibexCfgWrite .. | .ibexStoreWrite .. | .kidMaskHiWrite .. | .kidLoadWrite .. | .kidCap0Read .. => [.sys, .note, .mywi, .ibex, .tally]
  | .dmaPause .. | .dmaResume .. | .dmaRingHostWrite .. => [.sys, .note, .mywi, .dma, .tally]
  | .evtSoftWrite .. | .evtTaskClear .. => [.sys, .note, .mywi, .evt, .tally]
  | .bootDone .. | .faultClear .. => [.sys, .note, .mywi, .pwr, .tally]
  | .pmbAck .. => [.sys, .note, .mywi, .sealU, .pwr]
  | .linkDown .. => [.note, .mywi, .ref, .port, .tally]
  | .requestUnicastTransmission .. | .cancelUnicastTransmission .. => [.note, .mywi, .port, .prong, .tally]
  | .caliperEdge .. | .intervalPair .. | .intervalTimeout .. => [.note, .mywi, .evt, .cal, .tally]
  | .latHelloSend .. | .latAnnounceSend .. | .latExchangeSend .. => [.note, .mywi, .port, .lat, .tally]
  | .latHelloReceived .. | .latExchangeReceived .. | .latLeaveReceived .. | .helloMiss .. => [.note, .mywi, .ref, .lat, .tally]
  | .sealResp .. => [.note, .mywi, .sealU, .deck, .tally]
  | .br .. | .await .. | .shin .. | .shout .. | .fetch .. => [.note, .mywi, .evt, .ibex, .tally]
  | .post .. | .copy .. | .load .. | .mark .. | .kidMatch .. => [.note, .mywi, .evt, .ibex, .tally]
  | .mywiAuthReply .. | .mywiAuthLocal .. | .sealKeyGen .. | .sealKeyUse .. | .sealKeyRetire .. => [.note, .mywi, .sealU, .store, .tally]
  | .sealKeyErase .. | .journalRelease .. => [.note, .mywi, .sealU, .store, .tally]
  | .powerOff .. | .powerOffForce .. => [.note, .mywi, .sealU, .pwr, .tally]
  | .latAnnounceReceived .. => [.time, .note, .mywi, .ref, .lat, .tally]
  | .oscInAppears .. => [.time, .sys, .mywi, .txn, .steer, .sealU]
  | .bar2Write .. | .bar2Read .. | .clientTableSweep .. | .tallySnapshot .. | .blockResetTally .. => [.sys, .note, .mywi, .sealU, .store, .tally]
  | .setSystemMode .. | .restartWarm .. => [.sys, .note, .mywi, .txn, .sealU, .tally]
  | .delayReq .. | .pdelayReq .. => [.note, .mywi, .port, .prong, .pwr, .tally]
  | .launchRelease .. => [.note, .mywi, .port, .prong, .lat, .tally]
  | .restartWarden .. | .wardenRestart .. => [.note, .mywi, .txn, .prong, .tally, .img]
  | .imageOwnerEnroll .. | .imageOwnerRevoke .. | .imageRollbackCommit .. => [.note, .mywi, .sealU, .store, .tally, .img]
  | .signingResumes .. => [.time, .sys, .note, .mywi, .sealU, .prong, .tally]
  | .sealPendingDrained .. | .blockResetProngGroup .. => [.sys, .note, .mywi, .sealU, .store, .prong, .tally]
  | .signatureComplete .. => [.sys, .note, .mywi, .sealU, .store, .evt, .port, .tally]
  | .slotSend .. | .openFieldSend .. | .deckData .. | .memberDrop .. | .deckTxProdWrite .. => [.sys, .note, .mywi, .sealU, .store, .evt, .deck, .tally]
  | .deckSearchExpiry .. => [.sys, .note, .mywi, .sealU, .store, .evt, .deck, .tally]
  | .dmaStart .. | .dmaAbort .. | .dmaPassEnd .. | .blockResetDma .. => [.sys, .note, .mywi, .sealU, .store, .evt, .dma, .tally]
  | .blockResetPort .. => [.sys, .note, .mywi, .ref, .sealU, .store, .port, .tally]
  | .blockResetLat .. => [.sys, .note, .mywi, .ref, .sealU, .store, .lat, .tally]
  | .blockResetIbex .. => [.sys, .note, .mywi, .sealU, .store, .evt, .ibex, .tally]
  | .imageActivate .. => [.sys, .note, .mywi, .txn, .sealU, .store, .tally, .img]
  | .ntpRequest .. | .ntsRequest .. =>
    [.sys, .note, .mywi, .sealU, .store, .port, .prong, .pwr, .tally]
  | .crpRequest .. =>
    [.sys, .note, .mywi, .sealU, .store, .evt, .port, .prong, .tally]
  | .sealAdmission .. =>
    [.sys, .note, .mywi, .sealU, .store, .evt, .port, .pwr, .tally]
  | .superframeStart .. | .joinAck .. | .deckLeave .. | .blockResetDeck .. =>
    [.sys, .note, .mywi, .ref, .sealU, .store, .evt, .deck, .tally]
  | .sealReq .. =>
    [.sys, .note, .mywi, .sealU, .store, .evt, .port, .deck, .tally]
  | .beaconReceived .. =>
    [.time, .sys, .note, .mywi, .ref, .sealU, .store, .evt, .deck, .tally]
  | .eventArrival .. =>
    [.sys, .note, .mywi, .sealU, .store, .evt, .pwr, .cal, .dma, .tally]
  | .blockResetDone .. =>
    [.sys, .note, .mywi, .ref, .sealU, .store, .evt, .port, .deck, .ibex, .dma, .tally]
  | .bootStart .. =>
    [.time, .sys, .note, .mywi, .sett, .steer, .sealU, .store, .prong, .pwr, .lat, .tally, .img]
  | .trustTick .. =>
    Blk.but [.sys, .wave, .txn, .sett, .keep, .keepSeed, .cal, .out, .ibex, .dma, .img]
  | .wideValueLowRead .. | .rcFieldRead .. =>
    Blk.but [.wave, .txn, .sett, .steer, .store, .keep, .keepSeed, .evt, .out, .dma, .img]
  | .domainDrop .. =>
    Blk.but [.time, .txn, .sett, .store, .keep, .keepSeed, .evt, .dma, .img]
  | .blockRelease .. => Blk.but [.time, .txn, .sett, .keep, .keepSeed, .lat, .img]
  | .mywiAuthAccount .. => Blk.but [.wave, .keep, .keepSeed, .prong, .ibex, .img]
  | .mywiSet .. | .mywiClear .. | .mywiClearItem .. | .setPortMode .. | .txnCommit .. => Blk.but [.wave, .keep, .keepSeed, .img]
  | .txnEpoch .. | .classBItemApply .. => Blk.but [.wave, .keep, .keepSeed, .img]
  | .dmaBurst .. | .registerWrite .. | .wideValueHighWrite .. => Blk.but [.wave, .keepSeed, .img]
  | .restartBlocksConfigured .. => Blk.but [.keep, .keepSeed]
  | .restartCold .. | .restartColdForce .. | .powerOn .. | .vddAonFallBelowVBor .. | .railFail .. => Blk.but []
  | .coldReset .. | .mywiLine .. | .sleepEntry .. | .regulatorAck .. | .domainRelease .. => Blk.but []
  | .grazeStep .. | .voltageRequestRetry .. => Blk.but []

/-- The session, the verb and the arguments of a row that is a line of one verb. -/
def Instr.verbOf : Instr → Option (Fin 11 × String × List String)
  | .mywiShow ses a => some (ses, "show", a)
  | .mywiShowProngClient ses x => some (ses, "show", ["prong.client", x])
  | .mywiSet ses a => some (ses, "set", a)
  | .mywiClear ses p => some (ses, "clear", [p])
  | .mywiClearItem ses p x => some (ses, "clear", [p, x])
  | .mywiList ses a => some (ses, "list", a)
  | .mywiWhich ses a => some (ses, "which", a)
  | .setSystemMode ses value => some (ses, "set", ["system.mode", value])
  | .restartWarm ses => some (ses, "restart", ["warm"])
  | .restartCold ses => some (ses, "restart", ["cold"])
  | .restartColdForce ses => some (ses, "restart", ["cold", "force"])
  | .restartWarden ses => some (ses, "restart", ["warden"])
  | .imageWriteStore ses args => some (ses, "image", "write" :: "store" :: args)
  | .imageWriteBegin ses args => some (ses, "image", "write" :: "begin" :: args)
  | .imageChunk ses args => some (ses, "image", "chunk" :: args)
  | .imageWriteEnd ses => some (ses, "image", ["write", "end"])
  | .imageActivate ses args => some (ses, "image", "activate" :: args)
  | .imageOwnerEnroll ses args => some (ses, "image", "owner" :: "enroll" :: args)
  | .imageOwnerRevoke ses args => some (ses, "image", "owner" :: "revoke" :: args)
  | .imageRollbackCommit ses => some (ses, "image", ["rollback", "commit"])
  | .mywiAuth ses a => some (ses, "auth", a)
  | .mywiAuthReply ses a => some (ses, "auth", "reply" :: a)
  | .mywiAuthLocal ses => some (ses, "auth", ["local"])
  | .mywiAuthEnd ses => some (ses, "auth", ["end"])
  | .mywiAuthAccount ses a => some (ses, "auth", "account" :: a)
  | .mywiQuit ses => some (ses, "quit", [])
  | .setPortMode ses p value => some (ses, "set", ["port.p" ++ toString p.val ++ ".mode", value])
  | .sealKeyGen ses args => some (ses, "seal", "key" :: "gen" :: args)
  | .sealKeyUse ses args => some (ses, "seal", "key" :: "use" :: args)
  | .sealKeyRetire ses args => some (ses, "seal", "key" :: "retire" :: args)
  | .sealKeyErase ses args => some (ses, "seal", "key" :: "erase" :: args)
  | .journalRelease ses args => some (ses, "journal", "release" :: args)
  | .powerOff ses => some (ses, "power", ["off"])
  | .powerOffForce ses => some (ses, "power", ["off", "force"])
  | .txnBegin ses => some (ses, "begin", [])
  | .txnCommit ses a => some (ses, "commit", a)
  | .txnAbort ses => some (ses, "abort", [])
  | .axisNowRead .. | .trustTick .. | .leapTakesEffect .. | .smearWindowStart .. | .gnssPpsEdge .. | .nmeaSentence .. => none
  | .atomEdge .. | .esmcPdu .. | .ptpClientMessage .. | .refDown .. | .holdOffExpiry .. | .waitToRestoreExpiry .. => none
  | .crossCheck .. | .loopUpdate .. | .acquisitionStep .. | .slewComplete .. | .tangentSample .. | .holdoverPredict .. => none
  | .tempRead .. | .oscLost .. | .oscReturn .. | .loopOffsetsMissing .. | .wavefrontWrap .. | .echoCalibration .. => none
  | .bar2Write .. | .bar2Read .. | .signalDetect .. | .linkUp .. | .linkDown .. | .linkRetry .. => none
  | .tsReady .. | .pcsMarker .. | .portRefine .. | .preemptVerify .. | .portMode .. | .esmcInformationPdu .. => none
  | .frameReceive .. | .ntpRequest .. | .ntsRequest .. | .delayReq .. | .pdelayReq .. | .ptpSyncSend .. => none
  | .ptpAnnounceSend .. | .requestUnicastTransmission .. | .cancelUnicastTransmission .. | .grantExpiry .. | .ntsKeConnection .. | .launchRelease .. => none
  | .clientTableSweep .. | .cacheEviction .. | .prongHashGo .. | .ntsKeyRotation .. | .ntsKeyErase .. | .policyBankSwitch .. => none
  | .groupReturn .. | .caliperEdge .. | .calPop0Read .. | .intervalPair .. | .intervalTimeout .. | .gateStart .. => none
  | .gateEnd .. | .codeDensityTable .. | .cdSlow .. | .calDll .. | .dllRelock .. | .calCdSelWrite .. => none
  | .pulseInstant .. | .skewCalibration .. | .alignEdge .. | .alignHold .. | .irigbFrameBuild .. | .clkoutRisingEdge .. => none
  | .crpRequest .. | .sealQProdWrite .. | .sealAdmission .. | .signatureComplete .. | .sealJrnAckWrite .. | .latHelloSend .. => none
  | .latAnnounceSend .. | .latExchangeSend .. | .latHelloReceived .. | .latAnnounceReceived .. | .latExchangeReceived .. | .latLeaveReceived .. => none
  | .helloMiss .. | .linkReady .. | .rootElection .. | .mergeTest .. | .registryRefresh .. | .rosterExpiry .. => none
  | .latBlockLock .. | .superframeStart .. | .beaconReceived .. | .beaconMissing .. | .slotSend .. | .openFieldSend .. => none
  | .join .. | .joinAck .. | .deckStatus .. | .deckLeave .. | .deckData .. | .sealReq .. => none
  | .sealResp .. | .memberDrop .. | .quarantineExpiry .. | .rateDownshift .. | .deckCoordDup .. | .coordResume .. => none
  | .deckTxProdWrite .. | .deckSearchExpiry .. | .br .. | .await .. | .shin .. | .shout .. => none
  | .fetch .. | .post .. | .copy .. | .load .. | .mark .. | .ibexInject .. => none
  | .ibexTxfWrite .. | .ibexRxfRead .. | .ibexRestart .. | .ibexFlush .. | .ibexCfgWrite .. | .ibexStoreWrite .. => none
  | .kidMatch .. | .kidMaskHiWrite .. | .kidLoadWrite .. | .kidCap0Read .. | .laneSample .. | .dmaStart .. => none
  | .dmaAbort .. | .dmaPause .. | .dmaResume .. | .dmaBurst .. | .dmaPassEnd .. | .dmaRingHostWrite .. => none
  | .eventArrival .. | .evtSoftWrite .. | .evtTaskClear .. | .tallySnapshot .. | .tallyWrap .. | .tallyRingHostWrite .. => none
  | .registerWrite .. | .wideValueLowRead .. | .wideValueHighWrite .. | .rcFieldRead .. | .wardenRestart .. | .sealPendingDrained .. => none
  | .restartBlocksConfigured .. | .signingResumes .. | .powerOn .. | .xo32Absent .. | .aonLow .. | .aonLowRearm .. => none
  | .vddAonFallBelowVBor .. | .railFail .. | .coldReset .. | .bootStart .. | .pmbusScan .. | .blockRelease .. => none
  | .bootDone .. | .oscAbsent .. | .oscInAppears .. | .pciePerst .. | .pcieConfigWrite .. | .pcieLinkChange .. => none
  | .blockResetPort .. | .blockResetProngGroup .. | .blockResetLat .. | .blockResetDeck .. | .blockResetIbex .. | .blockResetDma .. => none
  | .blockResetTally .. | .blockResetDone .. | .imageWriteDone .. | .mywiLine .. | .sessionStart .. | .authLockExpiry .. => none
  | .mywiIdle .. | .con0Break .. | .con0CharacterReceived .. | .hspiWrite .. | .hspiRead .. | .hspiStatus .. => none
  | .mbxInProdWrite .. | .mbxReset .. | .mgmtConnect .. | .mgmtOutputBlocked .. | .mgmtConnectionDrop .. | .outputBufferDrain .. => none
  | .flushClass .. | .flushClassAll .. | .sleepEntry .. | .domainDrop .. | .regulatorAck .. | .pmbAck .. => none
  | .wake .. | .domainRelease .. | .grazeStep .. | .aonTimer .. | .wakeN .. | .wakePortMatch .. => none
  | .wakePortWrite .. | .wakePortRead .. | .decklineCarrier .. | .voltageRequestRetry .. | .keeperCalibration .. | .txnEpoch .. => none
  | .classBItemApply .. | .faultClear .. | .dieTempSample .. => none

/-- The families of commands: time, references and Store; ports, measurement, outputs, serving and signing; the two
networks; the engines and the register accesses; lines, transactions and images; resets, boot and power. -/
inductive Family where
  | timekeeping
  | serving
  | networks
  | engines
  | console
  | power
deriving DecidableEq, Repr

/-- The family of a command. -/
def Instr.family : Instr → Family
  | .axisNowRead .. | .trustTick .. | .leapTakesEffect .. | .smearWindowStart .. | .gnssPpsEdge .. => .timekeeping
  | .nmeaSentence .. | .atomEdge .. | .esmcPdu .. | .ptpClientMessage .. | .refDown .. => .timekeeping
  | .holdOffExpiry .. | .waitToRestoreExpiry .. | .crossCheck .. | .loopUpdate .. | .acquisitionStep .. => .timekeeping
  | .slewComplete .. | .tangentSample .. | .holdoverPredict .. | .tempRead .. | .oscLost .. => .timekeeping
  | .oscReturn .. | .loopOffsetsMissing .. | .wavefrontWrap .. | .echoCalibration .. | .bar2Write .. => .timekeeping
  | .bar2Read .. => .timekeeping
  | .signalDetect .. | .linkUp .. | .linkDown .. | .linkRetry .. | .tsReady .. => .serving
  | .pcsMarker .. | .portRefine .. | .preemptVerify .. | .portMode .. | .esmcInformationPdu .. => .serving
  | .frameReceive .. | .caliperEdge .. | .calPop0Read .. | .intervalPair .. | .intervalTimeout .. => .serving
  | .gateStart .. | .gateEnd .. | .codeDensityTable .. | .cdSlow .. | .calDll .. => .serving
  | .dllRelock .. | .calCdSelWrite .. | .pulseInstant .. | .skewCalibration .. | .alignEdge .. => .serving
  | .alignHold .. | .irigbFrameBuild .. | .clkoutRisingEdge .. | .ntpRequest .. | .ntsRequest .. => .serving
  | .delayReq .. | .pdelayReq .. | .ptpSyncSend .. | .ptpAnnounceSend .. | .requestUnicastTransmission .. => .serving
  | .cancelUnicastTransmission .. | .grantExpiry .. | .ntsKeConnection .. | .launchRelease .. | .clientTableSweep .. => .serving
  | .cacheEviction .. | .prongHashGo .. | .ntsKeyRotation .. | .ntsKeyErase .. | .policyBankSwitch .. => .serving
  | .groupReturn .. | .crpRequest .. | .sealQProdWrite .. | .sealAdmission .. | .signatureComplete .. => .serving
  | .sealJrnAckWrite .. => .serving
  | .latHelloSend .. | .latAnnounceSend .. | .latExchangeSend .. | .latHelloReceived .. | .latAnnounceReceived .. => .networks
  | .latExchangeReceived .. | .latLeaveReceived .. | .helloMiss .. | .linkReady .. | .rootElection .. => .networks
  | .mergeTest .. | .registryRefresh .. | .rosterExpiry .. | .latBlockLock .. | .superframeStart .. => .networks
  | .beaconReceived .. | .beaconMissing .. | .slotSend .. | .openFieldSend .. | .join .. => .networks
  | .joinAck .. | .deckStatus .. | .deckLeave .. | .deckData .. | .sealReq .. => .networks
  | .sealResp .. | .memberDrop .. | .quarantineExpiry .. | .rateDownshift .. | .deckCoordDup .. => .networks
  | .coordResume .. | .deckTxProdWrite .. | .deckSearchExpiry .. => .networks
  | .br .. | .await .. | .shin .. | .shout .. | .fetch .. => .engines
  | .post .. | .copy .. | .load .. | .mark .. | .ibexInject .. => .engines
  | .ibexTxfWrite .. | .ibexRxfRead .. | .ibexRestart .. | .ibexFlush .. | .ibexCfgWrite .. => .engines
  | .ibexStoreWrite .. | .kidMatch .. | .kidMaskHiWrite .. | .kidLoadWrite .. | .kidCap0Read .. => .engines
  | .laneSample .. | .dmaStart .. | .dmaAbort .. | .dmaPause .. | .dmaResume .. => .engines
  | .dmaBurst .. | .dmaPassEnd .. | .dmaRingHostWrite .. | .eventArrival .. | .evtSoftWrite .. => .engines
  | .evtTaskClear .. | .tallySnapshot .. | .tallyWrap .. | .tallyRingHostWrite .. | .registerWrite .. => .engines
  | .wideValueLowRead .. | .wideValueHighWrite .. | .rcFieldRead .. => .engines
  | .mywiShow .. | .mywiShowProngClient .. | .mywiSet .. | .mywiClear .. | .mywiClearItem .. => .console
  | .mywiList .. | .mywiWhich .. | .setSystemMode .. | .imageWriteStore .. | .imageWriteBegin .. => .console
  | .imageChunk .. | .imageWriteEnd .. | .imageWriteDone .. | .imageActivate .. | .imageOwnerEnroll .. => .console
  | .imageOwnerRevoke .. | .imageRollbackCommit .. | .mywiLine .. | .sessionStart .. | .mywiAuth .. => .console
  | .mywiAuthReply .. | .authLockExpiry .. | .mywiAuthLocal .. | .mywiAuthEnd .. | .mywiAuthAccount .. => .console
  | .mywiQuit .. | .mywiIdle .. | .con0Break .. | .con0CharacterReceived .. | .hspiWrite .. => .console
  | .hspiRead .. | .hspiStatus .. | .mbxInProdWrite .. | .mbxReset .. | .mgmtConnect .. => .console
  | .mgmtOutputBlocked .. | .mgmtConnectionDrop .. | .outputBufferDrain .. | .setPortMode .. | .flushClass .. => .console
  | .flushClassAll .. | .sealKeyGen .. | .sealKeyUse .. | .sealKeyRetire .. | .sealKeyErase .. => .console
  | .journalRelease .. | .txnBegin .. | .txnCommit .. | .txnAbort .. | .txnEpoch .. => .console
  | .classBItemApply .. | .faultClear .. => .console
  | .restartWarm .. | .restartCold .. | .restartColdForce .. | .restartWarden .. | .wardenRestart .. => .power
  | .sealPendingDrained .. | .restartBlocksConfigured .. | .signingResumes .. | .powerOn .. | .xo32Absent .. => .power
  | .aonLow .. | .aonLowRearm .. | .vddAonFallBelowVBor .. | .railFail .. | .coldReset .. => .power
  | .bootStart .. | .pmbusScan .. | .blockRelease .. | .bootDone .. | .oscAbsent .. => .power
  | .oscInAppears .. | .pciePerst .. | .pcieConfigWrite .. | .pcieLinkChange .. | .blockResetPort .. => .power
  | .blockResetProngGroup .. | .blockResetLat .. | .blockResetDeck .. | .blockResetIbex .. | .blockResetDma .. => .power
  | .blockResetTally .. | .blockResetDone .. | .sleepEntry .. | .powerOff .. | .powerOffForce .. => .power
  | .domainDrop .. | .regulatorAck .. | .pmbAck .. | .wake .. | .domainRelease .. => .power
  | .grazeStep .. | .aonTimer .. | .wakeN .. | .wakePortMatch .. | .wakePortWrite .. => .power
  | .wakePortRead .. | .decklineCarrier .. | .voltageRequestRetry .. | .keeperCalibration .. | .dieTempSample .. => .power

/-- The Lattice link of a command that is about one. -/
def Instr.link : Instr → Option (Fin 4)
  | .latHelloSend n => some n
  | .latAnnounceSend n => some n
  | .latExchangeSend n _ => some n
  | .latHelloReceived n _ _ => some n
  | .latAnnounceReceived n _ _ => some n
  | .latExchangeReceived n _ _ _ => some n
  | .latLeaveReceived n _ _ => some n
  | .helloMiss n => some n
  | .linkReady n _ => some n
  | .mergeTest n => some n
  | .latBlockLock n _ _ => some n
  | _ => none

/-- The Deckline segment of a command that is about one. -/
def Instr.segment : Instr → Option (Fin 2)
  | .superframeStart n _ => some n
  | .beaconReceived n _ _ _ => some n
  | .beaconMissing n => some n
  | .slotSend n _ => some n
  | .openFieldSend n _ => some n
  | .join n _ => some n
  | .joinAck n _ => some n
  | .deckStatus n _ _ => some n
  | .deckLeave n _ => some n
  | .deckData n _ _ => some n
  | .sealReq n _ _ => some n
  | .sealResp n _ => some n
  | .memberDrop n _ => some n
  | .quarantineExpiry n => some n
  | .rateDownshift n => some n
  | .deckCoordDup n => some n
  | .coordResume n => some n
  | .deckTxProdWrite n _ => some n
  | .deckSearchExpiry n => some n
  | _ => none

/-- The Ethernet port of a command that is about one. -/
def Instr.portNo : Instr → Option (Fin 4)
  | .signalDetect n _ => some n
  | .linkUp n _ _ _ => some n
  | .linkDown n _ => some n
  | .linkRetry n _ => some n
  | .pcsMarker n _ _ _ => some n
  | .portRefine n _ => some n
  | .preemptVerify n _ => some n
  | .portMode n => some n
  | .esmcInformationPdu n => some n
  | _ => none

/-- The Ibex channel of a command that is about one. -/
def Instr.herdNo : Instr → Option (Fin 32)
  | .br n _ _ => some n
  | .await n _ _ _ => some n
  | .shin n _ _ => some n
  | .shout n _ _ => some n
  | .fetch n _ _ => some n
  | .post n _ _ => some n
  | .copy n _ _ => some n
  | .load n _ _ => some n
  | .mark n _ _ => some n
  | .ibexInject n _ => some n
  | .ibexTxfWrite n _ => some n
  | .ibexRxfRead n => some n
  | .ibexRestart n => some n
  | .ibexFlush n => some n
  | _ => none

/-- The DMA channel of a command that is about one. -/
def Instr.dmaNo : Instr → Option (Fin 16)
  | .dmaStart n _ => some n
  | .dmaAbort n => some n
  | .dmaPause n => some n
  | .dmaResume n => some n
  | .dmaPassEnd n => some n
  | .dmaRingHostWrite n _ => some n
  | _ => none

end Sys2Proof

namespace Sys2Proof.Machine

/-- Command `c` on `s` leaves the queue and every part that is not among those it may write as they are. -/
def Framed (c : Instr) (s : State) : Prop :=
  ∀ t, exec c s = .next t → t.pending = s.pending ∧ ∀ b, b ∉ c.writes → s.hw.same t.hw b

end Sys2Proof.Machine
end

