-- ==== Sys2Proof/Certificates/Slice0/Obligations.lean ====
section
/-! DEFINITION. The obligations: the statements about this model for the provers. -/

set_option autoImplicit false
set_option maxRecDepth 4000

open Sys2Proof Sys2Proof.Machine

/-! ## Custody time, UTC, the wavefront (chapters 1 and 3) -/

/-- TRUST_TICK (R19): in LOCKED and in HOLDOVER a trust tick moves Axis time by exactly its own length, and counts no
step. The model's own choices it rests on: notes/assumptions entry 13. -/
def Obligations.TickInLockedAndHoldoverNeverSteps : Prop :=
  ∀ s : State, s.hw.time.clockOn = true → (s.hw.time.trust = .locked ∨ s.hw.time.trust = .holdover) →
    Completes .trustTick s (fun k =>
      k.time.up = s.hw.time.up + auPerTick ∧ k.time.axis = s.hw.time.axis + auPerTick ∧
      k.time.stepCnt = s.hw.time.stepCnt)

/-- AXIS_NOW_READ (R13): the sample holds Axis time with the AXIS_UNC of the latest tick; the word read is AXIS_FRAC; Axis
time itself and the trust state stay. The model's own choices it rests on: notes/assumptions entry 13. -/
def Obligations.AxisNowReadTakesOneSample : Prop :=
  ∀ (s : State) (sub : Nat), s.hw.sys.d3hot = false → s.hw.domUp .ref = true →
    Completes (.axisNowRead sub) s (fun k =>
      k.time.nowSh.axis = s.hw.time.axis + sub ∧ k.time.nowSh.unc = s.hw.time.unc ∧
      k.time.axis = s.hw.time.axis ∧ k.time.trust = s.hw.time.trust ∧ k.time.unc = s.hw.time.unc ∧
      k.sys.rdata = [BitVec.ofNat 32 ((s.hw.time.axis + sub) % auPerNs / auPerFrac)])

/-- LEAP_TAKES_EFFECT and SMEAR_WINDOW_START (R12, R513, R33): a leap moves every held offset by its second and leaves
Axis time alone; a smear window keeps the length it starts with, and nothing else changes. The model's own choices it
rests on: notes/assumptions entry 13. -/
def Obligations.UtcCommandsComplete : Prop :=
  (∀ (s : State) (l : Leap), s.hw.time.leap = some l → l.at_ * auPerSec < s.hw.time.axis + auPerTick →
    Completes .leapTakesEffect s (fun k =>
      k.time.axis = s.hw.time.axis ∧
      k.time.factoryOff = s.hw.time.factoryOff + (if l.insert then 1 else -1) ∧
      k.time.movedSetting = s.hw.settingOff.map (· + (if l.insert then 1 else -1)) ∧
      ∀ i : Fin 20, (k.ref.ins[i]).utcHeld = (s.hw.ref.ins[i]).utcHeld.map (· + (if l.insert then 1 else -1)))) ∧
  (∀ (s : State) (l : Leap), s.hw.time.leap = some l → s.hw.effB .utcSmear = true →
    s.hw.time.smear = none → s.hw.time.noSmear = false →
    l.at_ * auPerSec - psAu (s.hw.effN .utcSmearWindow) < s.hw.time.axis + auPerTick →
    Completes .smearWindowStart s (fun k =>
      k = { s.hw with time := { s.hw.time with smear := some (s.hw.effN .utcSmearWindow) } }))

/-- WAVEFRONT_WRAP and ECHO_CALIBRATION (R53, R55): a consistent anchor ends a slip and lets a waiting move of D take
effect; an inconsistent one marks the stamps and counts toward F120; a measurement moves D only later and by one step
at most; one outside 0 to 20,000 ps latches F121. The model's own choices it rests on: notes/assumptions entries 2,
13. -/
def Obligations.WavefrontCommandsComplete : Prop :=
  (∀ (s : State) (n : Fin 48) (diff : Int), 2 ≤ n.val → s.hw.time.clockOn = true → s.hw.domUp (islandDomain n) = true →
    ((s.hw.wave.isl[n]).anchored = false ∨ diff.natAbs ≤ 800) →
    Completes (.wavefrontWrap n diff) s (fun k =>
      k.wave.isl[n] = { s.hw.wave.isl[n] with
        d := (s.hw.wave.isl[n]).d + (s.hw.wave.isl[n]).move, move := 0, anchored := true, slipped := false, badRun := 0 })) ∧
  (∀ (s : State) (n : Fin 48) (diff : Int), 2 ≤ n.val → s.hw.time.clockOn = true → s.hw.domUp (islandDomain n) = true →
    (s.hw.wave.isl[n]).anchored = true → 800 < diff.natAbs →
    Completes (.wavefrontWrap n diff) s (fun k =>
      (k.wave.isl[n]).slipped = true ∧ (k.wave.isl[n]).badRun = (s.hw.wave.isl[n]).badRun + 1 ∧
      k.wave.lastSlip = n.val ∧ (k.note.evt[(5 : Fin 28)]).getLsbD 0 = true ∧
      ((s.hw.wave.isl[n]).badRun = 2 → k.latched 0 = true))) ∧
  (∀ (s : State) (n : Fin 48) (meas : Int), 2 ≤ n.val → s.hw.time.clockOn = true → s.hw.domUp (islandDomain n) = true →
    (s.hw.wave.isl[n]).measured = true → 0 ≤ meas → meas ≤ 20000 →
    Completes (.echoCalibration n meas) s (fun k =>
      (k.wave.isl[n]).d = (s.hw.wave.isl[n]).d ∧ (k.wave.isl[n]).outside = false ∧
      ((k.wave.isl[n]).move = 50 ∨ (k.wave.isl[n]).move = -50 ∨ (k.wave.isl[n]).move = 0))) ∧
  (∀ (s : State) (n : Fin 48) (meas : Int), 2 ≤ n.val → s.hw.time.clockOn = true → s.hw.domUp (islandDomain n) = true →
    (meas < 0 ∨ 20000 < meas) →
    Completes (.echoCalibration n meas) s (fun k =>
      (k.wave.isl[n]).outside = true ∧ (k.wave.isl[n]).d = (s.hw.wave.isl[n]).d ∧ k.latched 1 = true))

/-- BAR2_READ and BAR2_WRITE (R61, R62): a read returns the bytes of Store and says whether a word among them is in error;
a write changes exactly its bytes when no touched word is in error; a write to the journal region changes no byte and
sets BUS_EVT.JOURNAL_WR. The model's own choices it rests on: notes/assumptions entries 63, 65. -/
def Obligations.StoreAccessesComplete : Prop :=
  (∀ (s : State) (a n : Nat) (errs : List (Nat × Bool)), a + n ≤ storeBytes → s.hw.sys.d3hot = false →
    s.hw.domUp .store = true →
    Completes (.bar2Read a n errs) s (fun k =>
      k.sys.rdata = bytesToWords (s.hw.peekN a n) ∧ k.sys.poisoned = (s.hw.takeErrors errs).poisonedAt a n)) ∧
  (∀ (s : State) (a : Nat) (data : List Byte) (errs : List (Nat × Bool)), MemOk s.hw → a + data.length ≤ storeBytes →
    s.hw.sys.d3hot = false → s.hw.domUp .store = true → (a + data.length ≤ journalBase ∨ journalEnd ≤ a) →
    (s.hw.takeErrors errs).poisonedAt a data.length = false →
    Completes (.bar2Write a data errs) s (fun k =>
      (∀ (i : Nat) (hi : i < data.length), k.peek (a + i) = data[i]) ∧
      ∀ x, (x < a ∨ a + data.length ≤ x) → k.peek x = s.hw.peek x)) ∧
  (∀ (s : State) (a : Nat) (data : List Byte) (errs : List (Nat × Bool)), a + data.length ≤ storeBytes → data ≠ [] →
    s.hw.sys.d3hot = false → s.hw.domUp .store = true → journalBase ≤ a → a < journalEnd →
    Completes (.bar2Write a data errs) s (fun k =>
      k.store = s.hw.store ∧ (k.note.evt[(24 : Fin 28)]).getLsbD 4 = true))

/-! ## Steering and the die temperature (chapters 9 and 25) -/

/-- The steering commands (R15, R180, R183, R184, R186, R188, R190, R195, R196). The model's own choices it rests on:
notes/assumptions entries 4, 33. -/
def Obligations.SteeringCommandsComplete : Prop :=
  (∀ s : State, s.hw.steer.slewing = true → s.hw.steer.delta = 0 →
    Completes .slewComplete s (fun k =>
      k.steer.slewing = false ∧ k.steer.slope = s.hw.effN .steerSlope / 1000000000 ∧ k.time = s.hw.time)) ∧
  (∀ (s : State) (fdiff : Int) (i : Fin 20) (t : Nat), s.hw.ref.sel = some i → s.hw.time.clockOn = true →
    (s.hw.ref.ins[i]).st ≠ .holdoff → (s.hw.ref.ins[i]).ofsAt = some t →
    (s.hw.steer.lastUpd = none ∨ ∃ u, s.hw.steer.lastUpd = some u ∧ u < t) →
    Completes (.loopUpdate fdiff) s (fun k =>
      k.steer.lastUpd = some s.hw.time.up ∧ k.time.axis = s.hw.time.axis ∧
      -100000000000000 ≤ k.steer.integ ∧ k.steer.integ ≤ 100000000000000 ∧
      ((k.steer.smallAt = none) ↔ s.hw.effN .steerLockErr < ((s.hw.ref.ins[i]).ofs - s.hw.deltaPs).natAbs))) ∧
  (∀ (s : State) (i : Fin 20) (u : Nat), s.hw.ref.sel = some i → (s.hw.ref.ins[i]).st ≠ .holdoff →
    s.hw.steer.lastUpd = some u → u + psAu (tau8 (s.hw.clampBw s.hw.trackBw)) ≤ s.hw.time.up → s.hw.steer.lock = true →
    Completes .loopOffsetsMissing s (fun k =>
      k.steer.lock = false ∧ k.time.lockLost = true ∧ (k.note.evt[(7 : Fin 28)]).getLsbD 1 = true)) ∧
  (∀ s : State, s.hw.steer.acquiring = true → s.hw.steer.bwAt + psAu (tau8 s.hw.steer.bw) ≤ s.hw.time.up →
    Completes .acquisitionStep s (fun k =>
      k.steer.step = s.hw.steer.step + 1 ∧ k.steer.bwAt = s.hw.time.up ∧
      (k.steer.acquiring = false → k.steer.bw = s.hw.clampBw s.hw.trackBw) ∧
      (k.steer.acquiring = true → k.steer.bw = s.hw.clampBw (schedBw s.hw.acqBw (s.hw.steer.step + 1))))) ∧
  (∀ (s : State) (u : Nat), s.hw.tangentCond = true → s.hw.steer.intStart = some u →
    u + psAu 64000000000000 ≤ s.hw.time.up → 0 < s.hw.steer.sumN →
    Completes .tangentSample s (fun k =>
      k.steer.fit.isSome = true ∧ k.steer.intStart = some s.hw.time.up ∧ k.steer.sumN = 0 ∧
      k.steer.samples.length = min (s.hw.steer.samples.length + 1) s.hw.windowN)) ∧
  (∀ s : State, s.hw.ref.sel = none → s.hw.steer.frozen = true → s.hw.steer.oscOk = true →
    Completes .holdoverPredict s (fun k =>
      k.steer.predict = true ∧ -100000000000000 ≤ k.steer.ypred ∧ k.steer.ypred ≤ 100000000000000 ∧
      k.time.axis = s.hw.time.axis ∧ k.steer.delta = s.hw.steer.delta)) ∧
  (∀ (s : State) (die : Int) (pmb : Option Int), s.hw.effN .steerTempSource = 0 →
    Completes (.tempRead die pmb) s (fun k => k.steer.temp = die ∧ k.steer.tempSrc = 0)) ∧
  (∀ s : State, s.hw.time.clockOn = true → s.hw.steer.oscOk = true →
    Completes .oscLost s (fun k =>
      k.time.unc = uncMax ∧ k.steer.valid = false ∧ k.steer.oscOk = false ∧ k.steer.freeRun = true ∧
      k.latched 4 = true ∧ (k.note.evt[(7 : Fin 28)]).getLsbD 4 = true ∧ k.time.axis = s.hw.time.axis)) ∧
  (∀ s : State, s.hw.time.clockOn = true → s.hw.steer.oscOk = false →
    Completes .oscReturn s (fun k =>
      k = { s.hw with steer := { s.hw.steer with oscOk := true, freeRun := false, oscSince := s.hw.time.up } }))

/-! ## Resets, boot and restarts (chapters 2, 4, 5) -/

/-- The resets and supply events (R84 to R86, R93, R94): what each loses and what it leaves. Flash keeps its contents (but
for a slot write it cuts short); keys, the journal head and the Tangent coefficients outlive a cold reset. The model's
own choices it rests on: notes/assumptions entries 10, 64. -/
def Obligations.ResetAndSupplyCommandsComplete : Prop :=
  (∀ (s : State) (mv : Nat), s.hw.sys.aonUp = false →
    Completes (.powerOn mv) s (fun k =>
      k.sys.aonUp = true ∧ k.sys.stage = 0 ∧ k.time = {} ∧ k.store = [] ∧ k.keep = [] ∧ k.sealU = {} ∧ k.mywi = {} ∧
      k.img.flash = s.hw.img.flash)) ∧
  (∀ s : State, Completes .vddAonFallBelowVBor s (fun k =>
      k.sys.aonUp = false ∧ k.time = {} ∧ k.store = [] ∧ k.keep = [] ∧ k.sealU = {} ∧ k.mywi = {} ∧
      (s.hw.img.write = none → k.img.flash = s.hw.img.flash))) ∧
  (∀ s : State, s.hw.sys.aonUp = true →
    Completes .coldReset s (fun k =>
      k.sys.coldSrc = 1 ∧ k.sys.lastCause = 1 ∧ k.sys.stage = 0 ∧ k.time = {} ∧ k.store = [] ∧ k.sett = {} ∧
      k.mywi = {} ∧ k.steer.fit = s.hw.steer.fit ∧ k.sealU.keys = s.hw.sealU.keys ∧ k.sealU.next = s.hw.sealU.next ∧
      k.sealU.head = s.hw.sealU.head ∧ k.note.evt[(1 : Fin 28)] = s.hw.note.evt[(1 : Fin 28)] ∧
      (s.hw.img.write = none → k.img.flash = s.hw.img.flash))) ∧
  (∀ (s : State) (r : Fin 8), s.hw.sys.aonUp = true → 2 ≤ s.hw.sys.stage → s.hw.railRequired r = true →
    Completes (.railFail r) s (fun k =>
      k.sys.coldSrc = 2 ∧ k.sys.stage = 0 ∧ k.sys.railFail = true ∧ k.sys.pg.getLsbD r = false ∧ k.time = {} ∧
      (k.note.evt[(1 : Fin 28)]).getLsbD r = true)) ∧
  (∀ (s : State) (mv : Nat), s.hw.sys.aonUp = true → mv < s.hw.effN .supplyAonWarnMv → s.hw.sys.aonLowArmed = true →
    Completes (.aonLow mv) s (fun k =>
      k.sys.aonMv = mv ∧ k.sys.aonLowArmed = false ∧ (k.note.evt[(1 : Fin 28)]).getLsbD 8 = true)) ∧
  (∀ (s : State) (mv : Nat), s.hw.sys.aonUp = true → s.hw.effN .supplyAonWarnMv + 50 ≤ mv →
    (s.hw.note.evt[(1 : Fin 28)]).getLsbD 8 = false →
    Completes (.aonLowRearm mv) s (fun k => k.sys.aonMv = mv ∧ k.sys.aonLowArmed = true ∧ k.note = s.hw.note)) ∧
  (∀ (s : State) (t : Nat), s.hw.domUp .ref = true → 2 ≤ s.hw.sys.stage →
    Completes (.dieTempSample t) s (fun k =>
      k.sys.tNow = t ∧ k.sys.tMax = max s.hw.sys.tMax t ∧
      (s.hw.effN .supplyTjWarn ≤ t → k.sys.tjArmed = false)))

/-- Boot (R99, R104 to R106, R108): from t0 to the end, stage by stage, and the Axis clock with OSC_IN. The model's own
choices it rests on: notes/assumptions entries 11, 54. -/
def Obligations.BootCommandsComplete : Prop :=
  (∀ (s : State) (sfdp osc : Bool), s.hw.sys.aonUp = true → s.hw.sys.stage = 0 →
    Completes (.bootStart sfdp osc) s (fun k =>
      k.sys.stage = 7 ∧ k.domUp .keep = true ∧ k.time.clockOn = osc ∧ k.steer.oscOk = osc)) ∧
  (∀ (s : State) (found : List (Nat × List Nat)) (stuck : Bool), s.hw.sys.stage = 7 →
    Completes (.pmbusScan found stuck) s (fun k =>
      k.sys.stage = 8 ∧ (stuck = true → k.sys.stuck = true ∧ k.latched 16 = true) ∧
      (stuck = false → k.sys.regs = found.map (fun f => { addr := f.1, pages := f.2 })))) ∧
  (∀ s : State, s.hw.sys.stage = 8 →
    Completes .blockRelease s (fun k => k.sys.stage = 9 ∧ k.sys.released = true ∧ k.prong.serving = true)) ∧
  (∀ (s : State) (us : Nat), s.hw.sys.stage = 9 →
    Completes (.bootDone us) s (fun k =>
      k.sys.stage = 10 ∧ k.sys.done = true ∧ k.sys.bootUs = BitVec.ofNat 32 (min us max32) ∧ k.mywi.openM = true ∧
      (k.note.evt[(2 : Fin 28)]).getLsbD 0 = true)) ∧
  (∀ s : State, 2 ≤ s.hw.sys.stage → s.hw.time.clockOn = false → s.hw.steer.oscOk = false → s.hw.asleep = false →
    Completes .oscAbsent s (fun k => k.latched 2 = true ∧ k.time = s.hw.time)) ∧
  (∀ s : State, 2 ≤ s.hw.sys.stage → s.hw.time.clockOn = false → s.hw.steer.oscOk = false → s.hw.asleep = false →
    Completes .oscInAppears s (fun k =>
      k.steer.oscOk = true ∧
      (s.hw.sys.done = false → k.time.clockOn = true ∧ k.time.axis = 0) ∧
      (s.hw.sys.done = true → s.hw.sys.restart = none →
        ∃ r, k.sys.restart = some r ∧ r.kind = .warm ∧ r.phase = .draining ∧ k.mywi.openM = false)))

/-- The steps of a warm restart (Table 2.4, R41, R42), of a Warden restart (R469) and the end of a block reset (R97). The
model's own choices it rests on: notes/assumptions entries 15, 59. -/
def Obligations.RestartCommandsComplete : Prop :=
  (∀ (s : State) (r : Restart), s.hw.sys.restart = some r → r.phase = .draining → s.hw.sealPending = 0 →
    Completes .sealPendingDrained s (fun k =>
      k.sys.restart = some { r with phase := .stopped, ts := s.hw.time.axis } ∧ k.prong.serving = false ∧
      k.time.axis = s.hw.time.axis)) ∧
  (∀ (s : State) (r : Restart), s.hw.sys.restart = some r → r.phase = .stopped →
    Completes .restartBlocksConfigured s (fun k =>
      k.sys.restart = some { r with phase := .configured } ∧ k.sys.lastCause = r.kind.code ∧ k.mywi.baudNext = none)) ∧
  (∀ (s : State) (r : Restart), s.hw.sys.restart = some r → r.phase = .configured →
    Completes .signingResumes s (fun k =>
      k.sys.restart = none ∧ k.sys.changing = false ∧ k.sealU.busy = false ∧ k.prong.serving = true ∧ k.mywi.openM = true ∧
      (s.hw.time.clockOn = true → k.time.axis = s.hw.time.axis))) ∧
  (∀ s : State, s.hw.sys.done = true → s.hw.sys.restart = none → s.hw.domUp .keep = true →
    Completes .wardenRestart s (fun k =>
      k.txn.more = [] ∧ k.mywi.openM = true ∧ k.time = s.hw.time ∧ k.sett = s.hw.sett ∧
      ∀ i : Fin 11, (k.mywi.sess[i]).role = 0)) ∧
  (∀ (s : State) (n : Nat) (b : RstBlock), s.hw.sys.inReset[n]? = some b →
    (∀ g r t, b = .group g → s.hw.prong.reload = some (r, t) → r ≠ g) →
    Completes (.blockResetDone n) s (fun k =>
      k.sys.inReset = s.hw.sys.inReset.eraseIdx n ∧ (k.note.evt[(2 : Fin 28)]).getLsbD 2 = true))

/-- The PCIe function (R94, R490): PCIE_PERST_N low resets the endpoint and its configuration space and nothing else. The
model's own choices it rests on: notes/assumptions entry 16. -/
def Obligations.PcieCommandsComplete : Prop :=
  (∀ s : State, s.hw.sys.aonUp = true →
    Completes (.pciePerst false) s (fun k =>
      k = { s.hw with
        sys := { s.hw.sys with perst := true, linkUp := false, busMaster := false, msixEn := false, msixMask := false,
                               d3hot := false, msixTab := [] },
        note := { s.hw.note with pba := 0 } })) ∧
  (∀ s : State, s.hw.sys.aonUp = true →
    Completes (.pciePerst true) s (fun k => k = { s.hw with sys := { s.hw.sys with perst := false } })) ∧
  (∀ s : State, s.hw.sys.perst = false → s.hw.domUp .keep = true → 2 ≤ s.hw.sys.stage → s.hw.pwr.railsOff &&& 0xC = 0 →
    Completes (.pcieLinkChange true) s (fun k => k.sys = { s.hw.sys with linkUp := true })) ∧
  (∀ s : State, Completes (.pcieLinkChange false) s (fun k => k = { s.hw with sys := { s.hw.sys with linkUp := false } })) ∧
  (∀ (s : State) (b e m d : Bool), s.hw.sys.linkUp = true →
    Completes (.pcieConfigWrite b e m d) s (fun k =>
      k.sys = { s.hw.sys with busMaster := b, msixEn := e, msixMask := m, d3hot := d } ∧ k.mywi = s.hw.mywi))

/-! ## Mywi (chapters 7, 22 and 23) -/

/-- `show`, `list` and `which` (R472, R475, R476): the response is the body the tables give and `.ok`. The model's own
choices it rests on: notes/assumptions entries 21, 25. -/
def Obligations.MywiReadingVerbsComplete : Prop :=
  (∀ (s : State) (ses : Fin 11) (p : String) (x : Key), Ready s ses 1 → formCode "show" [p] = 0 →
    (s.hw.lined ses).place false p = .leaf x → x.p.row.canShow = true →
    Completes (.mywiShow ses [p]) s (fun k => Answered s.hw k ses ((s.hw.lined ses).showBody ses x) 0)) ∧
  (∀ (s : State) (ses : Fin 11) (a : String) (f n : Nat), Ready s ses 1 → addr? a.toList = some (f, n) →
    Completes (.mywiShowProngClient ses a) s (fun k =>
      (∀ l, (s.hw.lined ses).showClient f n = some l → Answered s.hw k ses l 0) ∧
      ((s.hw.lined ses).showClient f n = none → Answered s.hw k ses [] 405))) ∧
  (∀ (s : State) (ses : Fin 11), Ready s ses 1 →
    Completes (.mywiList ses []) s (fun k => Answered s.hw k ses (stems.map (fun n => "node=" ++ n)) 0)) ∧
  (∀ (s : State) (ses : Fin 11) (p : String), Ready s ses 1 → formCode "list" [p] = 0 →
    (∀ c, (s.hw.lined ses).place false p ≠ .bad c) →
    Completes (.mywiList ses [p]) s (fun k => Answered s.hw k ses ((s.hw.lined ses).listLines p) 0)) ∧
  (∀ (s : State) (ses : Fin 11) (p : String) (x : Key), Ready s ses 1 → formCode "which" [p] = 0 →
    (s.hw.lined ses).place false p = .leaf x →
    Completes (.mywiWhich ses [p]) s (fun k => Answered s.hw k ses (whichLines x) 0))

/-- `set` and `clear` (R461, R473, R474): a value that passes the tests is in effect afterwards, or staged when the
session has a transaction open; a clear brings the default back, and a leap date named by its item goes from the
table. The model's own choices it rests on: notes/assumptions entries 14, 22, 30, 31. -/
def Obligations.MywiSettingVerbsComplete : Prop :=
  (∀ (s : State) (ses : Fin 11) (t : String) (n : Nat), Ready s ses PathId.axisSignLimit.row.role →
    (s.hw.mywi.sess[ses]).txn = none → parseValue PathId.axisSignLimit.row.vt t = .ok (.nat n) →
    ((s.hw.lined ses).overlay ⟨.axisSignLimit, 0, 0⟩ (.nat n)).violates ⟨.axisSignLimit, 0, 0⟩ = false →
    (s.hw.lined ses).stateTest ⟨.axisSignLimit, 0, 0⟩ (.nat n) = 0 →
    Completes (.mywiSet ses ["axis.sign_limit", t]) s (fun k =>
      k.effN .axisSignLimit = n ∧ k.time = s.hw.time ∧ Answered s.hw k ses [] 0)) ∧
  (∀ (s : State) (ses : Fin 11) (p t : String) (x : Key) (v : SVal) (l l' : List (Key × SVal)),
    Ready s ses (max 1 x.p.row.role) → (s.hw.mywi.sess[ses]).txn = some l → formCode "set" [p, t] = 0 →
    (s.hw.lined ses).place true p = .leaf x → x.p.row.canSet = true → x.p ≠ .systemMode →
    parseValue x.p.row.vt t = .ok v → x.p.row.cls ≠ .r → (s.hw.lined ses).inWindow x = false →
    stageIn l x v = .ok l' →
    Completes (.mywiSet ses [p, t]) s (fun k =>
      (k.mywi.sess[ses]).txn = some l' ∧ k.sett = s.hw.sett ∧ Answered s.hw k ses [] 0)) ∧
  (∀ (s : State) (ses : Fin 11), Ready s ses PathId.utcLeap.row.role → (s.hw.mywi.sess[ses]).txn = none →
    (s.hw.lined ses).stateTest ⟨.utcLeap, 0, 0⟩ .none = 0 →
    Completes (.mywiClear ses "utc.leap") s (fun k => k.eff ⟨.utcLeap, 0, 0⟩ = .nats [] ∧ Answered s.hw k ses [] 0)) ∧
  (∀ (s : State) (ses : Fin 11) (t : String) (d : Nat) (l : List Nat), Ready s ses PathId.utcLeap.row.role →
    (s.hw.mywi.sess[ses]).txn = none → dateDay t.toList = .ok d →
    leapDrop d (s.hw.effL .utcLeap) = some l → (s.hw.lined ses).stateTest ⟨.utcLeap, 0, 0⟩ (.nats [d]) = 0 →
    Completes (.mywiClearItem ses "utc.leap" t) s (fun k =>
      k.eff ⟨.utcLeap, 0, 0⟩ = .nats l ∧ Answered s.hw k ses [] 0))

/-- Login (R150 to R153, R477, R478): a nonce for a name, the role it earns, its end, and the accounts. The model's own
choices it rests on: notes/assumptions entries 1, 5, 24. -/
def Obligations.MywiLoginVerbsComplete : Prop :=
  (∀ (s : State) (ses : Fin 11) (name : String), Ready s ses 0 → name ≠ "end" → name ≠ "local" → name ≠ "reply" →
    name ≠ "account" → s.hw.mywi.lockAt[transOf ses] = none →
    Completes (.mywiAuth ses [name]) s (fun k =>
      ∃ n, (k.mywi.sess[ses]).nonce = some n ∧ n.name = name ∧ n.at_ = s.hw.time.up ∧ (k.mywi.sess[ses]).role = 0 ∧
        Answered s.hw k ses ["nonce=" ++ showGroups 4 n.bits.toNat] 0)) ∧
  (∀ (s : State) (ses : Fin 11) (mac : String) (n : Nonce), Ready s ses 0 →
    s.hw.mywi.lockAt[transOf ses] = none → (s.hw.mywi.sess[ses]).nonce = some n → s.hw.time.up ≤ n.at_ + 30 * auPerSec →
    formCode "auth" ["reply", mac] = 0 →
    Completes (.mywiAuthReply ses [mac]) s (fun k =>
      (k.mywi.sess[ses]).nonce = none ∧
      (∀ r key, s.hw.accountOf n.name = some (r, key) → r < 3 →
        hexGroups? mac.toList =
          some ((Config.hmacSha256 key (authMessage n.name (transCode ses) n.bits.toNat)).toNat, 8) →
        (k.mywi.sess[ses]).role = r ∧ (k.mywi.sess[ses]).account = some n.name ∧ k.mywi.fails[transOf ses] = 0) ∧
      (s.hw.accountOf n.name = none →
        (k.mywi.sess[ses]).role = (s.hw.mywi.sess[ses]).role ∧ Answered s.hw k ses [] 601 ∧
        k.mywi.fails[transOf ses] =
          (if s.hw.mywi.fails[transOf ses] = 4 then 0 else s.hw.mywi.fails[transOf ses] + 1)))) ∧
  (∀ (s : State) (ses : Fin 11), Ready s ses 0 → s.hw.mywi.lockAt[transOf ses] = none → ses.val < 3 →
    s.hw.anyAccount = false → s.hw.freeSlots ≠ 0 →
    (∀ i : Fin 11, i ≠ ses → (s.hw.mywi.sess[i]).openS = true → (s.hw.mywi.sess[i]).role ≠ 3) →
    Completes (.mywiAuthLocal ses) s (fun k => (k.mywi.sess[ses]).role = 3)) ∧
  (∀ (s : State) (ses : Fin 11), Ready s ses 0 → s.hw.mywi.lockAt[transOf ses] = none →
    Completes (.mywiAuthEnd ses) s (fun k =>
      (k.mywi.sess[ses]).role = 0 ∧ (k.mywi.sess[ses]).account = none ∧ (k.mywi.sess[ses]).txn = none ∧
      (3 ≤ ses.val → (k.mywi.sess[ses]).openS = false))) ∧
  (∀ (s : State) (ses : Fin 11) (n name role : String) (i : Nat), Ready s ses 3 → argNat 0 15 n = .ok i →
    nameOk name.toList = true → (["observer", "operator", "custodian"] : List String).contains role = true →
    (s.hw.mywi.sess[ses]).txn = none → s.hw.mywi.lockAt[transOf ses] = none →
    Completes (.mywiAuthAccount ses [n, name, role]) s (fun k =>
      ∃ w, k.eff ⟨.mywiAccount, i, 0⟩ = .str (name ++ "," ++ role ++ "," ++ w))) ∧
  (∀ (s : State) (ses : Fin 11), Ready s ses 1 →
    Completes (.mywiQuit ses) s (fun k =>
      (k.mywi.sess[ses]).role = 0 ∧ (k.mywi.sess[ses]).openS = decide (ses.val < 3) ∧ k.sett = s.hw.sett))

/-- Sessions begin and end, and locks expire (R150, R152, R155, R161, R163). The model's own choices it rests on:
notes/assumptions entries 24, 29, 67. -/
def Obligations.MywiSessionEventsComplete : Prop :=
  (∀ (s : State) (ses : Fin 11), s.hw.mywi.openM = true → (s.hw.mywi.sess[ses]).openS = false →
    (ses.val < 3 ∨ s.hw.mgmtOpen = true) →
    Completes (.sessionStart ses) s (fun k =>
      (k.mywi.sess[ses]).openS = true ∧ (k.mywi.sess[ses]).role = 0 ∧ (k.mywi.sess[ses]).prompt = true ∧
      (k.mywi.sess[ses]).echo = decide (ses = 0) ∧ (k.mywi.sess[ses]).check = 0)) ∧
  (∀ (s : State) (ses : Fin 11), (s.hw.mywi.sess[ses]).openS = true →
    (s.hw.mywi.sess[ses]).lastLine + psAu (s.hw.effN .mywiIdle) ≤ s.hw.time.up →
    Completes (.mywiIdle ses) s (fun k =>
      (k.mywi.sess[ses]).role = 0 ∧ (k.mywi.sess[ses]).txn = none ∧
      (k.mywi.sess[ses]).openS = decide (ses.val < 3))) ∧
  (∀ (s : State) (t : Fin 4) (a : Nat), s.hw.mywi.lockAt[t] = some a → a + psAu 60000000000000 ≤ s.hw.time.up →
    Completes (.authLockExpiry t) s (fun k =>
      k = { s.hw with mywi := { s.hw.mywi with lockAt := s.hw.mywi.lockAt.set t none } })) ∧
  (∀ (s : State) (i : Fin 11), 3 ≤ i.val → (s.hw.mywi.sess[i]).openS = false →
    (∀ j : Fin 11, 3 ≤ j.val → j < i → (s.hw.mywi.sess[j]).openS = true) →
    Completes (.mgmtConnect true) s (fun k =>
      (s.hw.mgmtOpen = true → (k.mywi.sess[i]).openS = true ∧ (k.mywi.sess[i]).role = 0) ∧
      (s.hw.mgmtOpen = false → k = s.hw))) ∧
  (∀ (s : State) (ses : Fin 11), 3 ≤ ses.val → (s.hw.mywi.sess[ses]).openS = true →
    Completes (.mgmtConnectionDrop ses) s (fun k => k.mywi.sess[ses] = {} ∧ k.sett = s.hw.sett)) ∧
  (∀ (s : State) (ses : Fin 11), 3 ≤ ses.val → (s.hw.mywi.sess[ses]).openS = true → (s.hw.mywi.sess[ses]).out ≠ [] →
    Completes (.mgmtOutputBlocked ses) s (fun k => k.mywi.sess[ses] = {} ∧ k.sett = s.hw.sett))

/-- The bytes of the transports (R134, R156 to R160, R162, R164): what each puts into a session's input buffer or takes
from its output. The model's own choices it rests on: notes/assumptions entries 27, 28. -/
def Obligations.MywiTransportCommandsComplete : Prop :=
  (∀ s : State, s.hw.mywi.openM = true → (s.hw.mywi.sess[(0 : Fin 11)]).openS = true →
    Completes (.con0CharacterReceived 0x0A false) s (fun k =>
      (k.mywi.sess[(0 : Fin 11)]).inBuf = (s.hw.mywi.sess[(0 : Fin 11)]).inBuf ++ [.byte 0x0A] ∧
      (k.mywi.sess[(0 : Fin 11)]).skip = false)) ∧
  (∀ (s : State) (b : Byte), s.hw.mywi.openM = true → (s.hw.mywi.sess[(0 : Fin 11)]).openS = true → b ≠ 0x0A →
    b ≠ 0x08 → b ≠ 0x7F → (s.hw.mywi.sess[(0 : Fin 11)]).skip = false →
    (s.hw.mywi.sess[(0 : Fin 11)]).inUsed < inSize → (s.hw.mywi.sess[(0 : Fin 11)]).partialItems.length < 1023 →
    Completes (.con0CharacterReceived b false) s (fun k =>
      (k.mywi.sess[(0 : Fin 11)]).inBuf = (s.hw.mywi.sess[(0 : Fin 11)]).inBuf ++ [.byte b])) ∧
  (∀ s : State, Completes .con0Break s (fun k =>
      (k.mywi.sess[(0 : Fin 11)]).skip = false ∧ (k.mywi.sess[(0 : Fin 11)]).out = (s.hw.mywi.sess[(0 : Fin 11)]).out ∧
      (k.mywi.sess[(0 : Fin 11)]).inBuf = (s.hw.mywi.sess[(0 : Fin 11)]).inBuf.take
        ((s.hw.mywi.sess[(0 : Fin 11)]).inBuf.length - (s.hw.mywi.sess[(0 : Fin 11)]).partialItems.length))) ∧
  (∀ (s : State) (ses : Fin 11) (n : Nat), ses ≠ 1 → ses ≠ 2 → (s.hw.mywi.sess[ses]).queue = [] →
    Completes (.outputBufferDrain ses n) s (fun k =>
      (k.mywi.sess[ses]).out = (s.hw.mywi.sess[ses]).out.drop n)) ∧
  (∀ (s : State) (data : List Byte), s.hw.mywi.hspiRdy = true → 1 ≤ data.length → data.length ≤ 1024 →
    s.hw.mywi.openM = true → (s.hw.mywi.sess[(1 : Fin 11)]).openS = true → (s.hw.mywi.sess[(1 : Fin 11)]).skip = false →
    (s.hw.mywi.sess[(1 : Fin 11)]).echo = false → (0x0A : Byte) ∉ data →
    (s.hw.mywi.sess[(1 : Fin 11)]).inUsed + data.length ≤ inSize →
    (s.hw.mywi.sess[(1 : Fin 11)]).partialItems.length + data.length ≤ 1023 →
    Completes (.hspiWrite data) s (fun k =>
      (k.mywi.sess[(1 : Fin 11)]).inBuf = (s.hw.mywi.sess[(1 : Fin 11)]).inBuf ++ data.map InItem.byte)) ∧
  (∀ (s : State) (n : Nat), s.hw.mywi.hspiRdy = true → 1 ≤ n → n ≤ 1024 →
    Completes (.hspiRead n) s (fun k =>
      k.mywi.miso = padTo n (((s.hw.mywi.sess[(1 : Fin 11)]).out.take n).map (fun (c : Char) => BitVec.ofNat 8 c.toNat)))) ∧
  (∀ s : State, s.hw.mywi.hspiRdy = true →
    Completes .hspiStatus s (fun k =>
      k.mywi.miso = beBytes 2 (inSize - (s.hw.mywi.sess[(1 : Fin 11)]).inUsed) ++
        beBytes 2 (min 65535 (s.hw.mywi.sess[(1 : Fin 11)]).out.length))) ∧
  (∀ (s : State) (v : Word), s.hw.sys.d3hot = false → s.hw.domUp .keep = true → s.hw.mywi.mbxResetBusy = false →
    v.toNat % 4 = 0 → (v - s.hw.mywi.mbxInCons).toNat ≤ 4096 →
    Completes (.mbxInProdWrite v) s (fun k => k.mywi.mbxInProd = v)) ∧
  (∀ s : State, s.hw.domUp .keep = true →
    Completes .mbxReset s (fun k =>
      k.mywi.mbxInProd = 0 ∧ k.mywi.mbxInCons = 0 ∧ k.mywi.mbxOutProd = 0 ∧ k.mywi.mbxOutCons = 0 ∧
      k.mywi.sess[(2 : Fin 11)] = {} ∧ k.mywi.mbxResetBusy = false)) ∧
  (∀ (s : State) (ses : Fin 11) (rest : List InItem), Ready s ses 1 → (s.hw.mywi.sess[ses]).check = 0 →
    (s.hw.mywi.sess[ses]).inBuf = textItems "list" ++ [.byte 0x0A] ++ rest →
    Completes (.mywiLine ses) s (fun k => Answered s.hw k ses (stems.map (fun n => "node=" ++ n)) 0))

/-- `begin`, `commit` and `abort`, the epoch and the ordered items (R461 to R466). The model's own choices it rests on:
notes/assumptions entries 19, 69. -/
def Obligations.TransactionCommandsComplete : Prop :=
  (∀ (s : State) (ses : Fin 11), Ready s ses 2 → (s.hw.mywi.sess[ses]).txn = none →
    Completes (.txnBegin ses) s (fun k => (k.mywi.sess[ses]).txn = some [] ∧ Answered s.hw k ses [] 0)) ∧
  (∀ (s : State) (ses : Fin 11), Ready s ses 2 →
    Completes (.txnAbort ses) s (fun k =>
      (k.mywi.sess[ses]).txn = none ∧ k.sett = s.hw.sett ∧ Answered s.hw k ses [] 0)) ∧
  (∀ (s : State) (ses : Fin 11) (l : List (Key × SVal)) (b : List String), Ready s ses 2 →
    (s.hw.mywi.sess[ses]).txn = some l →
    (s.hw.lined ses).commitTest (s.hw.time.axis + 100 * auPerUs) l = (0, b) →
    Completes (.txnCommit ses []) s (fun k =>
      (k.mywi.sess[ses]).waiting = true ∧ (k.mywi.sess[ses]).txn = none ∧ k.txn.commit.isSome = true ∧
      k.mywi.lines = s.hw.mywi.lines ∧ (k.note.evt[(3 : Fin 28)]).getLsbD 1 = true)) ∧
  (∀ (s : State) (c : Commit), s.hw.txn.commit = some c → c.window = false → c.t ≤ s.hw.time.axis → c.itemsB ≠ [] →
    Completes .txnEpoch s (fun k =>
      k.txn.commit = some { c with window := true, bankDone := decide (c.itemsA ≠ []) })) ∧
  (∀ (s : State) (c : Commit), s.hw.txn.commit = some c → c.window = false → c.t ≤ s.hw.time.axis → c.itemsB = [] →
    Completes .txnEpoch s (fun k => k.txn.lastT = c.t ∧ (k.note.evt[(3 : Fin 28)]).getLsbD 0 = true)) ∧
  (∀ (s : State) (c : Commit) (x : Key) (v : SVal) (r : List (Key × SVal)), s.hw.txn.commit = some c → c.window = true →
    c.itemsB = (x, v) :: r → x.p.row.cls ≠ .b4 → r ≠ [] →
    Completes .classBItemApply s (fun k => ∃ d, k.txn.commit = some d ∧ d.itemsB = r ∧ d.t = c.t)) ∧
  (∀ (s : State) (c : Commit) (x : Key) (v : SVal), s.hw.txn.commit = some c → c.window = true →
    c.itemsB = [(x, v)] → x.p.row.cls ≠ .b4 →
    Completes .classBItemApply s (fun k => k.txn.lastT = c.t ∧ (k.note.evt[(3 : Fin 28)]).getLsbD 0 = true))

/-- The verbs that act on the engine as a whole (R39, R96, R265, R442, R468): the restart, the mode change or the sleep
entry they start once `.ok` is sent. The model's own choices it rests on: notes/assumptions entry 26. -/
def Obligations.EngineVerbsComplete : Prop :=
  (∀ (s : State) (ses : Fin 11) (v : String) (n : Nat), Ready s ses PathId.systemMode.row.role →
    parseValue PathId.systemMode.row.vt v = .ok (.nat n) → (s.hw.mywi.sess[ses]).txn = none →
    s.hw.restartBusy = false → s.hw.freeSlots ≠ 0 → s.hw.conflictPaths (n + 1) = [] →
    Completes (.setSystemMode ses v) s (fun k =>
      (∃ r, k.sys.restart = some r ∧ r.kind = .mode ∧ r.newMode = n + 1 ∧ r.phase = .draining ∧
        r.oldMode = s.hw.sys.runMode) ∧
      k.sys.changing = true ∧ k.mywi.openM = false ∧ k.sealU.busy = true ∧ k.sett = s.hw.sett)) ∧
  (∀ (s : State) (ses : Fin 11) (p : Fin 4) (v : String) (m : Nat), Ready s ses PathId.portPMode.row.role →
    (s.hw.mywi.sess[ses]).txn = none →
    (s.hw.lined ses).place false ("port.p" ++ toString p.val ++ ".mode") = .leaf ⟨.portPMode, p, 0⟩ →
    parseValue PathId.portPMode.row.vt v = .ok (.nat m) →
    ((s.hw.lined ses).overlay ⟨.portPMode, p, 0⟩ (.nat m)).violates ⟨.portPMode, p, 0⟩ = false →
    (s.hw.lined ses).stateTest ⟨.portPMode, p, 0⟩ (.nat m) = 0 → (s.hw.lined ses).shown ⟨.portPMode, p, 0⟩ ≠ .nat m →
    Completes (.setPortMode ses p v) s (fun k =>
      (k.port.p[p]).mode = m ∧ (k.port.p[p]).change = some (m, s.hw.time.up) ∧ k.effN .portPMode p = m)) ∧
  (∀ (s : State) (ses : Fin 11), Ready s ses 2 → (s.hw.mywi.sess[ses]).txn = none → s.hw.restartBusy = false →
    Completes (.restartWarm ses) s (fun k =>
      (∃ r, k.sys.restart = some r ∧ r.kind = .warm ∧ r.newMode = s.hw.sys.runMode ∧ r.phase = .draining) ∧
      k.mywi.openM = false ∧ k.sealU.busy = true ∧ k.time = s.hw.time)) ∧
  (∀ (s : State) (ses : Fin 11), Ready s ses 3 → (s.hw.mywi.sess[ses]).txn = none → s.hw.restartBusy = false →
    s.hw.sys.aonUp = true → s.hw.sealU.next ≤ s.hw.sealU.ack →
    Completes (.restartCold ses) s (fun k =>
      k.sys.coldSrc = 3 ∧ k.sys.stage = 0 ∧ k.time = {} ∧ k.store = [] ∧ k.sealU.keys = s.hw.sealU.keys)) ∧
  (∀ (s : State) (ses : Fin 11), Ready s ses 3 → (s.hw.mywi.sess[ses]).txn = none → s.hw.restartBusy = false →
    s.hw.sys.aonUp = true →
    Completes (.restartColdForce ses) s (fun k =>
      k.sys.coldSrc = 3 ∧ k.sys.stage = 0 ∧ k.time = {} ∧ k.store = [] ∧ k.sealU.keys = s.hw.sealU.keys)) ∧
  (∀ (s : State) (ses : Fin 11), Ready s ses 2 → (s.hw.mywi.sess[ses]).txn = none → s.hw.restartBusy = false →
    s.hw.img.write = none → Completes (.restartWarden ses) s (fun k =>
      k.mywi.openM = true ∧ k.time = s.hw.time ∧ k.sett = s.hw.sett ∧ ∀ i : Fin 11, (k.mywi.sess[i]).role = 0)) ∧
  (∀ (s : State) (ses : Fin 11), Ready s ses 3 → (s.hw.mywi.sess[ses]).txn = none → s.hw.restartBusy = false →
    s.hw.awake = true → s.hw.sealU.next ≤ s.hw.sealU.ack →
    Completes (.powerOff ses) s (fun k => k.pwr.entering = some .off)) ∧
  (∀ (s : State) (ses : Fin 11), Ready s ses 3 → (s.hw.mywi.sess[ses]).txn = none → s.hw.restartBusy = false →
    s.hw.awake = true →
    Completes (.powerOffForce ses) s (fun k => k.pwr.entering = some .off))

/-- The block resets (R97, R290, R400), by `reset` of a session and by GLOBAL_BLOCK_RST: a reset that passes its tests
begins. The model's own choices it rests on: notes/assumptions entry 59. -/
def Obligations.BlockResetCommandsComplete : Prop :=
  (∀ (s : State) (ses : Fin 11), Ready s ses 2 → (s.hw.mywi.sess[ses]).txn = none →
    (∀ p : Fin 4, s.hw.resetTest (.port p) = 0 →
      Completes (.blockResetPort (some ses) p) s (fun k => k.sys.inReset = s.hw.sys.inReset ++ [RstBlock.port p])) ∧
    (∀ g : Fin 4, s.hw.resetTest (.group g) = 0 →
      Completes (.blockResetProngGroup (some ses) g) s (fun k => k.sys.inReset = s.hw.sys.inReset ++ [RstBlock.group g])) ∧
    (∀ n : Fin 4, s.hw.resetTest (.lat n) = 0 →
      Completes (.blockResetLat (some ses) n) s (fun k => k.sys.inReset = s.hw.sys.inReset ++ [RstBlock.lat n])) ∧
    (∀ n : Fin 2, s.hw.resetTest (.deck n) = 0 →
      Completes (.blockResetDeck (some ses) n) s (fun k => k.sys.inReset = s.hw.sys.inReset ++ [RstBlock.deck n])) ∧
    (s.hw.resetTest .ibex = 0 →
      Completes (.blockResetIbex (some ses)) s (fun k => k.sys.inReset = s.hw.sys.inReset ++ [RstBlock.ibex])) ∧
    (s.hw.resetTest .dma = 0 →
      Completes (.blockResetDma (some ses)) s (fun k => k.sys.inReset = s.hw.sys.inReset ++ [RstBlock.dma])) ∧
    (s.hw.resetTest .tally = 0 →
      Completes (.blockResetTally (some ses)) s (fun k => k.sys.inReset = s.hw.sys.inReset ++ [RstBlock.tally]))) ∧
  (∀ s : State, s.hw.sys.d3hot = false → s.hw.domUp .keep = true →
    (∀ p : Fin 4, s.hw.resetTest (.port p) = 0 →
      Completes (.blockResetPort none p) s (fun k => k.sys.inReset = s.hw.sys.inReset ++ [RstBlock.port p])) ∧
    (∀ g : Fin 4, s.hw.resetTest (.group g) = 0 →
      Completes (.blockResetProngGroup none g) s (fun k => k.sys.inReset = s.hw.sys.inReset ++ [RstBlock.group g])) ∧
    (∀ n : Fin 4, s.hw.resetTest (.lat n) = 0 →
      Completes (.blockResetLat none n) s (fun k => k.sys.inReset = s.hw.sys.inReset ++ [RstBlock.lat n])) ∧
    (∀ n : Fin 2, s.hw.resetTest (.deck n) = 0 →
      Completes (.blockResetDeck none n) s (fun k => k.sys.inReset = s.hw.sys.inReset ++ [RstBlock.deck n])) ∧
    (s.hw.resetTest .ibex = 0 →
      Completes (.blockResetIbex none) s (fun k => k.sys.inReset = s.hw.sys.inReset ++ [RstBlock.ibex])) ∧
    (s.hw.resetTest .dma = 0 →
      Completes (.blockResetDma none) s (fun k => k.sys.inReset = s.hw.sys.inReset ++ [RstBlock.dma])) ∧
    (s.hw.resetTest .tally = 0 →
      Completes (.blockResetTally none) s (fun k => k.sys.inReset = s.hw.sys.inReset ++ [RstBlock.tally])))

/-- The image commands (R120, R121, R129 to R131, R479). The model's own choices it rests on: notes/assumptions entries 5,
52, 53. -/
def Obligations.ImageCommandsComplete : Prop :=
  (∀ (s : State) (ses : Fin 11) (o n : String) (off len : Nat), Ready s ses 3 → (s.hw.mywi.sess[ses]).txn = none →
    imageLength n = .ok len → argNat 0x180000000 0x1FFFFFFFF o = .ok off → off + len ≤ 0x200000000 →
    s.hw.imageBusy = false → s.hw.img.nextGen < 0xFFFFFFFF →
    Completes (.imageWriteStore ses [o, n]) s (fun k =>
      ∃ w, k.img.write = some w ∧ w.store = some off ∧ w.len = len ∧ w.slot = s.hw.inactiveSlot)) ∧
  (∀ (s : State) (ses : Fin 11) (n : String) (len : Nat), Ready s ses 3 → (s.hw.mywi.sess[ses]).txn = none →
    imageLength n = .ok len → (s.hw.mywi.sess[ses]).img = none → s.hw.imageBusy = false → s.hw.img.nextGen < 0xFFFFFFFF →
    Completes (.imageWriteBegin ses [n]) s (fun k => (k.mywi.sess[ses]).img = some { len := len } ∧ k.img = s.hw.img)) ∧
  (∀ (s : State) (ses : Fin 11) (o t : String) (off : Nat) (l : List Byte) (g : ImgStage), Ready s ses 3 →
    (s.hw.mywi.sess[ses]).txn = none → natural? o.toList = some off → base64? t.toList = some l → l.length ≤ 576 →
    (s.hw.mywi.sess[ses]).img = some g → off + l.length ≤ g.len →
    Completes (.imageChunk ses [o, t]) s (fun k => (k.mywi.sess[ses]).img = some (g.put off l))) ∧
  (∀ (s : State) (ses : Fin 11) (g : ImgStage), Ready s ses 3 → (s.hw.mywi.sess[ses]).txn = none →
    (s.hw.mywi.sess[ses]).img = some g → g.len ≤ 4194304 → s.hw.imageBusy = false → s.hw.img.nextGen < 0xFFFFFFFF →
    Completes (.imageWriteEnd ses) s (fun k =>
      (k.mywi.sess[ses]).img = none ∧ ∃ w, k.img.write = some w ∧ w.store = none ∧ w.bytes = g.image ∧ w.len = g.len)) ∧
  (∀ (s : State) (ok : Bool) (w : SlotWrite), s.hw.img.write = some w →
    Completes (.imageWriteDone ok) s (fun k => k.img.write = none ∧ (ok = false → k.latched 13 = true))) ∧
  (∀ (s : State) (ses : Fin 11) (x : Fin 2), Ready s ses 3 → (s.hw.mywi.sess[ses]).txn = none → s.hw.imageBusy = false →
    s.hw.img.staged = some x → s.hw.freeSlots ≠ 0 →
    Completes (.imageActivate ses []) s (fun k =>
      (s.hw.img.check x 6 = 0 →
        (∃ r, k.sys.restart = some r ∧ r.kind = .activation ∧ r.phase = .draining) ∧ k.mywi.openM = false) ∧
      (s.hw.img.check x 6 ≠ 0 → k.img = s.hw.img ∧ Answered s.hw k ses [] 410))) ∧
  (∀ (s : State) (ses : Fin 11) (j : Fin 4), Ready s ses 3 → (s.hw.mywi.sess[ses]).txn = none → s.hw.imageBusy = false →
    s.hw.freeSlots ≠ 0 → s.hw.img.owners[j] = none →
    (∀ i : Fin 4, i < j → s.hw.img.owners[i] ≠ none) →
    Completes (.imageOwnerEnroll ses ["a"]) s (fun k =>
      (s.hw.img.check 0 4 = 0 → k.img.owners[j] = some (s.hw.img.ownerHash 0)) ∧
      (s.hw.img.check 0 4 ≠ 0 → k.img = s.hw.img ∧ Answered s.hw k ses [] 410))) ∧
  (∀ (s : State) (ses : Fin 11) (x : String) (j i : Fin 4) (v : BitVec 256), Ready s ses 3 →
    (s.hw.mywi.sess[ses]).txn = none → argNat 0 3 x = .ok j.val → s.hw.imageBusy = false → s.hw.freeSlots ≠ 0 →
    s.hw.img.owners[j] = some v → i ≠ j → s.hw.img.owners[i] ≠ none → s.hw.img.ownerRevoked.getLsbD i = false →
    Completes (.imageOwnerRevoke ses [x]) s (fun k =>
      k.img.ownerRevoked = s.hw.img.ownerRevoked ||| (1#4 <<< j.val) ∧ k.img.owners = s.hw.img.owners)) ∧
  (∀ (s : State) (ses : Fin 11) (x : Fin 2), Ready s ses 3 → (s.hw.mywi.sess[ses]).txn = none → s.hw.imageBusy = false →
    s.hw.slotUsed = some x → s.hw.freeSlots ≠ 0 →
    Completes (.imageRollbackCommit ses) s (fun k =>
      k.img.rollback = max s.hw.img.rollback (s.hw.img.num x 0x28 4)))

/-- FAULT_CLEAR and FLUSH_CLASS (R286, R493): latches of events clear, a persisting fault whose condition holds latches
again, and the entries of a class leave every cache. The model's own choices it rests on: notes/assumptions entries 7,
20. -/
def Obligations.ClearingCommandsComplete : Prop :=
  (∀ (s : State) (ses : Fin 11) (m : BitVec 24) (i : Fin 24), Ready s ses 2 → m.getLsbD i = true →
    Completes (.faultClear (some ses) m) s (fun k =>
      (s.hw.faultHolds i = false → k.latched i = false) ∧
      (s.hw.latched i = true → faultKind i = "S" → s.hw.faultHolds i = true → k.latched i = true) ∧
      Answered s.hw k ses [] 0)) ∧
  (∀ (s : State) (m : BitVec 24) (i : Fin 24), s.hw.sys.d3hot = false → s.hw.domUp .keep = true → m.getLsbD i = true →
    s.hw.faultHolds i = false →
    Completes (.faultClear none m) s (fun k => k.latched i = false)) ∧
  (∀ (s : State) (ses : Fin 11) (c : Fin 64), Ready s ses 2 →
    Completes (.flushClass (some ses) c) s (fun k =>
      ∀ (q : Fin 16), (k.prong.pipes[q]).cache = (s.hw.prong.pipes[q]).cache.filter (fun e => decide (e.cls ≠ c.val)))) ∧
  (∀ (s : State) (c : Fin 64), s.hw.sys.d3hot = false → s.hw.domUp .pipe = true →
    Completes (.flushClass none c) s (fun k =>
      ∀ (q : Fin 16), (k.prong.pipes[q]).cache = (s.hw.prong.pipes[q]).cache.filter (fun e => decide (e.cls ≠ c.val)))) ∧
  (∀ (s : State) (ses : Fin 11), Ready s ses 2 →
    Completes (.flushClassAll (some ses)) s (fun k => ∀ (q : Fin 16), (k.prong.pipes[q]).cache = [])) ∧
  (∀ s : State, s.hw.sys.d3hot = false → s.hw.domUp .pipe = true →
    Completes (.flushClassAll none) s (fun k => ∀ (q : Fin 16), (k.prong.pipes[q]).cache = []))

/-! ## References and outputs (chapters 8 and 10) -/

/-- The commands of the reference inputs (R166 to R172, R176): what an edge, a sentence, a message and the ends of the
hold-off and of the wait-to-restore leave. The model's own choices it rests on: notes/assumptions entry 32. -/
def Obligations.ReferenceCommandsComplete : Prop :=
  (∀ (s : State) (i : Fin 4) (sub : Nat), s.hw.refOn (gnssIn i) = true → s.hw.time.clockOn = true →
    s.hw.effN .refGnssLabel i ≠ 1 →
    Completes (.gnssPpsEdge i sub) s (fun k =>
      (k.ref.ins[gnssIn i]).edge = some (s.hw.time.up + sub, s.hw.time.axis + sub) ∧ k.time = s.hw.time)) ∧
  (∀ (s : State) (i : Fin 4) (text : List Byte), s.hw.sys.released = true →
    nmeaFields? (text.map (fun b => Char.ofNat b.toNat)) = none →
    Completes (.nmeaSentence i text) s (fun k =>
      (k.ref.ins[gnssIn i]).nmeaErr = incSat (s.hw.ref.ins[gnssIn i]).nmeaErr ∧
      (k.ref.ins[gnssIn i]).lastMsg = (s.hw.ref.ins[gnssIn i]).lastMsg ∧ k.note = s.hw.note)) ∧
  (∀ (s : State) (i : Fin 4) (text : List Byte) (f : List (List Char)) (u : Nat), s.hw.sys.released = true →
    nmeaFields? (text.map (fun b => Char.ofNat b.toNat)) = some f → nmeaMsg f = .time u →
    s.hw.effN .refGnssLabel i = 1 →
    Completes (.nmeaSentence i text) s (fun k =>
      (k.ref.ins[gnssIn i]).lastMsg = some s.hw.time.up ∧ (k.ref.ins[gnssIn i]).label = some (u, s.hw.time.up))) ∧
  (∀ (s : State) (i : Fin 2), s.hw.refOn (atomIn i) = true → s.hw.time.clockOn = true →
    Completes (.atomEdge i (.fref none)) s (fun k => (k.ref.ins[atomIn i]).frefOk = false)) ∧
  (∀ (s : State) (i : Fin 2) (lvl : Bool), s.hw.refOn (atomIn i) = true → s.hw.time.clockOn = true →
    Completes (.atomEdge i (.alock lvl)) s (fun k =>
      (k.ref.ins[atomIn i]).alock = (lvl == decide (s.hw.effN .refAtomLockPol i = 0)))) ∧
  (∀ (s : State) (p : Fin 4) (ssm : Nat) (ext : Option Nat), s.hw.sys.released = true →
    Completes (.esmcPdu p ssm ext) s (fun k =>
      (k.ref.ins[synceIn p]).mapped = (esmcMap (s.hw.effB .refSynceOption p) ssm ext).1 ∧
      (k.ref.ins[synceIn p]).fRate = (esmcMap (s.hw.effB .refSynceOption p) ssm ext).2 ∧
      (k.ref.ins[synceIn p]).lastMsg = some s.hw.time.up)) ∧
  (∀ (s : State) (p : Fin 4), s.hw.sys.released = true → s.hw.time.clockOn = true →
    Completes (.ptpClientMessage p .sync) s (fun k =>
      (k.ref.ins[ptpIn p]).lastSync = some s.hw.time.up ∧ k.note = s.hw.note ∧ k.time = s.hw.time)) ∧
  (∀ (s : State) (i : Fin 20) (c : DownCause), (s.hw.ref.ins[i]).st = .candidate → s.hw.downCause i = some c →
    c ≠ .disabled →
    Completes (.refDown i) s (fun k =>
      (k.ref.ins[i]).st = .holdoff ∧ (k.ref.ins[i]).hold = some (s.hw.time.up, c) ∧
      (k.ref.ins[i]).tql = (s.hw.ref.ins[i]).tql ∧ k.ref.sel = s.hw.ref.sel ∧ k.note = s.hw.note)) ∧
  (∀ (s : State) (i : Fin 20) (x : Nat × DownCause), (s.hw.ref.ins[i]).st = .holdoff → (s.hw.ref.ins[i]).hold = some x →
    s.hw.passed x.1 (s.hw.effN .refInHoldoff i) = true → s.hw.downCause i = none →
    Completes (.holdOffExpiry i) s (fun k =>
      (k.ref.ins[i]).st = .candidate ∧ (k.ref.ins[i]).hold = none ∧ k.ref.sel = s.hw.ref.sel ∧ k.note = s.hw.note)) ∧
  (∀ (s : State) (i : Fin 20), (s.hw.ref.ins[i]).st = .wtr →
    s.hw.passedO (s.hw.ref.ins[i]).wtrAt (s.hw.effN .refInWtr i) = true → s.hw.qualified i = true →
    1 ≤ (s.hw.ref.ins[i]).mapped → s.hw.kindAllowed i = true →
    Completes (.waitToRestoreExpiry i) s (fun k =>
      (k.ref.ins[i]).st = .candidate ∧ (k.ref.ins[i]).tql = (s.hw.ref.ins[i]).mapped ∧
      (k.note.evt[(6 : Fin 28)]).getLsbD 0 = true)) ∧
  (∀ (s : State) (synce : List (Option Int)), s.hw.time.clockOn = true → s.hw.sys.released = true → s.hw.atHalf = true →
    Completes (.crossCheck synce) s (fun k =>
      (∀ i, k.ref.sel = some i → k.isCand i = true) ∧ k.time.axis = s.hw.time.axis))

/-- The commands of the outputs (R203 to R217): a pulse at its scheduled instant, an alignment edge and its absence, a
clock edge, a measured pad delay and the next IRIG-B frame. The model's own choices it rests on: notes/assumptions
entries 34, 35. -/
def Obligations.OutputCommandsComplete : Prop :=
  (∀ (s : State) (n : Fin 4), s.hw.outputsRun = true → s.hw.effB .outOEnable (8 + n.val) = true →
    (s.hw.out.pulse[n]).changeAt = none → (s.hw.out.pulse[n]).last = none →
    s.hw.pulseNext n s.hw.time.axis < s.hw.time.axis + auPerTick →
    s.hw.squelchedAt (8 + n.val) (s.hw.pulseNext n s.hw.time.axis) (s.hw.out.pulse[n]).measured = false →
    Completes (.pulseInstant n) s (fun k =>
      (k.out.pulse[n]).last = some (s.hw.pulseNext n s.hw.time.axis) ∧
      (k.out.pulse[n]).until_ = some (s.hw.pulseNext n s.hw.time.axis + psAu (s.hw.out.pulse[n]).cfg.width) ∧
      (k.out.pulse[n]).squelched = false ∧ ∀ m : Fin 4, m ≠ n → k.out.pulse[m] = s.hw.out.pulse[m])) ∧
  (∀ (s : State) (n : Fin 4) (sub : Nat), s.hw.outputsRun = true → s.hw.effB .outOEnable (8 + n.val) = true →
    (s.hw.out.pulse[n]).changeAt = none → s.hw.alignable (s.hw.out.pulse[n]).cfg = true →
    Completes (.alignEdge n sub) s (fun k =>
      (k.out.pulse[n]).taken = true ∧ (k.out.pulse[n]).hold = false ∧ (k.out.pulse[n]).edgeAt = some s.hw.time.up ∧
      (k.out.pulse[n]).phi =
        phaseGap (s.hw.out.pulse[n]).cfg.period (((s.hw.time.axis + sub) / auPerPs : Nat) : Int) 0)) ∧
  (∀ (s : State) (n : Fin 4) (t : Nat), s.hw.outputsRun = true → s.hw.effB .outOEnable (8 + n.val) = true →
    (s.hw.out.pulse[n]).cfg.align ≠ 0 → (s.hw.out.pulse[n]).hold = false → (s.hw.out.pulse[n]).edgeAt = some t →
    s.hw.passed t 3000000000000 = true →
    Completes (.alignHold n) s (fun k =>
      k.out.pulse[n] = { s.hw.out.pulse[n] with hold := true } ∧ (k.note.evt[(8 : Fin 28)]).getLsbD 1 = true)) ∧
  (∀ (s : State) (n : Fin 8), s.hw.outputsRun = true → s.hw.effB .outOEnable n = true →
    (s.hw.out.clk[n]).changeAt = none → clkNext (s.hw.out.clk[n]).cfg s.hw.time.axis < s.hw.time.axis + auPerTick →
    ((s.hw.out.clk[n]).last.all (fun l =>
      decide (l + clkPeriod (s.hw.out.clk[n]).cfg ≤ clkNext (s.hw.out.clk[n]).cfg s.hw.time.axis))) = true →
    s.hw.squelchedAt n (clkNext (s.hw.out.clk[n]).cfg s.hw.time.axis) (s.hw.out.clk[n]).measured = false →
    Completes (.clkoutRisingEdge n) s (fun k =>
      k.out.clk[n] = { s.hw.out.clk[n] with
        squelched := false, last := some (clkNext (s.hw.out.clk[n]).cfg s.hw.time.axis) })) ∧
  (∀ (s : State) (n : Fin 8) (pad : Nat), s.hw.outputsRun = true → s.hw.effB .outOEnable n = true → 100 ≤ pad →
    pad ≤ 3000 →
    Completes (.skewCalibration ⟨n.val, by omega⟩ pad) s (fun k =>
      (k.out.clk[n]).measured = true ∧ (k.out.clk[n]).calOk = true ∧
      ((k.out.clk[n]).corr - (s.hw.out.clk[n]).corr).natAbs ≤ 10 ∧ k.note = s.hw.note)) ∧
  (∀ (s : State) (n : Fin 4) (pad : Nat), s.hw.outputsRun = true → s.hw.effB .outOEnable (8 + n.val) = true →
    (pad < 100 ∨ 3000 < pad) →
    Completes (.skewCalibration ⟨8 + n.val, by omega⟩ pad) s (fun k =>
      (k.out.pulse[n]).measured = true ∧ (k.out.pulse[n]).calOk = false ∧
      (k.out.pulse[n]).corr = (s.hw.out.pulse[n]).corr ∧ k.latched 5 = true)) ∧
  (∀ s : State, s.hw.outputsRun = true → s.hw.effB .outOEnable 12 = true →
    Completes .irigbFrameBuild s (fun k =>
      k.out.frame.length = 100 ∧
      k.out.irigSquelched = s.hw.squelchedAt 12 ((s.hw.sec + 1) * auPerSec) true ∧ k.out.pulse = s.hw.out.pulse))

/-! ## The Caliper and the ports (chapters 11 and 12) -/

/-- The commands of the Caliper (R221 to R243): a stamp, an interval and its timeout, a gate's start and end, the DLLs,
the code-density test, and the pop of a record. The model's own choices it rests on: notes/assumptions entry 36. -/
def Obligations.CaliperCommandsComplete : Prop :=
  (∀ (s : State) (c : Fin 40) (falling : Bool) (sub : Nat), s.hw.time.clockOn = true → s.hw.domUp .ref = true →
    (s.hw.cal.ch[c]).changeAt = none → (s.hw.cal.ch[c]).cfg.en = true → (s.hw.cal.ch[c]).cfg.mode = 0 →
    (s.hw.cal.ch[c]).cfg.edge = 2 → (s.hw.cal.ch[c]).cfg.divide ≤ 1 → (s.hw.cal.ch[c]).lastStamp = none →
    ((s.hw.busNow (s.hw.time.axis + sub)).front[c]).length < 4 → (s.hw.cal.ch[c]).queue.length < 4096 →
    Completes (.caliperEdge c falling sub) s (fun k =>
      (k.cal.ch[c]).lastStamp = some (s.hw.time.axis + sub) ∧
      (k.cal.ch[c]).queue.map (fun r => (r.w1, r.w2)) = (s.hw.cal.ch[c]).queue.map (fun r => (r.w1, r.w2)) ++
        [(fld 0 (nsOf (((s.hw.time.axis + sub : Nat) : Int) - (s.hw.cal.ch[c]).cfg.delay * auPerPs).toNat),
          lo32 (secOf (((s.hw.time.axis + sub : Nat) : Int) - (s.hw.cal.ch[c]).cfg.delay * auPerPs).toNat))])) ∧
  (∀ (s : State) (c : Fin 40) (st p : CalStamp), (s.hw.cal.ch[c]).cfg.intervals = true →
    (s.hw.cal.ch[c]).nextStart = some st →
    findStop (s.hw.cal.ch[c]).cfg.signed (psAu (s.hw.effN .calChLookback c)) st.t
      (decide ((s.hw.cal.ch[c]).cfg.stopCh = c))
      ((s.hw.cal.ch[(s.hw.cal.ch[c]).cfg.stopCh]).hist.filter
        (fun y => decide (y.falling = (s.hw.cal.ch[c]).cfg.stopFall))) = some p →
    max st.t p.t + 100 * (auPerNs : Int) ≤ (s.hw.time.axis + auPerTick : Int) →
    p.t ≤ st.t + psAu (s.hw.effN .calChTimeout c) →
    Completes (.intervalPair c) s (fun k => (k.cal.ch[c]).after = some (max st.t p.t))) ∧
  (∀ (s : State) (c : Fin 40) (st : CalStamp), (s.hw.cal.ch[c]).cfg.intervals = true →
    (s.hw.cal.ch[c]).nextStart = some st → (∀ d : Fin 40, (s.hw.cal.ch[d]).hist = []) →
    st.t + psAu (s.hw.effN .calChTimeout c) + 100 * (auPerNs : Int) ≤ (s.hw.time.axis + auPerTick : Int) →
    Completes (.intervalTimeout c) s (fun k =>
      (k.cal.ch[c]).start = none ∧ (k.cal.ch[c]).after = some (st.t + psAu (s.hw.effN .calChTimeout c)))) ∧
  (∀ (s : State) (c : Fin 40), (s.hw.cal.ch[c]).changeAt = none → (s.hw.cal.ch[c]).cfg.en = true →
    (s.hw.cal.ch[c]).cfg.mode = 2 → (s.hw.cal.ch[c]).cfg.gateEvt = false → (s.hw.cal.ch[c]).gate = none →
    0 < psAu (s.hw.cal.ch[c]).cfg.gate → s.hw.time.axis % psAu (s.hw.cal.ch[c]).cfg.gate < auPerTick →
    Completes (.gateStart c) s (fun k =>
      (k.cal.ch[c]).gate =
        some { t0 := (s.hw.time.axis / psAu (s.hw.cal.ch[c]).cfg.gate * psAu (s.hw.cal.ch[c]).cfg.gate : Nat) } ∧
      k.note = s.hw.note)) ∧
  (∀ (s : State) (c : Fin 40) (g : CalGate), (s.hw.cal.ch[c]).gate = some g →
    g.t0 + psAu (s.hw.cal.ch[c]).cfg.gate ≤ (s.hw.time.axis + auPerTick : Int) →
    Completes (.gateEnd c) s (fun k =>
      (k.cal.ch[c]).gate = none ∧ (k.cal.ch[c]).seq = ((s.hw.cal.ch[c]).seq + 1) % 32768)) ∧
  (∀ (s : State) (i : Fin 4), s.hw.cal.dll[i] = true →
    Completes (.calDll i) s (fun k =>
      k.cal.dll[i] = false ∧ k.latched 6 = true ∧ (k.note.evt[(9 : Fin 28)]).getLsbD 0 = true)) ∧
  (∀ (s : State) (i : Fin 4), s.hw.time.clockOn = true → s.hw.domUp .ref = true →
    Completes (.dllRelock i) s (fun k => k = { s.hw with cal := { s.hw.cal with dll := s.hw.cal.dll.set i true } })) ∧
  (∀ (s : State) (c : Fin 40) (hits : List Nat), s.hw.time.clockOn = true → s.hw.domUp .ref = true →
    hits.foldl (· + ·) 0 = 4194304 →
    Completes (.codeDensityTable c hits) s (fun k =>
      k.cal.cdLine = nextLine c ∧
      (cdCheck hits = none →
        k.cal.tables = s.hw.cal.tables.set c (hits.map (fun x => 800000 * x / 4194304)) ∧ k.note = s.hw.note) ∧
      (cdCheck hits ≠ none → k.cal.tables = s.hw.cal.tables ∧ k.latched 7 = true))) ∧
  (∀ (s : State) (c : Fin 40), s.hw.time.clockOn = true → s.hw.domUp .ref = true → s.hw.cal.cdLine = c.val →
    Completes (.cdSlow c) s (fun k =>
      k.cal = { s.hw.cal with cdLine := nextLine c } ∧ (k.note.evt[(9 : Fin 28)]).getLsbD 3 = true)) ∧
  (∀ (s : State) (c : Fin 40), s.hw.sys.d3hot = false → s.hw.domUp .ref = true →
    Completes (.calCdSelWrite c) s (fun k => k.cal.cdSel = c.val ∧ k.cal.cdTab = s.hw.lineTable c)) ∧
  (∀ (s : State) (c : Fin 40) (r : CalRec) (l : List CalRec), s.hw.sys.d3hot = false → s.hw.domUp .ref = true →
    (s.hw.cal.ch[c]).queue = r :: l →
    Completes (.calPop0Read c) s (fun k =>
      (k.cal.ch[c]).queue = l ∧ (k.cal.ch[c]).popped = r ∧ k.sys.rdata = [r.w0])) ∧
  (∀ (s : State) (c : Fin 40), s.hw.sys.d3hot = false → s.hw.domUp .ref = true → (s.hw.cal.ch[c]).queue = [] →
    Completes (.calPop0Read c) s (fun k =>
      (k.cal.ch[c]).queue = [] ∧ (k.cal.ch[c]).popped = CalRec.empty ∧ k.sys.rdata = [CalRec.empty.w0]))

/-- The commands of the ports (R247 to R265): the states of a lane and of a logical port, markers, preemption, a mode
change's end, ESMC and a received frame. The model's own choices it rests on: notes/assumptions entries 37, 38. -/
def Obligations.PortCommandsComplete : Prop :=
  (∀ (s : State) (p k : Fin 4), s.hw.laneUsed p k = true → ((s.hw.port.p[p]).lanes[k]).st = .down →
    Completes (.signalDetect p k) s (fun h =>
      (h.port.p[p]).lanes[k] = { (s.hw.port.p[p]).lanes[k] with st := .signal } ∧
      (h.note.evt[portSrc p]).getLsbD 0 = true)) ∧
  (∀ (s : State) (p k : Fin 4) (skew phase : Nat), s.hw.laneUsed p k = true →
    ((s.hw.port.p[p]).lanes[k]).st = .signal →
    Completes (.linkUp p k skew phase) s (fun h =>
      ((h.port.p[p]).lanes[k]).st = .up ∧ ((h.port.p[p]).lanes[k]).skew = skew ∧
      ((h.port.p[p]).lanes[k]).phase = phase ∧ ((h.port.p[p]).lanes[k]).retries = 0 ∧
      (h.note.evt[portSrc p]).getLsbD 0 = true)) ∧
  (∀ (s : State) (p k : Fin 4), ((s.hw.port.p[p]).lanes[k]).st = .up →
    Completes (.linkDown p k) s (fun h =>
      ((h.port.p[p]).lanes[k]).st = .down ∧ ((h.port.p[p]).lanes[k]).markAt = none ∧
      (h.note.evt[portSrc p]).getLsbD 0 = true)) ∧
  (∀ (s : State) (p k : Fin 4), s.hw.laneUsed p k = true → ((s.hw.port.p[p]).lanes[k]).st ≠ .up →
    Completes (.linkRetry p k) s (fun h =>
      ((h.port.p[p]).lanes[k]).st = .down ∧
      ((h.port.p[p]).lanes[k]).retries = ((s.hw.port.p[p]).lanes[k]).retries + 1)) ∧
  (∀ (s : State) (l : Fin 16), s.hw.domUp .port = true → (s.hw.lp l).ready = false →
    (s.hw.port.p[lpPort l]).lpUp (lpLane l) = true → s.hw.islandOk (rxIsland (lpPort l)) = true →
    s.hw.islandOk (txIsland (lpPort l)) = true → (∀ k, ((s.hw.port.p[lpPort l]).lanes[(k : Fin 4)]).refined = true) →
    Completes (.tsReady l) s (fun h => (h.lp l).ready = true ∧ (h.note.evt[portSrc (lpPort l)]).getLsbD 0 = true)) ∧
  (∀ (s : State) (p k : Fin 4) (diff : Int), ((s.hw.port.p[p]).lanes[k]).st = .up → s.hw.islandOk 39 = true →
    s.hw.cal.dll[(3 : Fin 4)] = true →
    Completes (.pcsMarker p k false diff) s (fun h =>
      ((h.port.p[p]).lanes[k]).rxMarks = (diff :: ((s.hw.port.p[p]).lanes[k]).rxMarks).take 256 ∧
      ((h.port.p[p]).lanes[k]).markAt = some s.hw.time.up ∧
      ((h.port.p[p]).lanes[k]).txMarks = ((s.hw.port.p[p]).lanes[k]).txMarks ∧ h.note = s.hw.note)) ∧
  (∀ (s : State) (p k : Fin 4) (n t : Nat), lpOfLane (s.hw.port.p[p]).mode k = some n →
    (s.hw.lp (lpNo p n)).ready = true → ((s.hw.port.p[p]).lanes[k]).markAt = some t →
    s.hw.passed t 1000000000000 = true →
    Completes (.portRefine p k) s (fun h =>
      (h.lp (lpNo p n)).ready = false ∧ (h.note.evt[portSrc p]).getLsbD 2 = true)) ∧
  (∀ (s : State) (p : Fin 4) (ok : Bool), s.hw.domUp .port = true → s.hw.effB .portPPreempt p = true →
    Completes (.preemptVerify p ok) s (fun h =>
      (h.port.p[p]).preemptOk = ok ∧ (h.note.evt[portSrc p]).getLsbD 3 = true)) ∧
  (∀ (s : State) (p : Fin 4) (k : Fin 4), (s.hw.port.p[p]).change.isSome = true →
    10 ≤ ((s.hw.port.p[p]).lanes[k]).retries →
    Completes (.portMode p) s (fun h =>
      h.port.p[p] = { s.hw.port.p[p] with change := none } ∧ (h.note.evt[portSrc p]).getLsbD 1 = true)) ∧
  (∀ (s : State) (p : Fin 4), s.hw.esmcOn p = true →
    Completes (.esmcInformationPdu p) s (fun h => (h.port.p[p]).ql = some (s.hw.qlOf p))) ∧
  (∀ (s : State) (l : Fin 16) (f : List Byte) (sub : Nat) (fcsOk : Bool), s.hw.domUp .port = true →
    (s.hw.port.p[lpPort l]).lpUp (lpLane l) = true →
    Completes (.frameReceive l f sub false fcsOk) s (fun h =>
      (h.port.p[lpPort l]).fecUncorr = incSat (s.hw.port.p[lpPort l]).fecUncorr ∧ h.port.rx = s.hw.port.rx)) ∧
  (∀ (s : State) (l : Fin 16) (f : List Byte) (sub : Nat), s.hw.domUp .port = true →
    (s.hw.port.p[lpPort l]).lpUp (lpLane l) = true →
    Completes (.frameReceive l f sub true false) s (fun h =>
      (h.port.p[lpPort l]).fcsErr = incSat (s.hw.port.p[lpPort l]).fcsErr ∧ h.port.rx = s.hw.port.rx)) ∧
  (∀ (s : State) (l : Fin 16) (f : List Byte) (sub : Nat), s.hw.domUp .port = true →
    (s.hw.port.p[lpPort l]).lpUp (lpLane l) = true → beAt f 12 2 ≠ 0x8808 → 64 ≤ f.length → f.length ≤ 9216 →
    Completes (.frameReceive l f sub true true) s (fun h =>
      h.port.rx = some (l.val, s.hw.classify l f, s.hw.mdiRx (lpPort l) (lpLane l) (s.hw.time.axis + sub))))

/-! ## Pronghorn and the Seal unit (chapters 13 to 15) -/

/-- The time requests (R273 to R279): an NTP request that is admitted has its reply booked with its origin timestamp; an
NTS request whose cookie opens and whose packet authenticates has a reply with fresh cookies booked, one whose cookie
does not open an NTSN; the PTP requests are answered with the receive time. The model's own choices it rests on:
notes/assumptions entries 7, 8, 40. -/
def Obligations.TimeRequestsComplete : Prop :=
  (∀ (s : State) (l q : Fin 16) (r : NtpReq), Reaches s.hw l q r.sub r.src r.udp →
    NormalLane s.hw l q r.sub r.src 133 true → (r.version = 3 ∨ r.version = 4) → r.mode = 3 → r.mac = false →
    Completes (.ntpRequest l r) s (fun k => Booked k l (fun b => b.pipe = some q ∧ b.rx = s.hw.time.axis + r.sub ∧
      ∃ y, b.msg = .ntp y ∧ y.dst = r.src ∧ y.udp = r.udp ∧ y.org = r.txTs ∧ y.vn = r.version ∧ y.poll = r.poll ∧
        y.rx = s.hw.ntpTime (s.hw.time.axis + r.sub) ∧ y.tx = s.hw.ntpTime b.at_))) ∧
  (∀ (s : State) (l q : Fin 16) (r : NtpReq) (n : NtsPart), Reaches s.hw l q r.sub r.src r.udp →
    NormalLane s.hw l q r.sub r.src (250 + 24 * min 7 n.placeholders) false → (r.version = 3 ∨ r.version = 4) →
    r.mode = 3 → r.mac = false → s.hw.sys.runMode ≠ 3 →
    Completes (.ntsRequest l r n) s (fun k =>
      (s.hw.openCookie n.cookie = none → Booked k l (fun b => b.pipe = some q ∧
        ∃ y, b.msg = .ntp y ∧ y.stratum = 0 ∧ y.refId = "NTSN" ∧ y.uid = n.uid ∧ y.org = r.txTs)) ∧
      (∀ c, s.hw.openCookie n.cookie = some c → Config.aeadOpens c.1 n.packet = true →
        Booked k l (fun b => b.pipe = some q ∧
          ∃ y, b.msg = .ntp y ∧ y.cookies = 1 + min 7 n.placeholders ∧ y.keyId = s.hw.prong.epoch ∧ y.uid = n.uid ∧
            y.org = r.txTs ∧ y.sealed_.isSome = true)))) ∧
  (∀ (s : State) (l q : Fin 16) (r : PtpReq), Reaches s.hw l q r.sub r.src r.udp → s.hw.isMaster l = true →
    s.hw.inflight q (s.hw.time.axis + r.sub) < 256 →
    Completes (.delayReq l r) s (fun k => Booked k l (fun b => b.pipe = some q ∧ b.urgent = true ∧
      b.msg = .delayResp r.src r.seq (ptpSplit (s.hw.time.axis + r.sub)).1 (ptpSplit (s.hw.time.axis + r.sub)).2))) ∧
  (∀ (s : State) (l q : Fin 16) (r : PtpReq), Reaches s.hw l q r.sub r.src r.udp → s.hw.isMaster l = true →
    s.hw.inflight q (s.hw.time.axis + r.sub) < 256 →
    Completes (.pdelayReq l r) s (fun k => Booked k l (fun b => b.pipe = some q ∧ b.urgent = true ∧
      b.msg = (if s.hw.effN .lpPtpStep (lpPort l) (lpLane l) = 1 then
        .pdelayResp r.src r.seq true (ptpSplit (s.hw.time.axis + r.sub)).1 (ptpSplit (s.hw.time.axis + r.sub)).2
        else .pdelayResp r.src r.seq false 0 ((b.at_ - (s.hw.time.axis + r.sub)) / auPerFrac)))))

/-- The messages that Pronghorn sends on its own account, its grants and its launches (R258, R262, R276, R279, R280). The
model's own choices it rests on: notes/assumptions entry 8. -/
def Obligations.SendingCommandsComplete : Prop :=
  (∀ (s : State) (l : Fin 16) (dst : Option Addr) (sub : Nat), s.hw.ptpMaySend l dst 1 = true →
    Completes (.ptpSyncSend l dst sub) s (fun k => Booked k l (fun b =>
      b.at_ = s.hw.reserve l (s.hw.time.axis + sub) 64 false ∧
      b.msg = (if s.hw.effN .lpPtpStep (lpPort l) (lpLane l) = 0 then
        .sync dst true (ptpSplit b.at_).1 (ptpSplit b.at_).2 else .sync dst false 0 0)))) ∧
  (∀ (s : State) (l : Fin 16) (dst : Option Addr) (sub : Nat), s.hw.ptpMaySend l dst 0 = true →
    Completes (.ptpAnnounceSend l dst sub) s (fun k => Booked k l (fun b => b.timed = false ∧
      b.msg = .announce dst (s.hw.announceData (s.hw.effN .lpPtpProfile (lpPort l) (lpLane l)))))) ∧
  (∀ (s : State) (l : Fin 16) (a : Addr) (dur : Nat), s.hw.domUp .port = true → s.hw.domUp .pipe = true →
    s.hw.isMaster l = true → (s.hw.lp l).ready = true → s.hw.prong.serving = true →
    s.hw.effN .lpPtpProfile (lpPort l) (lpLane l) ≠ 1 → 10 ≤ dur → dur ≤ 1000 →
    s.hw.prong.grants.length < s.hw.grantCap →
    Completes (.requestUnicastTransmission l a 1 0 dur) s (fun k =>
      k.granted l.val a 1 = true ∧ k.time = s.hw.time ∧
      ∀ g ∈ s.hw.prong.grants, (g.lp ≠ l.val ∨ g.dst ≠ a ∨ g.kind ≠ 1) → g ∈ k.prong.grants)) ∧
  (∀ (s : State) (l : Fin 16) (a : Addr) (kind : Nat), s.hw.domUp .port = true → s.hw.domUp .pipe = true →
    s.hw.isMaster l = true → (s.hw.lp l).ready = true → s.hw.prong.serving = true →
    Completes (.cancelUnicastTransmission l a kind) s (fun k =>
      k.granted l.val a kind = false ∧
      ∀ g ∈ s.hw.prong.grants, (g.lp ≠ l.val ∨ g.dst ≠ a ∨ g.kind ≠ kind) → g ∈ k.prong.grants)) ∧
  (∀ s : State, Completes .grantExpiry s (fun k =>
      k = { s.hw with prong := { s.hw.prong with
        grants := s.hw.prong.grants.filter (fun g => decide (s.hw.time.up < g.ends)) } })) ∧
  (∀ (s : State) (l : Fin 16) (a : Addr), s.hw.sys.done = true → s.hw.domUp .port = true → (s.hw.lp l).ready = true →
    s.hw.prong.serving = true → s.hw.sys.runMode ≠ 3 →
    Completes (.ntsKeConnection l a) s (fun k =>
      k.free = s.hw.free + 8 ∧ k.prong.ring = s.hw.prong.ring ∧ k.prong.epoch = s.hw.prong.epoch)) ∧
  (∀ (s : State) (l : Fin 16) (early : Nat) (b : Booking), firstBook (s.hw.lp l).books = some b →
    b.at_ < s.hw.time.axis + auPerTick → s.hw.domUp .port = true → (s.hw.lpRow l).egress * 1000 ≤ early →
    s.hw.islandOk (txIsland (lpPort l)) = true → (s.hw.lp l).plain = [] → (∃ r, b.msg = .ntp r) →
    Completes (.launchRelease l early) s (fun k =>
      (k.lp l).books = (s.hw.lp l).books.erase b ∧ (k.lp l).busy = b.at_ + b.dur ∧
      k.port.sent = (l.val, b.at_, b.msg) :: s.hw.port.sent))

/-- The client table, the caches, the hash, the NTS key ring, the policy banks and the groups (R278, R281, R282, R285,
R287, R290). The model's own choices it rests on: notes/assumptions entry 7. -/
def Obligations.PronghornUpkeepCompletes : Prop :=
  (∀ (s : State) (b : Nat), MemOk s.hw → b < 33554432 → s.hw.domUp .store = true → s.hw.sys.uceWords = [] →
    Completes (.clientTableSweep b) s (fun k =>
      (∀ w, w < 2 → (s.hw.entryAt (wayAt b w)).valid = true → (s.hw.entryAt (wayAt b w)).static = false →
        s.hw.effN .prongClientAge / 1024000 < tableSince (tableTime s.hw.time.axis) (s.hw.entryAt (wayAt b w)).last →
        (k.entryAt (wayAt b w)).valid = false) ∧
      ∀ a, (a < wayAt b 0 ∨ wayAt b 0 + 64 ≤ a) → k.peek a = s.hw.peek a)) ∧
  (∀ (s : State) (q : Fin 16),
    Completes (.cacheEviction q) s (fun k =>
      (∀ e ∈ (k.prong.pipes[q]).cache, s.hw.time.axis < e.fetched + 1048576 * auPerNs) ∧
      (∀ e ∈ (s.hw.prong.pipes[q]).cache, s.hw.time.axis < e.fetched + 1048576 * auPerNs → e ∈ (k.prong.pipes[q]).cache) ∧
      ∀ p : Fin 16, p ≠ q → k.prong.pipes[p] = s.hw.prong.pipes[p])) ∧
  (∀ (s : State) (af : Bool), s.hw.sys.d3hot = false → s.hw.domUp .pipe = true →
    Completes (.prongHashGo af) s (fun k =>
      k.prong.hashAf = af ∧
      k.prong.hashOut = fld 0 (s.hw.bucketOf af
        ((s.hw.prong.hashIn[(0 : Fin 2)]).toNat + 4294967296 * (s.hw.prong.hashIn[(1 : Fin 2)]).toNat)) ||| flag 31 true)) ∧
  (∀ s : State, 0 < s.hw.prong.rotPer / 1000000000000 * auPerSec →
    s.hw.time.axis % (s.hw.prong.rotPer / 1000000000000 * auPerSec) < auPerTick → 0 < s.hw.prong.epoch →
    s.hw.prong.eraseDue = false →
    Completes .ntsKeyRotation s (fun k =>
      k.prong.epoch = s.hw.prong.epoch + 1 ∧ k.prong.ring = s.hw.prong.ring ∧ k.prong.eraseDue = true ∧
      (k.note.evt[(15 : Fin 28)]).getLsbD 1 = true)) ∧
  (∀ s : State, s.hw.prong.eraseDue = true →
    Completes .ntsKeyErase s (fun k =>
      k.prong.eraseDue = false ∧ k.prong.epoch = s.hw.prong.epoch ∧
      (∀ p ∈ k.prong.ring, s.hw.prong.epoch ≤ p.1 + 2 ∧ p.1 ≤ s.hw.prong.epoch + 1) ∧
      (s.hw.prong.epoch + 1 ∈ k.prong.ring.map Prod.fst) ∧ k.free = s.hw.free + 1)) ∧
  (∀ (s : State) (t : Nat) (l : List (Key × SVal)), s.hw.prong.switch = some (t, l) → t ≤ s.hw.time.axis →
    Completes .policyBankSwitch s (fun k =>
      k.prong.switch = none ∧ k.prong.bank = 1 - s.hw.prong.bank ∧ (k.note.evt[(15 : Fin 28)]).getLsbD 0 = true)) ∧
  (∀ (s : State) (g : Fin 4) (t : Nat), s.hw.prong.reload = some (g, t) → t ≤ s.hw.time.axis →
    Completes (.groupReturn g) s (fun k =>
      k.prong.reload = none ∧ (k.note.evt[(15 : Fin 28)]).getLsbD 2 = true ∧
      (∀ q : Fin 16, q.val / 4 = g.val → k.prong.pipes[q] = {}) ∧
      ∀ q : Fin 16, q.val / 4 ≠ g.val → k.prong.pipes[q] = s.hw.prong.pipes[q]))

/-- The Seal unit (R297 to R306, R320): a request that passes the tests waits; its admission takes a place in the pool and
its number; its signature ends in a reply with that number; PROD and ACK take the values in their range. The model's
own choices it rests on: notes/assumptions entries 40, 41. -/
def Obligations.SealCommandsComplete : Prop :=
  (∀ (s : State) (l q : Fin 16) (a : Nat) (udp sub : Nat) (f : List Byte), Reaches s.hw l q sub (.v4 a) udp →
    s.hw.domUp .seal = true → s.hw.effB .sealCrpEnable = true → f.length = 56 → (f.getD 2 0).toNat % 2 = 0 →
    crpFormOk f = true → (s.hw.lookup q (s.hw.time.axis + sub) (.v4 a)).1 = none →
    (s.hw.rateUpdate (s.hw.groupOf (some q)) (s.hw.time.axis + sub) (.v4 a)
      (s.hw.ruleClass (s.hw.time.axis + sub) (.v4 a))).1 = .serve →
    s.hw.sealU.busy = false → s.hw.poolFull = false → (s.hw.sampleIn (rxIsland (lpPort l)) sub).bad = false →
    (s.hw.sampleIn (rxIsland (lpPort l)) sub).signOk = true →
    Completes (.crpRequest l (.v4 a) udp f sub) s (fun k =>
      ∃ r, k.sealU.waitCrp = s.hw.sealU.waitCrp ++ [r] ∧ r.digest = (f.drop 8).take 32 ∧
        r.sample = s.hw.sampleIn (rxIsland (lpPort l)) sub ∧ r.src = .crp l.val (beBytes 4 a) udp ∧
        k.sealU.pool = s.hw.sealU.pool)) ∧
  (∀ (s : State) (sub : Nat) (r : SealReq) (rest : List SealReq) (slot : Fin 8), s.hw.domUp .seal = true →
    s.hw.sealU.rr = 0 → s.hw.sealU.waitCrp = r :: rest → s.hw.sealU.busy = false → s.hw.sealLate r = none →
    s.hw.activeKey r.alg = some slot →
    Completes (.sealAdmission sub) s (fun k =>
      k.sealU.waitCrp = rest ∧
      k.sealU.pool = s.hw.sealU.pool ++ [.tok { req := r, seq := s.hw.sealU.next, slot := slot.val, kid := keyKid (s.hw.sealU.keys[slot]).alg (s.hw.sealU.keys[slot]).key, key := (s.hw.sealU.keys[slot]).key }] ∧
      k.sealU.next = s.hw.sealU.next + 1)) ∧
  (∀ (s : State) (p : Pending) (rest : List PoolItem), s.hw.domUp .seal = true → s.hw.sealU.pool = .tok p :: rest →
    Completes .signatureComplete s (fun k =>
      (∃ n, k.sealU.pool = rest.drop n) ∧
      ∃ y, k.sealU.replies = y :: s.hw.sealU.replies ∧ y.src = p.req.src ∧ y.seq = p.seq ∧ y.status = 0)) ∧
  (∀ (s : State) (hi : Word), s.hw.sys.d3hot = false → s.hw.domUp .seal = true →
    (let v := hi.toNat * 4294967296 + (s.hw.stageGet 0xA00408 (lo32 s.hw.sealU.ack)).toNat;
     s.hw.sealU.ack ≤ v ∧ v ≤ s.hw.sealU.next) →
    Completes (.sealJrnAckWrite hi) s (fun k =>
      k.sealU.ack = hi.toNat * 4294967296 + (s.hw.stageGet 0xA00408 (lo32 s.hw.sealU.ack)).toNat)) ∧
  (∀ (s : State) (q : Fin 8) (v : Word), s.hw.sys.d3hot = false → s.hw.domUp .seal = true →
    (v - (s.hw.sealU.queues[q]).done).toNat ≤ 2 ^ (s.hw.sealU.queues[q]).log2 →
    Completes (.sealQProdWrite q v) s (fun k => k.sealU.queues[q] = { s.hw.sealU.queues[q] with prod := v }))

/-- The key verbs and `journal release` (R313, R322, R323): each on a slot in the state it needs, with a record free. The
model's own choices it rests on: notes/assumptions entries 1, 6, 25. -/
def Obligations.SealVerbsComplete : Prop :=
  (∀ (s : State) (ses : Fin 11) (n : Fin 8) (x alg : String) (e : Nat), Ready s ses 3 →
    (s.hw.mywi.sess[ses]).txn = none → argNat 0 7 x = .ok n.val → formCode "seal" ["key", "gen", x, alg] = 0 →
    e = (if alg = "es256" then 0 else 1) → (s.hw.sealU.keys[n]).st = .empty → s.hw.freeSlots ≠ 0 →
    Completes (.sealKeyGen ses [x, alg]) s (fun k =>
      (k.sealU.keys[n]).st = .ready ∧ (k.sealU.keys[n]).alg = e ∧ (k.note.evt[(16 : Fin 28)]).getLsbD 5 = true)) ∧
  (∀ (s : State) (ses : Fin 11) (n : Fin 8) (x : String), Ready s ses 3 → (s.hw.mywi.sess[ses]).txn = none →
    argNat 0 7 x = .ok n.val → ((s.hw.sealU.keys[n]).st = .ready ∨ (s.hw.sealU.keys[n]).st = .retired) →
    s.hw.freeSlots ≠ 0 →
    Completes (.sealKeyUse ses [x]) s (fun k =>
      (k.sealU.keys[n]).st = .active ∧ (k.sealU.keys[n]).key = (s.hw.sealU.keys[n]).key ∧
      k.activeKey (s.hw.sealU.keys[n]).alg ≠ none)) ∧
  (∀ (s : State) (ses : Fin 11) (n : Fin 8) (x : String), Ready s ses 3 → (s.hw.mywi.sess[ses]).txn = none →
    argNat 0 7 x = .ok n.val → (s.hw.sealU.keys[n]).st = .active → s.hw.freeSlots ≠ 0 →
    Completes (.sealKeyRetire ses [x]) s (fun k => (k.sealU.keys[n]).st = .retired)) ∧
  (∀ (s : State) (ses : Fin 11) (n : Fin 8) (x : String), Ready s ses 3 → (s.hw.mywi.sess[ses]).txn = none →
    argNat 0 7 x = .ok n.val → ((s.hw.sealU.keys[n]).st = .ready ∨ (s.hw.sealU.keys[n]).st = .retired) →
    s.hw.freeSlots ≠ 0 →
    Completes (.sealKeyErase ses [x]) s (fun k =>
      (k.sealU.keys[n]).st = .empty ∧ (k.sealU.keys[n]).key = 0)) ∧
  (∀ (s : State) (ses : Fin 11) (x : String) (v : Nat), Ready s ses 3 → (s.hw.mywi.sess[ses]).txn = none →
    argNat 0 18446744073709551615 x = .ok v → s.hw.sealU.rel ≤ v → v ≤ s.hw.sealU.ack → s.hw.freeSlots ≠ 0 →
    Completes (.journalRelease ses [x]) s (fun k => k.sealU.rel = v ∧ k.sealU.ack = s.hw.sealU.ack))

/-! ## The Lattice and Deckline (chapters 16 and 17) -/

/-- What the Lattice sends (R328 to R330, R345): a HELLO, an ANNOUNCE and an EXCHANGE on a direct link. The model's own
choices it rests on: notes/assumptions entry 42. -/
def Obligations.LatticeSendsComplete : Prop :=
  (∀ (s : State) (n : Fin 4), s.hw.sys.released = true → s.hw.latAlive n = true → s.hw.latVia n = none →
    Completes (.latHelloSend n) s (fun k =>
      (∃ b, k.lat.sent = (n.val, s.hw.time.axis, s.hw.latHead n 0 ++ b) :: s.hw.lat.sent ∧ b.length = 12) ∧
      (k.lat.link[n]).seqs[(0 : Fin 4)] = ((s.hw.lat.link[n]).seqs[(0 : Fin 4)] + 1) % 65536)) ∧
  (∀ (s : State) (n : Fin 4), s.hw.latAlive n = true → s.hw.latReady n = true → s.hw.latVia n = none →
    Completes (.latAnnounceSend n) s (fun k =>
      ∃ b, k.lat.sent = (n.val, s.hw.time.axis, s.hw.latHead n 1 ++ s.hw.announceBody ++ b) :: s.hw.lat.sent)) ∧
  (∀ (s : State) (n : Fin 4), s.hw.time.clockOn = true → s.hw.latAlive n = true → (s.hw.lat.link[n]).twoWay = true →
    s.hw.exchangeAt < s.hw.time.axis + auPerTick → s.hw.latVia n = none →
    Completes (.latExchangeSend n false) s (fun k =>
      ∃ b, k.lat.sent = (n.val, gridUp (s.hw.lat.link[n]).phase (6400 * auPerPs) s.hw.exchangeAt,
        s.hw.latHead n 2 ++ stampBytes (gridUp (s.hw.lat.link[n]).phase (6400 * auPerPs) s.hw.exchangeAt) ++ b) ::
        s.hw.lat.sent)) ∧
  (∀ (s : State) (n : Fin 4), s.hw.time.clockOn = true → s.hw.latAlive n = true → (s.hw.lat.link[n]).twoWay = true →
    s.hw.exchangeAt < s.hw.time.axis + auPerTick →
    Completes (.latExchangeSend n true) s (fun k =>
      k.lat.sent = s.hw.lat.sent ∧ (k.lat.link[n]).cnt[(3 : Fin 4)] = incSat (s.hw.lat.link[n]).cnt[(3 : Fin 4)]))

/-- What the Lattice receives (R326, R330, R333, R339): HELLO, ANNOUNCE, EXCHANGE and LEAVE of a neighbour. The model's
own choices it rests on: notes/assumptions entry 42. -/
def Obligations.LatticeReceptionsComplete : Prop :=
  (∀ (s : State) (n : Fin 4) (f : List Byte), LatHeard s.hw n 1 28 f → beAt f 8 8 ≠ nodeId →
    (s.hw.lat.link[n]).peer = none → (s.hw.lat.link[n]).twoWay = false →
    Completes (.latHelloReceived n f true) s (fun k =>
      (k.lat.link[n]).peer = some (beAt f 8 8) ∧ (k.lat.link[n]).helloAt = some s.hw.time.up ∧
      (k.lat.link[n]).st = (if beAt f 16 8 = nodeId then .up else .pairing))) ∧
  (∀ (s : State) (n : Fin 4) (f : List Byte), LatHeard s.hw n 1 28 f → beAt f 8 8 = nodeId →
    Completes (.latHelloReceived n f true) s (fun k => (k.lat.link[n]).st = .reject)) ∧
  (∀ (s : State) (n : Fin 4) (f : List Byte), LatHeard s.hw n 2 (56 + 16 * beAt f 52 1) f → s.hw.fromPeer n f = true →
    s.hw.latReady n = true →
    Completes (.latAnnounceReceived n f true) s (fun k =>
      (k.lat.link[n]).ann = some (annOf f) ∧ (k.lat.link[n]).peerEid = eidOf (beAt f 6 2))) ∧
  (∀ (s : State) (n : Fin 4) (f : List Byte) (sub : Nat), LatHeard s.hw n 3 56 f → s.hw.fromPeer n f = true →
    s.hw.time.clockOn = true →
    Completes (.latExchangeReceived n f true sub) s (fun k =>
      (k.lat.link[n]).exRx = some (beAt f 4 2, stampAt f 16, s.hw.latPlaneRx n sub))) ∧
  (∀ (s : State) (n : Fin 4) (f : List Byte), LatHeard s.hw n 4 20 f → s.hw.fromPeer n f = true →
    Completes (.latLeaveReceived n f true) s (fun k =>
      (k.lat.link[n]).peer = none ∧ (k.lat.link[n]).st = .pairing ∧ (k.ref.ins[latIn n]).alive = false))

/-- The Lattice's own events (R330, R333, R337, R338, R343): a neighbour's silence, block lock, readiness, the election,
the merge test, and the registry. The model's own choices it rests on: notes/assumptions entry 42. -/
def Obligations.LatticeEventsComplete : Prop :=
  (∀ (s : State) (n : Fin 4) (t : Nat), (s.hw.lat.link[n]).st ≠ .down → (s.hw.lat.link[n]).helloAt = some t →
    s.hw.passed t 375000000000 = true →
    Completes (.helloMiss n) s (fun k =>
      (k.lat.link[n]).peer = none ∧ (k.lat.link[n]).twoWay = false ∧ (k.ref.ins[latIn n]).alive = false)) ∧
  (∀ (s : State) (n : Fin 4) (phase : Nat), s.hw.latOn n = true → s.hw.latVia n = none →
    (s.hw.lat.link[n]).st = .down →
    Completes (.latBlockLock n true phase) s (fun k =>
      (k.lat.link[n]).lock = true ∧ (k.lat.link[n]).phase = phase ∧ (k.lat.link[n]).st = .pairing)) ∧
  (∀ (s : State) (n : Fin 4) (phase : Nat), s.hw.latOn n = true → s.hw.latVia n = none →
    Completes (.latBlockLock n false phase) s (fun k =>
      (k.lat.link[n]).lock = false ∧ (k.lat.link[n]).st = .down ∧ (k.lat.link[n]).peer = none)) ∧
  (∀ (s : State) (n : Fin 4) (r : Int), s.hw.islandOk (latIsland n) = true → (s.hw.lat.link[n]).st = .up →
    Completes (.linkReady n (some r)) s (fun k =>
      (k.lat.link[n]).st = .ready ∧ (k.lat.link[n]).refine = r ∧ (k.note.evt[(17 : Fin 28)]).getLsbD 0 = true)) ∧
  (∀ (s : State) (n : Fin 4), (s.hw.lat.link[n]).st = .ready →
    Completes (.linkReady n none) s (fun k => (k.lat.link[n]).st = .up ∧ (k.lat.link[n]).merge = [])) ∧
  (∀ s : State, s.hw.sys.released = true → s.hw.domUp .lat = true → s.hw.effB .latEnable = true →
    Completes .rootElection s (fun k =>
      k.lat.root = s.hw.elect.1.root ∧ k.lat.parent = s.hw.elect.1.parent ∧ k.lat.isRoot = s.hw.elect.1.isRoot ∧
      k.lat.hops = s.hw.elect.1.hops ∧ k.lat.detached = s.hw.elect.1.detached)) ∧
  (∀ (s : State) (n : Fin 4) (a : LatAnn), (s.hw.lat.link[n]).ann = some a → s.hw.latReady n = true →
    16 ≤ (s.hw.lat.link[n]).merge.length → a.claim.node ≠ s.hw.lat.root.node → (s.hw.lat.link[n]).st = .ready →
    (s.hw.lat.link[n]).mergeOk ≠ some a.claim.node →
    Completes (.mergeTest n) s (fun k =>
      (k.lat.link[n]).testAt = some s.hw.time.up ∧
      (k.lat.link[n]).st =
        (if ((s.hw.lat.link[n]).merge.foldl (fun (x y : Int) => x + y) 0).natAbs ≤
            16 * (s.hw.effN .refXchkLimit + (a.unc + s.hw.uLink n) + s.hw.time.unc) then .ready else .split))) ∧
  (∀ s : State, s.hw.domUp .lat = true → s.hw.lat.isRoot = true → s.hw.lat.regAt = none →
    Completes .registryRefresh s (fun k =>
      k.lat.regAt = some s.hw.time.up ∧ k.lat.regRoot = some s.hw.lat.root.node ∧ k.time = s.hw.time)) ∧
  (∀ s : State, Completes .rosterExpiry s (fun k =>
      k = { s.hw with lat := { s.hw.lat with
        roster := s.hw.lat.roster.filter (fun r => !s.hw.passed r.at_ 200000000000000) } }))

/-- The superframe and what a station sends in it (R354 to R362, R365, R374). The model's own choices it rests on:
notes/assumptions entry 43. -/
def Obligations.SuperframeCommandsComplete : Prop :=
  (∀ (s : State) (n : Fin 2) (ns : Nat), s.hw.sys.released = true → s.hw.time.clockOn = true →
    s.hw.domUp .deck = true → ceilDiv s.hw.time.axis (10 * auPerMs) * (10 * auPerMs) < s.hw.time.axis + auPerTick →
    s.hw.effN .deckDkRole n = 1 → (s.hw.dk n).role = 1 → (s.hw.dk n).yielded = false →
    (s.hw.dk n).notBefore ≤ ceilDiv s.hw.time.axis (10 * auPerMs) * (10 * auPerMs) →
    Completes (.superframeStart n (.sent ns)) s (fun k =>
      (k.dk n).start = ceilDiv s.hw.time.axis (10 * auPerMs) * (10 * auPerMs) ∧ (k.dk n).beacon = true ∧
      (k.dk n).index = (k.dk n).start % auPerSec / (10 * auPerMs) ∧
      (∃ f, (k.dk n).sent = ((k.dk n).start, f) :: (s.hw.dk n).sent ∧ dkType f = 1) ∧ ns ≤ (k.dk n).loop)) ∧
  (∀ (s : State) (n : Fin 2) (e : Echo), s.hw.sys.released = true → s.hw.time.clockOn = true →
    s.hw.domUp .deck = true → ceilDiv s.hw.time.axis (10 * auPerMs) * (10 * auPerMs) < s.hw.time.axis + auPerTick →
    s.hw.effN .deckDkRole n = 2 → (s.hw.dk n).role = 2 →
    Completes (.superframeStart n e) s (fun k =>
      k.dk n = { s.hw.dk n with slotIdx := 0, slotUsed := 0, idle := (s.hw.dk n).idle + 1 })) ∧
  (∀ (s : State) (n : Fin 2) (echoes : List Echo) (a off len : Nat), s.hw.domUp .deck = true →
    (s.hw.dk n).beacon = true → ((s.hw.dk n).ownSlots.drop (s.hw.dk n).slotIdx).head? = some (a, off, len) → a ≠ 0 →
    Completes (.slotSend n echoes) s (fun k =>
      (k.dk n).slotIdx = (s.hw.dk n).slotIdx + 1 ∧ (k.dk n).slotUsed = 0)) ∧
  (∀ (s : State) (n : Fin 2) (ns off len : Nat) (x : Nat × Nat × Nat) (l : List (Nat × Nat × Nat)),
    s.hw.domUp .deck = true → (s.hw.dk n).beacon = true → (s.hw.dk n).role = 1 →
    ((s.hw.dk n).ownSlots.drop (s.hw.dk n).slotIdx).head? = some (0, off, len) → (s.hw.dk n).leavePend = none →
    (s.hw.dk n).acks = x :: l →
    airPs (s.hw.dk n).rate 12 + guardPs (s.hw.dk n).rate + (s.hw.dk n).slotUsed ≤ len →
    Completes (.slotSend n [.sent ns]) s (fun k =>
      (k.dk n).acks = l ∧ (k.dk n).sent.length = (s.hw.dk n).sent.length + 1 ∧
      (k.dk n).slotUsed = (s.hw.dk n).slotUsed + airPs (s.hw.dk n).rate 12 + guardPs (s.hw.dk n).rate)) ∧
  (∀ (s : State) (n : Fin 2) (ns : Nat), s.hw.domUp .deck = true → (s.hw.dk n).beacon = true → (s.hw.dk n).role = 2 →
    (s.hw.dk n).joined = false → (s.hw.dk n).synced = true → (s.hw.dk n).rollcall = true → (s.hw.dk n).joinWait = none →
    openStart (s.hw.dk n).rate (s.hw.dk n).plan ≤ (s.hw.time.axis - (s.hw.dk n).start) / auPerPs →
    (s.hw.time.axis - (s.hw.dk n).start) / auPerPs + airPs (s.hw.dk n).rate 10 + guardPs (s.hw.dk n).rate ≤ superPs →
    Completes (.openFieldSend n (.sent ns)) s (fun k =>
      (k.dk n).joinWait = some 2 ∧ (k.dk n).tries = 0 ∧ (k.dk n).sent.length = (s.hw.dk n).sent.length + 1)) ∧
  (∀ (s : State) (n : Fin 2), (s.hw.dk n).role = 1 → (s.hw.dk n).down = 0 → s.hw.dkMin n < (s.hw.dk n).rate →
    7 ≤ (s.hw.dk n).qual → (s.hw.dk n).upreq = false → (s.hw.dk n).qualifies = true →
    Completes (.rateDownshift n) s (fun k => k.dk n = { s.hw.dk n with down := 1 } ∧ k.note = s.hw.note)) ∧
  (∀ (s : State) (n : Fin 2) (v : Word), s.hw.sys.d3hot = false → s.hw.domUp .deck = true →
    (v - (s.hw.dk n).txDone).toNat ≤ 2 ^ (s.hw.dk n).txLog →
    Completes (.deckTxProdWrite n v) s (fun k =>
      (k.dk n).txProd = v ∧ (k.dk n).txCons = (if (s.hw.dk n).txEn then v else (s.hw.dk n).txCons)))

/-- The frames a station hears and the ends of its time limits (R357, R364, R367 to R376). The model's own choices it
rests on: notes/assumptions entry 43. -/
def Obligations.DecklineEventsComplete : Prop :=
  (∀ (s : State) (n : Fin 2) (f : List Byte) (rate : Fin 3) (sub : Nat), DkHeard s.hw n 1 f →
    s.hw.time.clockOn = true → (s.hw.dk n).role = 1 → beNat ((dkPayload f).take 8) ≠ nodeId →
    Completes (.beaconReceived n f rate sub) s (fun k =>
      (k.dk n).foreignSeen = true ∧
      (k.dk n).foreign = some (beAt (dkPayload f) 28 1, beNat ((dkPayload f).take 8)) ∧ k.time = s.hw.time)) ∧
  (∀ (s : State) (n : Fin 2) (f : List Byte) (rate : Fin 3) (sub : Nat), DkHeard s.hw n 1 f →
    s.hw.time.clockOn = true → (s.hw.dk n).role = 2 →
    ((s.hw.dk n).joined = false ∨ (s.hw.dk n).cid = some (beNat ((dkPayload f).take 8))) →
    Completes (.beaconReceived n f rate sub) s (fun k =>
      (k.dk n).cid = some (beNat ((dkPayload f).take 8)) ∧ (k.dk n).missed = 0 ∧ (k.dk n).beacon = true ∧
      (k.dk n).rate = rate.val ∧ (k.dk n).joined = (s.hw.dk n).joined)) ∧
  (∀ (s : State) (n : Fin 2), (s.hw.dk n).role = 2 → (s.hw.dk n).cid.isSome = true → (s.hw.dk n).missed < 2 →
    Completes (.beaconMissing n) s (fun k =>
      (k.dk n).missed = (s.hw.dk n).missed + 1 ∧ (k.dk n).beacon = false ∧ (k.dk n).joined = (s.hw.dk n).joined ∧
      (k.dk n).start = (s.hw.dk n).start + 10 * auPerMs)) ∧
  (∀ (s : State) (n : Fin 2), (s.hw.dk n).role = 2 → (s.hw.dk n).cid.isSome = true → 2 ≤ (s.hw.dk n).missed →
    (s.hw.dk n).joined = true →
    Completes (.beaconMissing n) s (fun k =>
      (k.dk n).joined = false ∧ (k.dk n).synced = false ∧ (k.note.evt[dkSrcNo n]).getLsbD 4 = true)) ∧
  (∀ (s : State) (n : Fin 2) (f : List Byte) (sub : Nat), DkHeard s.hw n 4 f → (s.hw.dk n).role = 1 →
    ((s.hw.dk n).at_ (dkSrc f)).isSome = true → dkUpreq f = false →
    Completes (.deckStatus n f sub) s (fun k =>
      (k.dk n).roster = (s.hw.dk n).roster.map (fun m =>
        if m.addr = dkSrc f then { m with ql := dkQl f, heard := true } else m))) ∧
  (∀ (s : State) (n : Fin 2) (f : List Byte) (sub : Nat), DkHeard s.hw n 16 f → (s.hw.dk n).role = 2 →
    (s.hw.dk n).joined = true → (s.hw.dk n).rxEn = true →
    ((s.hw.dk n).rxProd - (s.hw.dk n).rxCons).toNat < 2 ^ (s.hw.dk n).rxLog →
    Completes (.deckData n f sub) s (fun k => (k.dk n).rxProd = (s.hw.dk n).rxProd + 1)) ∧
  (∀ (s : State) (n : Fin 2) (f : List Byte) (a : Nat), DkHeard s.hw n 2 f → (s.hw.dk n).role = 1 → dkSrc f = 63 →
    (s.hw.dk n).yielded = false → (s.hw.dk n).giveAddr (beNat ((dkPayload f).take 8)) = some a →
    (s.hw.dk n).of (beNat ((dkPayload f).take 8)) = none →
    Completes (.join n f) s (fun k =>
      (k.dk n).acks = (s.hw.dk n).acks ++ [(beNat ((dkPayload f).take 8), a, 0)] ∧ (k.dk n).dirty = true ∧
      (k.dk n).roster.length = (s.hw.dk n).roster.length + 1 ∧ (k.note.evt[dkSrcNo n]).getLsbD 0 = true)) ∧
  (∀ (s : State) (n : Fin 2) (f : List Byte), DkHeard s.hw n 3 f → (s.hw.dk n).role = 2 →
    beNat ((dkPayload f).take 8) = nodeId → (s.hw.dk n).synced = true → ((dkPayload f).getD 9 0).toNat = 0 →
    Completes (.joinAck n f) s (fun k =>
      (k.dk n).joined = true ∧ (k.dk n).addr = ((dkPayload f).getD 8 0).toNat % 64 ∧
      (k.ref.ins[deckIn n]).alive = true)) ∧
  (∀ (s : State) (n : Fin 2) (a : Nat) (m : DkMember), (s.hw.dk n).role = 1 → (s.hw.dk n).at_ a = some m →
    50 ≤ m.silent →
    Completes (.memberDrop n a) s (fun k =>
      (k.dk n).at_ a = none ∧
      (k.dk n).quarantine = (s.hw.dk n).quarantine ++ [{ addr := a, mid := m.mid, left := 50 }] ∧
      (k.note.evt[dkSrcNo n]).getLsbD 0 = true)) ∧
  (∀ (s : State) (n : Fin 2), Completes (.quarantineExpiry n) s (fun k =>
      k.dk n = { s.hw.dk n with quarantine := (s.hw.dk n).quarantine.filter (fun q => decide (q.left ≠ 0)) } ∧
      k.note = s.hw.note)) ∧
  (∀ (s : State) (n : Fin 2) (f : List Byte) (m : DkMember), DkHeard s.hw n 5 f → (s.hw.dk n).role = 1 →
    (s.hw.dk n).at_ (dkSrc f) = some m →
    Completes (.deckLeave n f) s (fun k => (k.dk n).at_ (dkSrc f) = none)) ∧
  (∀ (s : State) (n : Fin 2) (f : List Byte), DkHeard s.hw n 5 f → (s.hw.dk n).role = 2 → dkSrc f = 0 →
    (s.hw.dk n).joined = true →
    Completes (.deckLeave n f) s (fun k => (k.dk n).joined = false ∧ (k.note.evt[dkSrcNo n]).getLsbD 4 = true)) ∧
  (∀ (s : State) (n : Fin 2), (s.hw.dk n).role = 1 → 3 ≤ (s.hw.dk n).foreignRun →
    Completes (.deckCoordDup n) s (fun k =>
      (k.dk n).foreignRun = 0 ∧ k.latched 23 = true ∧ (k.note.evt[dkSrcNo n]).getLsbD 5 = true)) ∧
  (∀ (s : State) (n : Fin 2), 50 ≤ (s.hw.dk n).quietRun → (s.hw.dk n).yielded = true →
    Completes (.coordResume n) s (fun k =>
      k.dk n = { s.hw.dk n with yielded := false, foreign := none } ∧ k.note = s.hw.note)) ∧
  (∀ (s : State) (n : Fin 2), (s.hw.dk n).role = 2 → (s.hw.dk n).joined = false → (s.hw.dk n).searching = true →
    s.hw.passed (s.hw.dk n).searchAt (s.hw.effN .deckDkSearch n) = true →
    Completes (.deckSearchExpiry n) s (fun k => (k.dk n).searching = false ∧ (k.dk n).joined = false))

/-- Seal requests over Deckline (R373): a request that passes its tests waits for admission, and a reply leaves in the
coordinator slot. The model's own choices it rests on: notes/assumptions entries 40, 43. -/
def Obligations.DecklineSealCommandsComplete : Prop :=
  (∀ (s : State) (n : Fin 2) (f : List Byte) (sub : Nat) (m : DkMember), DkHeard s.hw n 32 f → (s.hw.dk n).role = 1 →
    (s.hw.dk n).at_ (dkSrc f) = some m → s.hw.domUp .seal = true → (s.hw.sealBucket n (dkSrc f)).1 = none →
    crpFormOk (dkPayload f) = true → (dkPayload f).length = 56 → ((dkPayload f).getD 2 0).toNat % 2 = 0 →
    s.hw.sealU.busy = false → s.hw.poolFull = false → (s.hw.sampleIn (dkIsland n) sub).bad = false →
    (s.hw.sampleIn (dkIsland n) sub).signOk = true →
    Completes (.sealReq n f sub) s (fun k =>
      ∃ r, k.sealU.waitDeck = s.hw.sealU.waitDeck ++ [r] ∧ r.src = .deck n.val (dkSrc f) m.mid ∧
        r.digest = ((dkPayload f).drop 8).take 32 ∧ r.sample = s.hw.sampleIn (dkIsland n) sub)) ∧
  (∀ (s : State) (n : Fin 2) (ns a mid off len x y : Nat) (m : DkMember) (r : SealReply),
    s.hw.sealU.deckOut.find? (fun r => r.forSeg n) = some r → r.src = .deck x a mid → (s.hw.dk n).at_ a = some m →
    m.mid = mid → (s.hw.dk n).ownSlots.head? = some (y, off, len) → s.hw.domUp .deck = true →
    (s.hw.dk n).beacon = true → (s.hw.dk n).role = 1 →
    (s.hw.dk n).slotUsed + (airPs (s.hw.dk n).rate r.bytes.length + guardPs (s.hw.dk n).rate) ≤ len →
    Completes (.sealResp n (.sent ns)) s (fun k =>
      k.sealU.deckOut = s.hw.sealU.deckOut.erase r ∧
      (k.dk n).slotUsed = (s.hw.dk n).slotUsed + (airPs (s.hw.dk n).rate r.bytes.length + guardPs (s.hw.dk n).rate) ∧
      (k.dk n).sent.length = (s.hw.dk n).sent.length + 1))

/-! ## The Ibex engines (chapter 18) -/

/-- The Herd instructions (R379, R385 to R391): what each leaves in the channel, and its PC. The model's own choices it
rests on: notes/assumptions entries 44, 45. -/
def Obligations.HerdInstructionsComplete : Prop :=
  (∀ (s : State) (n : Fin 32) (pins : BitVec 48) (sub : Nat) (a : Fin 512), AtTurn s.hw n (.br 0 a) →
    Completes (.br n pins sub) s (fun k => (k.ibex.ch[n]).pc = a.val ∧ k.ibex.pinIn = pins)) ∧
  (∀ (s : State) (n : Fin 32) (pins : BitVec 48) (sub : Nat) (a : Fin 512), AtTurn s.hw n (.br 4 a) →
    Completes (.br n pins sub) s (fun k =>
      (k.ibex.ch[n]).x = (s.hw.ibex.ch[n]).x - 1 ∧
      (k.ibex.ch[n]).pc = (if (s.hw.ibex.ch[n]).x ≠ 0 then a.val else (s.hw.ibex.ch[n]).nextPc))) ∧
  (∀ (s : State) (n : Fin 32) (pins : BitVec 48) (sub : Nat) (p : Bool) (x : Fin 64), AtTurn s.hw n (.await 0 p x) →
    (s.hw.ibex.ch[n]).reached = true →
    Completes (.await n pins sub none) s (fun k =>
      (k.ibex.ch[n]).pc = (s.hw.ibex.ch[n]).nextPc ∧ (k.ibex.ch[n]).stalled = false)) ∧
  (∀ (s : State) (n : Fin 32) (pins : BitVec 48) (sub : Nat) (p : Bool) (x : Fin 64), AtTurn s.hw n (.await 2 p x) →
    Completes (.await n pins sub none) s (fun k =>
      (k.ibex.ch[n]).pc = (s.hw.ibex.ch[n]).pc ∧ (k.ibex.ch[n]).stalled = true)) ∧
  (∀ (s : State) (n : Fin 32) (pins : BitVec 48) (sub : Nat) (c : Fin 33), AtTurn s.hw n (.shin 2 c) →
    (s.hw.ibex.ch[n]).cfg2.getLsbD 19 = false → (s.hw.ibex.ch[n]).cfg2.getLsbD 21 = false →
    Completes (.shin n pins sub) s (fun k =>
      (k.ibex.ch[n]).isr = ((s.hw.ibex.ch[n]).isr <<< c.val) |||
        ((s.hw.ibex.ch[n]).x &&& BitVec.ofNat 32 (2 ^ c.val - 1)) ∧
      (k.ibex.ch[n]).isrN = min 32 ((s.hw.ibex.ch[n]).isrN + c.val) ∧
      (k.ibex.ch[n]).pc = (s.hw.ibex.ch[n]).nextPc)) ∧
  (∀ (s : State) (n : Fin 32) (pins : BitVec 48) (sub : Nat) (c : Fin 33), AtTurn s.hw n (.shout 3 c) →
    (s.hw.ibex.ch[n]).cfg2.getLsbD 20 = false → (s.hw.ibex.ch[n]).cfg2.getLsbD 22 = true →
    Completes (.shout n pins sub) s (fun k =>
      (k.ibex.ch[n]).x = (s.hw.ibex.ch[n]).osr &&& BitVec.ofNat 32 (2 ^ c.val - 1) ∧
      (k.ibex.ch[n]).osr = (s.hw.ibex.ch[n]).osr >>> c.val ∧
      (k.ibex.ch[n]).osrN = min 32 ((s.hw.ibex.ch[n]).osrN + c.val) ∧ (k.ibex.ch[n]).pc = (s.hw.ibex.ch[n]).nextPc)) ∧
  (∀ (s : State) (n : Fin 32) (pins : BitVec 48) (sub : Nat) (hold : Bool) (w : Word) (l : List Word),
    AtTurn s.hw n (.fetch false hold) → (s.hw.ibex.ch[n]).tx = w :: l →
    Completes (.fetch n pins sub) s (fun k =>
      (k.ibex.ch[n]).tx = l ∧ (k.ibex.ch[n]).osr = w ∧ (k.ibex.ch[n]).last = w ∧ (k.ibex.ch[n]).osrN = 0 ∧
      (k.ibex.ch[n]).pc = (s.hw.ibex.ch[n]).nextPc)) ∧
  (∀ (s : State) (n : Fin 32) (pins : BitVec 48) (sub : Nat) (hold : Bool), AtTurn s.hw n (.post false hold) →
    (s.hw.ibex.ch[n]).rx.length < 8 →
    Completes (.post n pins sub) s (fun k =>
      (k.ibex.ch[n]).rx = (s.hw.ibex.ch[n]).rx ++ [(s.hw.ibex.ch[n]).isr] ∧ (k.ibex.ch[n]).isr = 0 ∧
      (k.ibex.ch[n]).isrN = 0 ∧ (k.ibex.ch[n]).pc = (s.hw.ibex.ch[n]).nextPc)) ∧
  (∀ (s : State) (n : Fin 32) (pins : BitVec 48) (sub : Nat), AtTurn s.hw n (.copy 0 1 3) →
    Completes (.copy n pins sub) s (fun k =>
      (k.ibex.ch[n]).x = (s.hw.ibex.ch[n]).x + (s.hw.ibex.ch[n]).y ∧ (k.ibex.ch[n]).y = (s.hw.ibex.ch[n]).y ∧
      (k.ibex.ch[n]).pc = (s.hw.ibex.ch[n]).nextPc)) ∧
  (∀ (s : State) (n : Fin 32) (pins : BitVec 48) (sub : Nat) (v : Fin 256), AtTurn s.hw n (.load 1 v) →
    Completes (.load n pins sub) s (fun k =>
      (k.ibex.ch[n]).y = BitVec.ofNat 32 v.val ∧ (k.ibex.ch[n]).x = (s.hw.ibex.ch[n]).x ∧
      (k.ibex.ch[n]).pc = (s.hw.ibex.ch[n]).nextPc)) ∧
  (∀ (s : State) (n : Fin 32) (pins : BitVec 48) (sub : Nat) (w : Fin 4), AtTurn s.hw n (.mark true w) →
    Completes (.mark n pins sub) s (fun k =>
      (k.ibex.ch[n]).latch = s.hw.time.axis + sub ∧ (k.ibex.ch[n]).isrN = 32 ∧
      (k.ibex.ch[n]).isr = latchWord (s.hw.time.axis + sub) w ∧ (k.ibex.ch[n]).pc = (s.hw.ibex.ch[n]).nextPc))

/-- The host's access to the channels, the store and the lanes, and the lanes' samples (R381, R382, R388, R392, R394 to
R396, R399). The model's own choices it rests on: notes/assumptions entries 44, 65. -/
def Obligations.IbexHostCommandsComplete : Prop :=
  (∀ (s : State) (n : Fin 32) (v : Word), HostMay s.hw n → (s.hw.ibex.ch[n]).inj = none →
    Completes (.ibexInject n v) s (fun k => (k.ibex.ch[n]).inj = some (v.setWidth 24))) ∧
  (∀ (s : State) (n : Fin 32) (v : Word), HostMay s.hw n → (s.hw.ibex.ch[n]).tx.length < 8 →
    Completes (.ibexTxfWrite n v) s (fun k => (k.ibex.ch[n]).tx = (s.hw.ibex.ch[n]).tx ++ [v])) ∧
  (∀ (s : State) (n : Fin 32) (w : Word) (l : List Word), s.hw.sys.d3hot = false → s.hw.domUp .ibex = true →
    (s.hw.ibex.ch[n]).rx = w :: l →
    Completes (.ibexRxfRead n) s (fun k => (k.ibex.ch[n]).rx = l ∧ k.sys.rdata = [w])) ∧
  (∀ (s : State) (n : Fin 32), HostMay s.hw n →
    Completes (.ibexRestart n) s (fun k =>
      (k.ibex.ch[n]).pc = (s.hw.ibex.ch[n]).start ∧ (k.ibex.ch[n]).x = 0 ∧ (k.ibex.ch[n]).y = 0 ∧
      (k.ibex.ch[n]).isr = 0 ∧ (k.ibex.ch[n]).osr = 0 ∧ (k.ibex.ch[n]).tx = [] ∧ (k.ibex.ch[n]).rx = [] ∧
      (k.ibex.ch[n]).cmp = 0 ∧ (k.ibex.ch[n]).cfg0 = (s.hw.ibex.ch[n]).cfg0)) ∧
  (∀ (s : State) (n : Fin 32), HostMay s.hw n →
    Completes (.ibexFlush n) s (fun k =>
      k.ibex.ch[n] = { s.hw.ibex.ch[n] with tx := [], rx := [] } ∧ k.ibex.pinOut = s.hw.ibex.pinOut)) ∧
  (∀ (s : State) (n : Fin 32) (j : Fin 3) (v : Word), HostMay s.hw n → (s.hw.ibex.ch[n]).en = false →
    (let c := putCfg (s.hw.ibex.ch[n]).cfg0 (s.hw.ibex.ch[n]).cfg1 (s.hw.ibex.ch[n]).cfg2 j v;
     chCfgOk c.1 c.2.1 c.2.2 = true) →
    Completes (.ibexCfgWrite ⟨n.val, by omega⟩ j v) s (fun k =>
      ((k.ibex.ch[n]).cfg0, (k.ibex.ch[n]).cfg1, (k.ibex.ch[n]).cfg2) =
        putCfg (s.hw.ibex.ch[n]).cfg0 (s.hw.ibex.ch[n]).cfg1 (s.hw.ibex.ch[n]).cfg2 j v)) ∧
  (∀ (s : State) (n : Fin 8) (j : Fin 3) (v : Word), s.hw.sys.d3hot = false → s.hw.domUp .ibex = true →
    (s.hw.ibex.kid[n]).en = false →
    (let c := putCfg (s.hw.ibex.kid[n]).cfg0 (s.hw.ibex.kid[n]).cfg1 (s.hw.ibex.kid[n]).cfg2 j v;
     kidCfgOk c.1 c.2.1 c.2.2 = true) →
    Completes (.ibexCfgWrite ⟨32 + n.val, by omega⟩ j v) s (fun k =>
      ((k.ibex.kid[n]).cfg0, (k.ibex.kid[n]).cfg1, (k.ibex.kid[n]).cfg2) =
        putCfg (s.hw.ibex.kid[n]).cfg0 (s.hw.ibex.kid[n]).cfg1 (s.hw.ibex.kid[n]).cfg2 j v)) ∧
  (∀ (s : State) (a : Fin 512) (v : Word), MemOk s.hw → s.hw.sys.d3hot = false → s.hw.domUp .ibex = true →
    s.hw.covered a = false → (a.val < 472 ∨ s.hw.irigReserved = false) →
    Completes (.ibexStoreWrite a v) s (fun k =>
      k.herdWord a = v.setWidth 24 ∧ ∀ b, b ≠ a.val → k.herdWord b = s.hw.herdWord b)) ∧
  (∀ (s : State) (k : Fin 8) (b : Bool), s.hw.kidOn k = true → ((s.hw.ibex.kid[k]).sample b).2 = false →
    Completes (.laneSample k b) s (fun h =>
      h.ibex.kid[k] = { s.hw.ibex.kid[k] with
        sr := ((s.hw.ibex.kid[k]).sample b).1, hold := (s.hw.ibex.kid[k]).hold - 1 } ∧ h.note = s.hw.note)) ∧
  (∀ (s : State) (k : Fin 8) (b : Bool) (sub : Nat), s.hw.kidOn k = true → ((s.hw.ibex.kid[k]).sample b).2 = true →
    (s.hw.ibex.kid[k]).cfg1.getLsbD 9 = true → (s.hw.ibex.kid[k]).cap.length < 16 →
    Completes (.kidMatch k b sub) s (fun h =>
      (h.ibex.kid[k]).cap.length = (s.hw.ibex.kid[k]).cap.length + 1 ∧
      (h.ibex.kid[k]).sr = ((s.hw.ibex.kid[k]).sample b).1 ∧ (h.ibex.kid[k]).hold = (s.hw.ibex.kid[k]).holdoff)) ∧
  (∀ (s : State) (k : Fin 8) (v : Word), s.hw.sys.d3hot = false → s.hw.domUp .ibex = true →
    Completes (.kidMaskHiWrite k v) s (fun h =>
      (h.ibex.kid[k]).mask =
        join64 (s.hw.stageGet (kidOff k 0x18) (lo64 (s.hw.ibex.kid[k]).mask)) v ∧
      (h.ibex.kid[k]).pattern =
        join64 (s.hw.stageGet (kidOff k 0x10) (lo64 (s.hw.ibex.kid[k]).pattern))
          (s.hw.stageGet (kidOff k 0x14) (hi64 (s.hw.ibex.kid[k]).pattern)))) ∧
  (∀ (s : State) (k : Fin 8) (v a b m : Word), s.hw.sys.d3hot = false → s.hw.domUp .ibex = true →
    (s.hw.ibex.kid[k]).load.length < 4 → (s.hw.ibex.kid[k]).loadPart = [a, b, m] →
    Completes (.kidLoadWrite k v) s (fun h =>
      (h.ibex.kid[k]).load = (s.hw.ibex.kid[k]).load ++ [(join64 a b, join64 m v)] ∧ (h.ibex.kid[k]).loadPart = [])) ∧
  (∀ (s : State) (k : Fin 8) (r : List Word) (l : List (List Word)), s.hw.sys.d3hot = false → s.hw.domUp .ibex = true →
    (s.hw.ibex.kid[k]).cap = r :: l →
    Completes (.kidCap0Read k) s (fun h =>
      (h.ibex.kid[k]).cap = l ∧ (h.ibex.kid[k]).popped = r ∧ h.sys.rdata = [r.headD 0]))

/-! ## DMA, the event matrix, registers, power and Tally (chapters 1, 19, 20 and 21) -/

/-- The commands of the DMA engine (R405, R410, R411, R413, R416, R417): a start begins a pass, an abort, a pause and a
resume act on one that waits, a burst moves bytes, and a pass ends. The model's own choices it rests on:
notes/assumptions entries 46, 47. -/
def Obligations.DmaCommandsComplete : Prop :=
  (∀ (s : State) (n : Fin 16), DmaMay s.hw n → (s.hw.dma.ch[n]).busy = false → (s.hw.dma.ch[n]).check = true →
    s.hw.evt.cnt[dmaStartTask n] = 0 →
    Completes (.dmaStart n true) s (fun k =>
      (k.dma.ch[n]).st = .pending ∧ (k.dma.ch[n]).wsrc = (s.hw.dma.ch[n]).src ∧
      (k.dma.ch[n]).wdst = (s.hw.dma.ch[n]).dst ∧ (k.dma.ch[n]).wcount = (s.hw.dma.ch[n]).count ∧
      (k.dma.ch[n]).done = 0 ∧ k.evt.cnt[dmaStartTask n] = 0)) ∧
  (∀ (s : State) (n : Fin 16), DmaMay s.hw n → (s.hw.dma.ch[n]).busy = false → (s.hw.dma.ch[n]).check = false →
    Completes (.dmaStart n true) s (fun k =>
      (k.dma.ch[n]).st = .ended ∧ (k.dma.ch[n]).code = 2 ∧ (k.dma.ch[n]).residue = (s.hw.dma.ch[n]).count)) ∧
  (∀ (s : State) (n : Fin 16), s.hw.domUp .keep = true → (s.hw.dma.ch[n]).busy = false →
    (s.hw.dma.ch[n]).check = true → 0 < s.hw.evt.cnt[dmaStartTask n] →
    Completes (.dmaStart n false) s (fun k =>
      (k.dma.ch[n]).st = .pending ∧ k.evt.cnt[dmaStartTask n] = s.hw.evt.cnt[dmaStartTask n] - 1)) ∧
  (∀ (s : State) (n : Fin 16), DmaMay s.hw n → (s.hw.dma.ch[n]).st = .pending →
    Completes (.dmaAbort n) s (fun k =>
      (k.dma.ch[n]).st = .ended ∧ (k.dma.ch[n]).code = 1 ∧ k.evt.cnt[dmaStartTask n] = 0)) ∧
  (∀ (s : State) (n : Fin 16), DmaMay s.hw n → (s.hw.dma.ch[n]).st = .pending →
    Completes (.dmaPause n) s (fun k => k.dma.ch[n] = { s.hw.dma.ch[n] with st := .paused })) ∧
  (∀ (s : State) (n : Fin 16), DmaMay s.hw n → (s.hw.dma.ch[n]).st = .paused →
    Completes (.dmaResume n) s (fun k => k.dma.ch[n] = { s.hw.dma.ch[n] with st := .pending })) ∧
  (∀ (s : State) (n : Fin 16), MemOk s.hw → s.hw.dmaGrant = some n → OneUnit s.hw n →
    Completes .dmaBurst s (fun k =>
      (∀ i, i < (s.hw.dma.ch[n]).wcount →
        k.peek ((s.hw.dma.ch[n]).wdst + i) = s.hw.peek ((s.hw.dma.ch[n]).wsrc + i)) ∧
      (∀ a, (a < (s.hw.dma.ch[n]).wdst ∨ (s.hw.dma.ch[n]).wdst + (s.hw.dma.ch[n]).wcount ≤ a) → k.peek a = s.hw.peek a) ∧
      (k.dma.ch[n]).st = .moving ∧ (k.dma.ch[n]).done = (s.hw.dma.ch[n]).wcount)) ∧
  (∀ (s : State) (n : Fin 16), (s.hw.dma.ch[n]).issued = true → (s.hw.dma.ch[n]).st = .moving →
    s.hw.sys.uceWords = [] →
    Completes (.dmaPassEnd n) s (fun k =>
      (k.dma.ch[n]).st = .ended ∧ (k.dma.ch[n]).code = 0 ∧ (k.dma.ch[n]).residue = 0)) ∧
  (∀ (s : State) (n : Fin 16) (v : Word), DmaMay s.hw n →
    ((s.hw.dma.ch[n]).ring = 1 → (if (s.hw.dma.ch[n]).dstRing then ((s.hw.dma.ch[n]).eng - v).toNat
      else (v - (s.hw.dma.ch[n]).eng).toNat) ≤
        (if (s.hw.dma.ch[n]).busy then (s.hw.dma.ch[n]).wcount else (s.hw.dma.ch[n]).count)) →
    Completes (.dmaRingHostWrite n v) s (fun k => (k.dma.ch[n]).host = v ∧ (k.dma.ch[n]).eng = (s.hw.dma.ch[n]).eng))

/-- The event matrix and the Tally reader (R418, R420, R447, R451, R454, R455). The model's own choices it rests on:
notes/assumptions entries 48, 58. -/
def Obligations.EventAndTallyCommandsComplete : Prop :=
  (∀ (s : State) (e : Nat) (l : List Nat) (t : Fin 96), s.hw.evt.raised = e :: l → s.hw.domUp .keep = true →
    s.hw.pwr.st ≠ .graze → 56 ≤ t.val → t.val < 64 → s.hw.evt.src[t] = [e] → s.hw.evt.cnt[t] < 15 →
    Completes (.eventArrival 1) s (fun k => k.evt.cnt[t] = s.hw.evt.cnt[t] + 1)) ∧
  (∀ (s : State) (v : Word), s.hw.sys.d3hot = false → s.hw.domUp .keep = true →
    Completes (.evtSoftWrite v) s (fun k =>
      (∀ e ∈ s.hw.evt.raised, e ∈ k.evt.raised) ∧
      ∀ j, j < 10 → v.getLsbD j = true → 118 + j ∈ k.evt.raised)) ∧
  (∀ (s : State) (t : Fin 96), s.hw.sys.d3hot = false → s.hw.domUp .keep = true → countingTask t = false →
    Completes (.evtTaskClear t) s (fun k => k.evt.cnt = s.hw.evt.cnt.set t 0 ∧ k.evt.raised = s.hw.evt.raised)) ∧
  (∀ (s : State) (v : Word), s.hw.sys.d3hot = false → s.hw.domUp .keep = true →
    (s.hw.tally.free = true ∨ (s.hw.tally.eng - v).toNat ≤ s.hw.tally.size) →
    Completes (.tallyRingHostWrite v) s (fun k => k.tally.host = v ∧ k.tally.eng = s.hw.tally.eng)) ∧
  (∀ (s : State) (outer : List (Fin 18 × Nat × Nat)) (i ms : Nat), s.hw.time.clockOn = true →
    s.hw.tallyInstant = some (i, ms) → s.hw.tallySkips i = true →
    Completes (.tallySnapshot outer) s (fun k =>
      k.tally.skipped = satAdd max32 s.hw.tally.skipped 1 ∧ k.tally.seq = s.hw.tally.seq ∧
      k.tally.lastInst = some i ∧ k.store = s.hw.store)) ∧
  (∀ (s : State) (outer : List (Fin 18 × Nat × Nat)) (i ms : Nat), s.hw.time.clockOn = true →
    s.hw.tallyInstant = some (i, ms) → s.hw.tallySkips i = false →
    (s.hw.tally.free = true ∨ s.hw.tally.level < s.hw.tally.size) →
    Completes (.tallySnapshot outer) s (fun k =>
      k.tally.seq = (s.hw.tally.seq + 1) % 18446744073709551616 ∧ k.tally.eng = s.hw.tally.eng + 1 ∧
      k.tally.lost = 0 ∧ k.tally.skipped = 0)) ∧
  (∀ (s : State) (u : Fin 18) (j : Fin 8) (w : Nat), (s.hw.tally.u[u]).run = true →
    outerCode u (s.hw.tally.u[u]).sel[j] = true → (s.hw.tally.u[u]).counts j (s.hw.tally.u[u]).sel[j] = true →
    w ≤ 65535 → (s.hw.tally.u[u]).wraps j w = true →
    Completes (.tallyWrap u j w) s (fun k =>
      k.tally.u[u] = (s.hw.tally.u[u]).bump j w ∧ ∀ v : Fin 18, v ≠ u → k.tally.u[v] = s.hw.tally.u[v]))

/-- Host accesses to registers (R2, R4, R6, R7, R8): a word of the Keep window takes what is written; a 1 clears its bit
of an event register; the high word of a wide value applies both; reading its low word holds the others; a counter
clears as it is read. The model's own choices it rests on: notes/assumptions entries 15, 49. -/
def Obligations.RegisterAccessesComplete : Prop :=
  (∀ (s : State) (off : Nat) (v : Word), MemOk s.hw → 0x2000000 ≤ off → off < 0x2200000 → off % 4 = 0 →
    s.hw.sys.d3hot = false → s.hw.domUp .keep = true →
    Completes (.registerWrite off v) s (fun k =>
      k.regVal off = v ∧
      ∀ o, 0x2000000 ≤ o → o < 0x2200000 → o % 4 = 0 → o ≠ off → k.regVal o = s.hw.regVal o)) ∧
  (∀ (s : State) (off : Nat) (v : Word) (src : Fin 28), s.hw.sys.d3hot = false → evtSource off = some src →
    src ≠ 16 → src ≠ 25 → s.hw.bar0Isolated off = false →
    (∀ u, s.hw.tally.u[(u : Fin 18)].run = false) →
    Completes (.registerWrite off v) s (fun k => k.note.evt[src] = s.hw.note.evt[src] &&& ~~~v)) ∧
  (∀ (s : State) (q : Fin 8) (v : Word), s.hw.sys.d3hot = false → s.hw.domUp .seal = true →
    Completes (.wideValueHighWrite (0xA00104 + 0x20 * q.val) v) s (fun k =>
      (k.sealU.queues[q]).desc = v.toNat * 4294967296 +
        (s.hw.stageGet (0xA00100 + 0x20 * q.val) (wordOf (s.hw.sealU.queues[q]).desc 0)).toNat)) ∧
  (∀ (s : State) (off : Nat) (w : Wide), s.hw.sys.d3hot = false → off < bar0Size → off % 4 = 0 →
    s.hw.bar0Isolated off = false → s.hw.actRead off = none → (s.hw.tcount 17 1).wideAt off = some w → off = w.base →
    Completes (.wideValueLowRead off) s (fun k =>
      k.sys.rdata = [wordOf w.val 0] ∧
      ∀ j, 1 ≤ j → j < w.words → k.shadowGet (off + 4 * j) = some (wordOf w.val j))) ∧
  (∀ s : State, s.hw.sys.d3hot = false → s.hw.domUp .keep = true →
    Completes (.rcFieldRead 0x120) s (fun k => k.sys.rdata = [s.hw.mywi.lines] ∧ k.mywi.lines = 0)) ∧
  (∀ (s : State) (j : Fin 10), s.hw.sys.d3hot = false → s.hw.domUp .seal = true →
    Completes (.rcFieldRead (0xA00300 + 4 * j.val)) s (fun k =>
      k.sys.rdata = [s.hw.sealU.cnt[j]] ∧ k.sealU.cnt = s.hw.sealU.cnt.set j 0))

/-- Sleep, the return and the rails (R423 to R430): the entry begins and ends, a domain drops and is released, a rail is
acknowledged or missed. The model's own choices it rests on: notes/assumptions entry 56. -/
def Obligations.PowerStateCommandsComplete : Prop :=
  (∀ s : State, s.hw.pwr.entering = none → s.hw.sleepCond = true →
    s.hw.passedO s.hw.pwr.idleAt (s.hw.effN .pwrIdle) = true → s.hw.effN .pwrSleep ≠ 1 → s.hw.sealPending = 0 →
    s.hw.pwr.point = 0 →
    Completes .sleepEntry s (fun k =>
      k.pwr.entering = some .graze ∧ k.pwr.point = 1 ∧ k.sealU.busy = true ∧ k.domUp .port = false)) ∧
  (∀ s : State, s.hw.pwr.entering = some .graze → s.hw.pwr.point = 1 → s.hw.pwr.wakePend = none →
    Completes .sleepEntry s (fun k => k.pwr.entering = some .graze ∧ k.pwr.point = 2 ∧ k.domUp .store = false)) ∧
  (∀ (s : State) (d : Fin 10), s.hw.awake = true → s.hw.sys.done = true → s.hw.sys.restart = none →
    s.hw.domUp (domainOf d) = true → s.hw.held (domainOf d) = false →
    Completes (.domainDrop d) s (fun k => k.pwr.dom[(domainOf d).idx] = .isolated)) ∧
  (∀ (s : State) (d : Fin 10), s.hw.pwr.dom[(domainOf d).idx] = .starting false → domainOf d ≠ .keep →
    domainOf d ≠ .ref →
    Completes (.domainRelease d true) s (fun k => k.domUp (domainOf d) = true)) ∧
  (∀ (s : State) (d : Fin 10), s.hw.pwr.dom[(domainOf d).idx] = .starting false →
    Completes (.domainRelease d false) s (fun k =>
      k.pwr.dom[(domainOf d).idx] = .starting true ∧ k.latched 15 = true)) ∧
  (∀ (s : State) (q : RailReq) (r : List RailReq), s.hw.pwr.retry = false → s.hw.pwr.reqs = q :: r →
    s.hw.pwr.entering = none →
    Completes .regulatorAck s (fun k => k.pwr.reqs = r ∧ k.pwr.railsOff.getLsbD q.rail = !q.on)) ∧
  (∀ (s : State) (q : RailReq), s.hw.pwr.retry = false → s.hw.pwr.reqs = [q] → s.hw.pwr.entering = some .graze →
    s.hw.pwr.point = 4 → s.hw.pwr.wakePend = none →
    Completes .regulatorAck s (fun k => k.pwr.st = .graze ∧ k.pwr.entering = none ∧ k.sealU.busy = false)) ∧
  (∀ s : State, s.hw.pwr.entering = some .graze → s.hw.pwr.point = 4 → s.hw.pwr.reqs ≠ [] →
    Completes (.pmbAck 0) s (fun k =>
      k.pwr.entering = none ∧ k.pwr.returning = true ∧ k.pwr.abortCnt = incSat s.hw.pwr.abortCnt ∧
      k.latched 19 = true)) ∧
  (∀ (s : State) (q : RailReq) (r : List RailReq), s.hw.pwr.returning = true → s.hw.pwr.retry = true →
    s.hw.pwr.reqs = q :: r → s.hw.pwr.entering = none →
    Completes (.voltageRequestRetry true) s (fun k => k.pwr.retry = false ∧ k.pwr.reqs = r)) ∧
  (∀ s : State, s.hw.pwr.returning = true → s.hw.pwr.retry = true →
    Completes (.voltageRequestRetry false) s (fun k => k.pwr.retry = true ∧ k.latched 19 = true))

/-- The keeper, the steps of the Graze sequencer and the wakes (R434, R437 to R441, R376). The model's own choices it
rests on: notes/assumptions entries 56, 57. -/
def Obligations.WakeCommandsComplete : Prop :=
  (∀ (s : State) (fx : Int), s.hw.sys.xo32Ok = true → s.hw.time.clockOn = true → s.hw.domUp .ref = true →
    s.hw.passed 0 64000000000000 = true →
    Completes (.keeperCalibration fx) s (fun k =>
      k = { s.hw with pwr := { s.hw.pwr with
        fx := fx, calibrated := true, fitSpan := 64000000000000, calAt := some s.hw.time.up } })) ∧
  (∀ (s : State) (n : Fin 8) (p o d b : Nat) (temp keepErr fx : Int) (refSeen cmpHit : Bool),
    s.hw.gstep n = some (p, o, d, b) → s.hw.sys.done = true → s.hw.awake = true → s.hw.stepDue n = true →
    s.hw.pwr.restAt = none →
    Completes (.grazeStep n temp keepErr fx refSeen cmpHit) s (fun k =>
      (k.pwr.steps[n]).last = s.hw.sec % 4294967296 ∧ k.pwr.stepReq.getLsbD n = false ∧ k.time.axis = s.hw.time.axis)) ∧
  (∀ s : State, s.hw.sys.aonUp = true → s.hw.sys.xo32Ok = true → s.hw.pwr.restAt = none →
    Completes .xo32Absent s (fun k =>
      k.sys.xo32Ok = false ∧ k.pwr.calibrated = false ∧ (k.note.evt[(1 : Fin 28)]).getLsbD 9 = true)) ∧
  (∀ (s : State) (t : Nat), s.hw.pwr.timer = some t → t ≤ s.hw.keeperNow → s.hw.sys.done = true →
    s.hw.awake = true →
    Completes .aonTimer s (fun k =>
      k.pwr.timer = (if psAu (s.hw.effN .pwrWakeEvery) = 0 then none else some (t + psAu (s.hw.effN .pwrWakeEvery))) ∧
      k.pwr.idleAt = none)) ∧
  (∀ (s : State) (low : Bool), s.hw.sys.aonUp = true → s.hw.sys.done = true → s.hw.awake = true →
    Completes (.wakeN low) s (fun k =>
      k.pwr.wakeN = low ∧ (low = true → k.pwr.idleAt = none) ∧ (low = false → k.pwr.idleAt = s.hw.pwr.idleAt))) ∧
  (∀ (s : State) (c : Fin 9), (c = 1 ∨ c = 2 ∨ c = 3 ∨ c = 4 ∨ c = 6 ∨ c = 7) → s.hw.sys.done = true →
    s.hw.pwr.entering = none → s.hw.pwr.returning = false → s.hw.pwr.st = .graze →
    Completes (.wake c) s (fun k =>
      k.pwr.lastWake = c.val ∧ k.pwr.returning = true ∧ k.sys.oscEn = true ∧ k.pwr.wokeAt = some s.hw.time.up)) ∧
  (∀ (s : State) (n : Fin 2), s.hw.sys.done = true → s.hw.pwr.entering = none → s.hw.pwr.returning = false →
    s.hw.pwr.st = .graze → (s.hw.dk n).role = 2 →
    Completes (.decklineCarrier n) s (fun k =>
      (k.dk n).searching = true ∧ (k.dk n).searchAt = s.hw.time.up ∧ k.pwr.returning = true ∧ k.pwr.lastWake = 4)) ∧
  (∀ (s : State) (read : Bool), s.hw.sys.aonUp = true → s.hw.awake = true →
    Completes (.wakePortMatch read) s (fun k => k.pwr.wk = 1 ∧ k.pwr.wkRead = read ∧ k.pwr.wkStretch = false)) ∧
  (∀ (s : State) (b : Byte), s.hw.pwr.wkRead = false → s.hw.pwr.wkStretch = false → s.hw.pwr.wk = 1 →
    Completes (.wakePortWrite b) s (fun k => k.pwr.wk = 5 ∧ k.pwr.wakeArg = BitVec.ofNat 32 b.toNat)) ∧
  (∀ s : State, s.hw.pwr.wkRead = true → s.hw.pwr.wkStretch = false → s.hw.pwr.wk = 1 →
    Completes .wakePortRead s (fun k => k.pwr.wk = 4 ∧ k.sys.rdata = [s.hw.wakeByte]))

/-! ## The machine as a whole -/

/-- A step takes the command at the front of the queue and is `exec` of it with the queue's rest. On an empty queue it
only lets the sessions send the notices that wait: the model's choice (notes/assumptions/3.md), not a rule of the
spec. The model's own choices it rests on: notes/assumptions entry 3. -/
def Obligations.StepTakesTheFront : Prop :=
  (∀ (s : State) (c : Instr) (r : List Instr),
    step { s with pending := c :: r } = exec c { s with pending := r }) ∧
  (∀ s : State, s.pending = [] → step s = .next { s with hw := s.hw.sendAll })

/-- What power-on leaves (R84, R85, Table 3.7, Table 4.2): VDD_AON is up and no domain but AON; boot has not begun; no
Axis clock runs and time is COLD with its uncertainty saturated; Store reads 0 throughout; nothing is latched, no
session is open and no command waits. The model's own choices it rests on: notes/assumptions entries 10, 65. -/
def Obligations.ResetLeaves : Prop :=
  State.reset.pending = [] ∧ State.reset.hw.sys.aonUp = true ∧
  (∀ d : Domain, State.reset.hw.domUp d = decide (d = .aon)) ∧
  State.reset.hw.sys.stage = 0 ∧ State.reset.hw.sys.done = false ∧
  State.reset.hw.time.clockOn = false ∧ State.reset.hw.time.trust = .cold ∧ State.reset.hw.time.unc = uncMax ∧
  (∀ a : Nat, State.reset.hw.peek a = 0) ∧
  (∀ i : Fin 24, State.reset.hw.latched i = false) ∧
  (∀ i : Fin 28, State.reset.hw.note.evt[i] = 0) ∧
  (∀ i : Fin 11, (State.reset.hw.mywi.sess[i]).openS = false)

/-- The state after reset meets the invariant. The model's own choices it rests on: notes/assumptions entry 65. -/
def Obligations.ResetMeetsTheInvariant : Prop := Inv State.reset

/-- Every step keeps the invariant: only well-formed commands wait, and Store, the Ibex engine's instruction store and the
Keep window stay in their canonical form (addresses rising, no entry equal to what an unlisted address reads as). The
model's own choices it rests on: notes/assumptions entry 65. -/
def Obligations.EveryStepKeepsTheInvariant : Prop :=
  ∀ s t : State, Inv s → step s = .next t → Inv t

/-- A well-formed command completes on every state, and takes nothing from the queue and puts nothing on it. The model's
own choices it rests on: notes/assumptions entries 2, 66. -/
def Obligations.WellFormedCommandsComplete : Prop :=
  ∀ (c : Instr) (s : State), c.wf = true → ∃ t, exec c s = .next t ∧ t.pending = s.pending

/-- The commands that wait, when well formed, are all executed: as many steps as commands wait empty the queue, and no
step among them stops. The model's own choices it rests on: notes/assumptions entry 66. -/
def Obligations.WaitingCommandsAllRun : Prop :=
  ∀ s : State, QueueOk s → ∃ t, Sys2Proof.core.run s.pending.length s = .next t ∧ t.pending = []

/-- No address exists beyond the BARs (Table 3.10): an access outside the 64 MiB of BAR0 or beyond the 8 GiB of BAR2 stops
the machine, and no other command ever does. The model's own choices it rests on: notes/assumptions entry 66. -/
def Obligations.OnlyAddressesOutsideTheBarsStop : Prop :=
  (∀ (s : State) (off : Nat) (v : Word), bar0Bytes ≤ off →
    exec (.registerWrite off v) s = .fault .noSuchAddress ∧
    exec (.wideValueHighWrite off v) s = .fault .noSuchAddress ∧
    exec (.wideValueLowRead off) s = .fault .noSuchAddress ∧
    exec (.rcFieldRead off) s = .fault .noSuchAddress) ∧
  (∀ (s : State) (a n : Nat) (data : List Byte) (errs : List (Nat × Bool)),
    (storeBytes < a + n → exec (.bar2Read a n errs) s = .fault .noSuchAddress) ∧
    (storeBytes < a + data.length → exec (.bar2Write a data errs) s = .fault .noSuchAddress)) ∧
  (∀ (c : Instr) (s : State), (∀ m, exec c s ≠ .refused (.notModelled m)) ∧
    (exec c s = .fault .noSuchAddress →
      (∃ off v, (c = .registerWrite off v ∨ c = .wideValueHighWrite off v) ∧ bar0Bytes ≤ off) ∨
      (∃ off, (c = .wideValueLowRead off ∨ c = .rcFieldRead off) ∧ bar0Bytes ≤ off) ∨
      (∃ a n errs, c = .bar2Read a n errs ∧ storeBytes < a + n) ∨
      (∃ a data errs, c = .bar2Write a data errs ∧ storeBytes < a + data.length)))

/-- The first tests of a line (Table 7.4): a verb whose arguments match no form is answered with the form's code, a verb
other than `auth` in a session without a role with E404, and a `set` of a path whose role the session does not reach
with E401; nothing but Mywi, its notices and the tallies changes. The model's own choices it rests on:
notes/assumptions entry 22. -/
def Obligations.VerbsNeedTheirFormAndRole : Prop :=
  (∀ (c : Instr) (s : State) (ses : Fin 11) (v : String) (a : List String), c.verbOf = some (ses, v, a) →
    s.hw.sesReady ses = true → formCode v a ≠ 0 →
    Completes c s (fun k => Answered s.hw k ses [] (formCode v a) ∧ ∀ b, b ∉ [Blk.mywi, .note, .tally] → s.hw.same k b)) ∧
  (∀ (c : Instr) (s : State) (ses : Fin 11) (v : String) (a : List String), c.verbOf = some (ses, v, a) →
    s.hw.sesReady ses = true → formCode v a = 0 → v ≠ "auth" → s.hw.role ses = 0 →
    Completes c s (fun k => Answered s.hw k ses [] 404 ∧ ∀ b, b ∉ [Blk.mywi, .note, .tally] → s.hw.same k b)) ∧
  (∀ (s : State) (ses : Fin 11) (p t : String) (x : Key), Ready s ses 1 → formCode "set" [p, t] = 0 →
    (s.hw.lined ses).place ((s.hw.lined ses).inTxn ses) p = .leaf x → x.p.row.canSet = true → s.hw.role ses < x.p.row.role →
    Completes (.mywiSet ses [p, t]) s (fun k => Answered s.hw k ses [] 401 ∧ ∀ b, b ∉ [Blk.mywi, .note, .tally] → s.hw.same k b))

/-! ## Frames: what each command leaves as it is -/

/-- Time, references, steering, wavefronts and Store: a command leaves the queue and every part of the hardware that it
may not write as they are. The model's own choices it rests on: notes/assumptions entry 20. -/
def Obligations.TimekeepingCommandsFrame : Prop := ∀ (c : Instr) (s : State), c.family = .timekeeping → Framed c s

/-- Ports, measurement, outputs, serving and signing: a command leaves the queue and every part of the hardware that it
may not write as they are. The model's own choices it rests on: notes/assumptions entry 20. -/
def Obligations.ServingCommandsFrame : Prop := ∀ (c : Instr) (s : State), c.family = .serving → Framed c s

/-- Lattice and Deckline: a command leaves the queue and every part of the hardware that it may not write as they are. The
model's own choices it rests on: notes/assumptions entry 20. -/
def Obligations.NetworkCommandsFrame : Prop := ∀ (c : Instr) (s : State), c.family = .networks → Framed c s

/-- Ibex, DMA, events, tallies and register accesses: a command leaves the queue and every part of the hardware that it
may not write as they are. The model's own choices it rests on: notes/assumptions entries 20, 66. -/
def Obligations.EngineCommandsFrame : Prop := ∀ (c : Instr) (s : State), c.family = .engines → Framed c s

/-- Mywi's lines and transports, transactions and images: a command leaves the queue and every part of the hardware that
it may not write as they are. The model's own choices it rests on: notes/assumptions entry 20. -/
def Obligations.ConsoleCommandsFrame : Prop := ∀ (c : Instr) (s : State), c.family = .console → Framed c s

/-- Resets, boot, restarts and power: outside OFF, where a wake event is a cold reset, a command leaves the queue and
every part of the hardware that it may not write as they are. The model's own choices it rests on: notes/assumptions
entry 20. -/
def Obligations.PowerCommandsFrame : Prop :=
  ∀ (c : Instr) (s : State), c.family = .power → s.hw.pwr.st ≠ .off → Framed c s

/-- A command about one Lattice link, Deckline segment, Ethernet port, Ibex channel or DMA channel leaves the others as
they are. -/
def Obligations.UnitsKeepToThemselves : Prop :=
  (∀ (c : Instr) (s t : State) (n m : Fin 4), c.link = some n → m ≠ n → exec c s = .next t →
    t.hw.lat.link[m] = s.hw.lat.link[m]) ∧
  (∀ (c : Instr) (s t : State) (n m : Fin 2), c.segment = some n → m ≠ n → exec c s = .next t →
    t.hw.deck.dk[m] = s.hw.deck.dk[m]) ∧
  (∀ (c : Instr) (s t : State) (n m : Fin 4), c.portNo = some n → m ≠ n → exec c s = .next t →
    t.hw.port.p[m] = s.hw.port.p[m]) ∧
  (∀ (c : Instr) (s t : State) (n m : Fin 32), c.herdNo = some n → m ≠ n → exec c s = .next t →
    t.hw.ibex.ch[m] = s.hw.ibex.ch[m]) ∧
  (∀ (c : Instr) (s t : State) (n m : Fin 16), c.dmaNo = some n → m ≠ n → exec c s = .next t →
    t.hw.dma.ch[m] = s.hw.dma.ch[m])

/-! ## Single rules -/

/-- R135: a line that holds only spaces, or nothing, is taken from the input and answered by nothing but the prompt, which
is empty when the prompt is off; no line and no error is counted. What waits for the session then moves on (R144,
R147). -/
def Obligations.EmptyLinesAreIgnored : Prop :=
  ∀ (s : State) (ses : Fin 11) (l r : List InItem), s.hw.sesReady ses = true →
    firstLine (s.hw.mywi.sess[ses]).inBuf = some (l, r) → (∀ x ∈ l, x = .byte 0x20) →
    Completes (.mywiLine ses) s (fun k =>
      k = ((s.hw.updSes ses (fun x => { x with inBuf := r, out := x.out ++ x.promptText })).pump ses).inMoved ses ∧
      k.mywi.lines = s.hw.mywi.lines ∧ k.mywi.errs = s.hw.mywi.errs)

/-- R34: while a smear window is in progress, `set utc.smear` and `set utc.smear.window` are answered with E403 and change
neither the settings nor the window; in a session without a transaction, when nothing withholds the path (R98, R465). -/
def Obligations.SmearWindowRefusesItsSettings : Prop :=
  ∀ (s : State) (ses : Fin 11) (x : PathId) (t : String) (v : SVal), (x = .utcSmear ∨ x = .utcSmearWindow) →
    Ready s ses x.row.role → (s.hw.mywi.sess[ses]).txn = none → s.hw.time.smear.isSome = true →
    parseValue x.row.vt t = .ok v → s.hw.switchPending = false → s.hw.inWindow ⟨x, 0, 0⟩ = false →
    Completes (.mywiSet ses [if x = .utcSmear then "utc.smear" else "utc.smear.window", t]) s (fun k =>
      k.sett = s.hw.sett ∧ k.time = s.hw.time ∧ Answered s.hw k ses [] 403)

/-- R67: a value of `keep.retain` that omits bank 6 or bank 7 is refused with E302, and the setting is unchanged, whether
it is set at once or staged in a transaction. -/
def Obligations.RetainedBanksKeep6And7 : Prop :=
  ∀ (s : State) (ses : Fin 11) (t : String) (l : List Nat), Ready s ses PathId.keepRetain.row.role →
    natList 0 15 t.toList = .ok l → ¬ (6 ∈ l ∧ 7 ∈ l) →
    Completes (.mywiSet ses ["keep.retain", t]) s (fun k =>
      k.sett = s.hw.sett ∧ (k.mywi.sess[ses]).txn = (s.hw.mywi.sess[ses]).txn ∧ Answered s.hw k ses [] 302)
end

