-- ==== Sys2Proof/Laws/Bytes.lean ====
section
/-!
SUPPORT. Numbers as bytes: lengths, and the number that a byte string spells.
-/
set_option autoImplicit false

namespace Sys2Proof.Machine

@[simp] theorem beBytes_length (n v : Nat) : (beBytes n v).length = n := by
  induction n generalizing v with
  | zero => rfl
  | succ n ih => simp [beBytes, ih]

@[simp] theorem leBytes_length (n v : Nat) : (leBytes n v).length = n := by
  induction n generalizing v with
  | zero => rfl
  | succ n ih => simp [leBytes, ih]

theorem beNat_append (l m : List Byte) : beNat (l ++ m) = m.foldl (fun a b => a * 256 + b.toNat) (beNat l) := by
  simp [beNat, List.foldl_append]

/-- The number that the bytes of a number spell, most significant first. -/
theorem beNat_beBytes (n v : Nat) : beNat (beBytes n v) = v % 256 ^ n := by
  induction n generalizing v with
  | zero => simp [beBytes, beNat, Nat.mod_one]
  | succ n ih =>
    simp only [beBytes, beNat_append, ih, List.foldl_cons, List.foldl_nil, BitVec.toNat_ofNat]
    rw [show (2 : Nat) ^ 8 = 256 from rfl, show (256 : Nat) ^ (n + 1) = 256 * 256 ^ n from by rw [pow_succ, mul_comm],
      Nat.mod_mul, add_comm, mul_comm]

/-- The same, least significant first. -/
theorem leNat_leBytes (n v : Nat) : leNat (leBytes n v) = v % 256 ^ n := by
  induction n generalizing v with
  | zero => simp [leBytes, leNat, Nat.mod_one]
  | succ n ih =>
    simp only [leBytes, leNat, ih, BitVec.toNat_ofNat]
    rw [show (2 : Nat) ^ 8 = 256 from rfl, show (256 : Nat) ^ (n + 1) = 256 * 256 ^ n from by rw [pow_succ, mul_comm],
      Nat.mod_mul]

/-- NODE_ID has 64 bits. -/
theorem nodeId_lt : nodeId < 256 ^ 8 := by
  unfold nodeId; have := identityFp.isLt; omega

end Sys2Proof.Machine
end

