-- ==== Sys2Proof/Laws/Fields.lean ====
section
/-!
SUPPORT. Projections of a part through `if` and through a fold whose step leaves it.
-/
set_option autoImplicit false

namespace Sys2Proof.Machine

@[simp] theorem ite_time (c : Prop) [Decidable c] (a b : Hw) : (if c then a else b).time = if c then a.time else b.time := by split <;> rfl
theorem foldl_time {α : Type} (g : Hw → α → Hw)
    (l : List α) (h : Hw) (H : ∀ b a, (g b a).time = b.time) : (l.foldl g h).time = h.time := by
  induction l generalizing h with
  | nil => rfl
  | cons x r ih => simp [ih, H]
@[simp] theorem ite_sys (c : Prop) [Decidable c] (a b : Hw) : (if c then a else b).sys = if c then a.sys else b.sys := by split <;> rfl
theorem foldl_sys {α : Type} (g : Hw → α → Hw)
    (l : List α) (h : Hw) (H : ∀ b a, (g b a).sys = b.sys) : (l.foldl g h).sys = h.sys := by
  induction l generalizing h with
  | nil => rfl
  | cons x r ih => simp [ih, H]
@[simp] theorem ite_wave (c : Prop) [Decidable c] (a b : Hw) : (if c then a else b).wave = if c then a.wave else b.wave := by split <;> rfl
theorem foldl_wave {α : Type} (g : Hw → α → Hw)
    (l : List α) (h : Hw) (H : ∀ b a, (g b a).wave = b.wave) : (l.foldl g h).wave = h.wave := by
  induction l generalizing h with
  | nil => rfl
  | cons x r ih => simp [ih, H]
@[simp] theorem ite_note (c : Prop) [Decidable c] (a b : Hw) : (if c then a else b).note = if c then a.note else b.note := by split <;> rfl
theorem foldl_note {α : Type} (g : Hw → α → Hw)
    (l : List α) (h : Hw) (H : ∀ b a, (g b a).note = b.note) : (l.foldl g h).note = h.note := by
  induction l generalizing h with
  | nil => rfl
  | cons x r ih => simp [ih, H]
@[simp] theorem ite_mywi (c : Prop) [Decidable c] (a b : Hw) : (if c then a else b).mywi = if c then a.mywi else b.mywi := by split <;> rfl
theorem foldl_mywi {α : Type} (g : Hw → α → Hw)
    (l : List α) (h : Hw) (H : ∀ b a, (g b a).mywi = b.mywi) : (l.foldl g h).mywi = h.mywi := by
  induction l generalizing h with
  | nil => rfl
  | cons x r ih => simp [ih, H]
@[simp] theorem ite_txn (c : Prop) [Decidable c] (a b : Hw) : (if c then a else b).txn = if c then a.txn else b.txn := by split <;> rfl
theorem foldl_txn {α : Type} (g : Hw → α → Hw)
    (l : List α) (h : Hw) (H : ∀ b a, (g b a).txn = b.txn) : (l.foldl g h).txn = h.txn := by
  induction l generalizing h with
  | nil => rfl
  | cons x r ih => simp [ih, H]
@[simp] theorem ite_sett (c : Prop) [Decidable c] (a b : Hw) : (if c then a else b).sett = if c then a.sett else b.sett := by split <;> rfl
theorem foldl_sett {α : Type} (g : Hw → α → Hw)
    (l : List α) (h : Hw) (H : ∀ b a, (g b a).sett = b.sett) : (l.foldl g h).sett = h.sett := by
  induction l generalizing h with
  | nil => rfl
  | cons x r ih => simp [ih, H]
@[simp] theorem ite_ref (c : Prop) [Decidable c] (a b : Hw) : (if c then a else b).ref = if c then a.ref else b.ref := by split <;> rfl
theorem foldl_ref {α : Type} (g : Hw → α → Hw)
    (l : List α) (h : Hw) (H : ∀ b a, (g b a).ref = b.ref) : (l.foldl g h).ref = h.ref := by
  induction l generalizing h with
  | nil => rfl
  | cons x r ih => simp [ih, H]
@[simp] theorem ite_steer (c : Prop) [Decidable c] (a b : Hw) : (if c then a else b).steer = if c then a.steer else b.steer := by split <;> rfl
theorem foldl_steer {α : Type} (g : Hw → α → Hw)
    (l : List α) (h : Hw) (H : ∀ b a, (g b a).steer = b.steer) : (l.foldl g h).steer = h.steer := by
  induction l generalizing h with
  | nil => rfl
  | cons x r ih => simp [ih, H]
@[simp] theorem ite_sealU (c : Prop) [Decidable c] (a b : Hw) : (if c then a else b).sealU = if c then a.sealU else b.sealU := by split <;> rfl
theorem foldl_sealU {α : Type} (g : Hw → α → Hw)
    (l : List α) (h : Hw) (H : ∀ b a, (g b a).sealU = b.sealU) : (l.foldl g h).sealU = h.sealU := by
  induction l generalizing h with
  | nil => rfl
  | cons x r ih => simp [ih, H]
@[simp] theorem ite_store (c : Prop) [Decidable c] (a b : Hw) : (if c then a else b).store = if c then a.store else b.store := by split <;> rfl
theorem foldl_store {α : Type} (g : Hw → α → Hw)
    (l : List α) (h : Hw) (H : ∀ b a, (g b a).store = b.store) : (l.foldl g h).store = h.store := by
  induction l generalizing h with
  | nil => rfl
  | cons x r ih => simp [ih, H]
@[simp] theorem ite_keep (c : Prop) [Decidable c] (a b : Hw) : (if c then a else b).keep = if c then a.keep else b.keep := by split <;> rfl
theorem foldl_keep {α : Type} (g : Hw → α → Hw)
    (l : List α) (h : Hw) (H : ∀ b a, (g b a).keep = b.keep) : (l.foldl g h).keep = h.keep := by
  induction l generalizing h with
  | nil => rfl
  | cons x r ih => simp [ih, H]
@[simp] theorem ite_keepSeed (c : Prop) [Decidable c] (a b : Hw) : (if c then a else b).keepSeed = if c then a.keepSeed else b.keepSeed := by split <;> rfl
theorem foldl_keepSeed {α : Type} (g : Hw → α → Hw)
    (l : List α) (h : Hw) (H : ∀ b a, (g b a).keepSeed = b.keepSeed) : (l.foldl g h).keepSeed = h.keepSeed := by
  induction l generalizing h with
  | nil => rfl
  | cons x r ih => simp [ih, H]
@[simp] theorem ite_evt (c : Prop) [Decidable c] (a b : Hw) : (if c then a else b).evt = if c then a.evt else b.evt := by split <;> rfl
theorem foldl_evt {α : Type} (g : Hw → α → Hw)
    (l : List α) (h : Hw) (H : ∀ b a, (g b a).evt = b.evt) : (l.foldl g h).evt = h.evt := by
  induction l generalizing h with
  | nil => rfl
  | cons x r ih => simp [ih, H]
@[simp] theorem ite_port (c : Prop) [Decidable c] (a b : Hw) : (if c then a else b).port = if c then a.port else b.port := by split <;> rfl
theorem foldl_port {α : Type} (g : Hw → α → Hw)
    (l : List α) (h : Hw) (H : ∀ b a, (g b a).port = b.port) : (l.foldl g h).port = h.port := by
  induction l generalizing h with
  | nil => rfl
  | cons x r ih => simp [ih, H]
@[simp] theorem ite_prong (c : Prop) [Decidable c] (a b : Hw) : (if c then a else b).prong = if c then a.prong else b.prong := by split <;> rfl
theorem foldl_prong {α : Type} (g : Hw → α → Hw)
    (l : List α) (h : Hw) (H : ∀ b a, (g b a).prong = b.prong) : (l.foldl g h).prong = h.prong := by
  induction l generalizing h with
  | nil => rfl
  | cons x r ih => simp [ih, H]
@[simp] theorem ite_pwr (c : Prop) [Decidable c] (a b : Hw) : (if c then a else b).pwr = if c then a.pwr else b.pwr := by split <;> rfl
theorem foldl_pwr {α : Type} (g : Hw → α → Hw)
    (l : List α) (h : Hw) (H : ∀ b a, (g b a).pwr = b.pwr) : (l.foldl g h).pwr = h.pwr := by
  induction l generalizing h with
  | nil => rfl
  | cons x r ih => simp [ih, H]
@[simp] theorem ite_cal (c : Prop) [Decidable c] (a b : Hw) : (if c then a else b).cal = if c then a.cal else b.cal := by split <;> rfl
theorem foldl_cal {α : Type} (g : Hw → α → Hw)
    (l : List α) (h : Hw) (H : ∀ b a, (g b a).cal = b.cal) : (l.foldl g h).cal = h.cal := by
  induction l generalizing h with
  | nil => rfl
  | cons x r ih => simp [ih, H]
@[simp] theorem ite_out (c : Prop) [Decidable c] (a b : Hw) : (if c then a else b).out = if c then a.out else b.out := by split <;> rfl
theorem foldl_out {α : Type} (g : Hw → α → Hw)
    (l : List α) (h : Hw) (H : ∀ b a, (g b a).out = b.out) : (l.foldl g h).out = h.out := by
  induction l generalizing h with
  | nil => rfl
  | cons x r ih => simp [ih, H]
@[simp] theorem ite_lat (c : Prop) [Decidable c] (a b : Hw) : (if c then a else b).lat = if c then a.lat else b.lat := by split <;> rfl
theorem foldl_lat {α : Type} (g : Hw → α → Hw)
    (l : List α) (h : Hw) (H : ∀ b a, (g b a).lat = b.lat) : (l.foldl g h).lat = h.lat := by
  induction l generalizing h with
  | nil => rfl
  | cons x r ih => simp [ih, H]
@[simp] theorem ite_deck (c : Prop) [Decidable c] (a b : Hw) : (if c then a else b).deck = if c then a.deck else b.deck := by split <;> rfl
theorem foldl_deck {α : Type} (g : Hw → α → Hw)
    (l : List α) (h : Hw) (H : ∀ b a, (g b a).deck = b.deck) : (l.foldl g h).deck = h.deck := by
  induction l generalizing h with
  | nil => rfl
  | cons x r ih => simp [ih, H]
@[simp] theorem ite_ibex (c : Prop) [Decidable c] (a b : Hw) : (if c then a else b).ibex = if c then a.ibex else b.ibex := by split <;> rfl
theorem foldl_ibex {α : Type} (g : Hw → α → Hw)
    (l : List α) (h : Hw) (H : ∀ b a, (g b a).ibex = b.ibex) : (l.foldl g h).ibex = h.ibex := by
  induction l generalizing h with
  | nil => rfl
  | cons x r ih => simp [ih, H]
@[simp] theorem ite_dma (c : Prop) [Decidable c] (a b : Hw) : (if c then a else b).dma = if c then a.dma else b.dma := by split <;> rfl
theorem foldl_dma {α : Type} (g : Hw → α → Hw)
    (l : List α) (h : Hw) (H : ∀ b a, (g b a).dma = b.dma) : (l.foldl g h).dma = h.dma := by
  induction l generalizing h with
  | nil => rfl
  | cons x r ih => simp [ih, H]
@[simp] theorem ite_tally (c : Prop) [Decidable c] (a b : Hw) : (if c then a else b).tally = if c then a.tally else b.tally := by split <;> rfl
theorem foldl_tally {α : Type} (g : Hw → α → Hw)
    (l : List α) (h : Hw) (H : ∀ b a, (g b a).tally = b.tally) : (l.foldl g h).tally = h.tally := by
  induction l generalizing h with
  | nil => rfl
  | cons x r ih => simp [ih, H]
@[simp] theorem ite_img (c : Prop) [Decidable c] (a b : Hw) : (if c then a else b).img = if c then a.img else b.img := by split <;> rfl
theorem foldl_img {α : Type} (g : Hw → α → Hw)
    (l : List α) (h : Hw) (H : ∀ b a, (g b a).img = b.img) : (l.foldl g h).img = h.img := by
  induction l generalizing h with
  | nil => rfl
  | cons x r ih => simp [ih, H]
@[simp] theorem ite_free (c : Prop) [Decidable c] (a b : Hw) : (if c then a else b).free = if c then a.free else b.free := by split <;> rfl
theorem foldl_free {α : Type} (g : Hw → α → Hw)
    (l : List α) (h : Hw) (H : ∀ b a, (g b a).free = b.free) : (l.foldl g h).free = h.free := by
  induction l generalizing h with
  | nil => rfl
  | cons x r ih => simp [ih, H]

end Sys2Proof.Machine
end

