-- ==== Sys2Proof/Laws/Frames.lean ====
section
/-!
SUPPORT. What each shared operation leaves as it is: `OnlyX h k` says that `k` differs from `h` in the parts X names at most
(`KeepsX`: that the parts X names are the same). One lemma an operation, cited instead of unfolding it.
-/
set_option autoImplicit false
set_option linter.unusedSimpArgs false
set_option linter.unusedTactic false
set_option linter.unreachableTactic false
set_option linter.all false
set_option maxRecDepth 4000

namespace Sys2Proof.Machine

abbrev OnlyIbex (h k : Hw) : Prop :=
  k.time = h.time ∧ k.sys = h.sys ∧ k.wave = h.wave ∧ k.note = h.note ∧ k.mywi = h.mywi ∧ k.txn = h.txn ∧ k.sett = h.sett ∧ k.ref = h.ref ∧ k.steer = h.steer ∧ k.sealU = h.sealU ∧ k.store = h.store ∧ k.keep = h.keep ∧ k.keepSeed = h.keepSeed ∧ k.evt = h.evt ∧ k.port = h.port ∧ k.prong = h.prong ∧ k.pwr = h.pwr ∧ k.cal = h.cal ∧ k.out = h.out ∧ k.lat = h.lat ∧ k.deck = h.deck ∧ k.dma = h.dma ∧ k.tally = h.tally ∧ k.img = h.img ∧ k.free = h.free
abbrev OnlyMywi (h k : Hw) : Prop :=
  k.time = h.time ∧ k.sys = h.sys ∧ k.wave = h.wave ∧ k.note = h.note ∧ k.txn = h.txn ∧ k.sett = h.sett ∧ k.ref = h.ref ∧ k.steer = h.steer ∧ k.sealU = h.sealU ∧ k.store = h.store ∧ k.keep = h.keep ∧ k.keepSeed = h.keepSeed ∧ k.evt = h.evt ∧ k.port = h.port ∧ k.prong = h.prong ∧ k.pwr = h.pwr ∧ k.cal = h.cal ∧ k.out = h.out ∧ k.lat = h.lat ∧ k.deck = h.deck ∧ k.ibex = h.ibex ∧ k.dma = h.dma ∧ k.tally = h.tally ∧ k.img = h.img ∧ k.free = h.free
abbrev OnlyNote (h k : Hw) : Prop :=
  k.time = h.time ∧ k.sys = h.sys ∧ k.wave = h.wave ∧ k.mywi = h.mywi ∧ k.txn = h.txn ∧ k.sett = h.sett ∧ k.ref = h.ref ∧ k.steer = h.steer ∧ k.sealU = h.sealU ∧ k.store = h.store ∧ k.keep = h.keep ∧ k.keepSeed = h.keepSeed ∧ k.evt = h.evt ∧ k.port = h.port ∧ k.prong = h.prong ∧ k.pwr = h.pwr ∧ k.cal = h.cal ∧ k.out = h.out ∧ k.lat = h.lat ∧ k.deck = h.deck ∧ k.ibex = h.ibex ∧ k.dma = h.dma ∧ k.tally = h.tally ∧ k.img = h.img ∧ k.free = h.free
abbrev OnlyNoteMywi (h k : Hw) : Prop :=
  k.time = h.time ∧ k.sys = h.sys ∧ k.wave = h.wave ∧ k.txn = h.txn ∧ k.sett = h.sett ∧ k.ref = h.ref ∧ k.steer = h.steer ∧ k.sealU = h.sealU ∧ k.store = h.store ∧ k.keep = h.keep ∧ k.keepSeed = h.keepSeed ∧ k.evt = h.evt ∧ k.port = h.port ∧ k.prong = h.prong ∧ k.pwr = h.pwr ∧ k.cal = h.cal ∧ k.out = h.out ∧ k.lat = h.lat ∧ k.deck = h.deck ∧ k.ibex = h.ibex ∧ k.dma = h.dma ∧ k.tally = h.tally ∧ k.img = h.img ∧ k.free = h.free
abbrev OnlyNoteMywiTally (h k : Hw) : Prop :=
  k.time = h.time ∧ k.sys = h.sys ∧ k.wave = h.wave ∧ k.txn = h.txn ∧ k.sett = h.sett ∧ k.ref = h.ref ∧ k.steer = h.steer ∧ k.sealU = h.sealU ∧ k.store = h.store ∧ k.keep = h.keep ∧ k.keepSeed = h.keepSeed ∧ k.evt = h.evt ∧ k.port = h.port ∧ k.prong = h.prong ∧ k.pwr = h.pwr ∧ k.cal = h.cal ∧ k.out = h.out ∧ k.lat = h.lat ∧ k.deck = h.deck ∧ k.ibex = h.ibex ∧ k.dma = h.dma ∧ k.img = h.img ∧ k.free = h.free
abbrev OnlyNoteMywiIbexTally (h k : Hw) : Prop :=
  k.time = h.time ∧ k.sys = h.sys ∧ k.wave = h.wave ∧ k.txn = h.txn ∧ k.sett = h.sett ∧ k.ref = h.ref ∧ k.steer = h.steer ∧ k.sealU = h.sealU ∧ k.store = h.store ∧ k.keep = h.keep ∧ k.keepSeed = h.keepSeed ∧ k.evt = h.evt ∧ k.port = h.port ∧ k.prong = h.prong ∧ k.pwr = h.pwr ∧ k.cal = h.cal ∧ k.out = h.out ∧ k.lat = h.lat ∧ k.deck = h.deck ∧ k.dma = h.dma ∧ k.img = h.img ∧ k.free = h.free
abbrev OnlySys (h k : Hw) : Prop :=
  k.time = h.time ∧ k.wave = h.wave ∧ k.note = h.note ∧ k.mywi = h.mywi ∧ k.txn = h.txn ∧ k.sett = h.sett ∧ k.ref = h.ref ∧ k.steer = h.steer ∧ k.sealU = h.sealU ∧ k.store = h.store ∧ k.keep = h.keep ∧ k.keepSeed = h.keepSeed ∧ k.evt = h.evt ∧ k.port = h.port ∧ k.prong = h.prong ∧ k.pwr = h.pwr ∧ k.cal = h.cal ∧ k.out = h.out ∧ k.lat = h.lat ∧ k.deck = h.deck ∧ k.ibex = h.ibex ∧ k.dma = h.dma ∧ k.tally = h.tally ∧ k.img = h.img ∧ k.free = h.free
abbrev OnlySysNoteMywiIbex (h k : Hw) : Prop :=
  k.time = h.time ∧ k.wave = h.wave ∧ k.txn = h.txn ∧ k.sett = h.sett ∧ k.ref = h.ref ∧ k.steer = h.steer ∧ k.sealU = h.sealU ∧ k.store = h.store ∧ k.keep = h.keep ∧ k.keepSeed = h.keepSeed ∧ k.evt = h.evt ∧ k.port = h.port ∧ k.prong = h.prong ∧ k.pwr = h.pwr ∧ k.cal = h.cal ∧ k.out = h.out ∧ k.lat = h.lat ∧ k.deck = h.deck ∧ k.dma = h.dma ∧ k.tally = h.tally ∧ k.img = h.img ∧ k.free = h.free
abbrev OnlySysNoteMywiIbexTally (h k : Hw) : Prop :=
  k.time = h.time ∧ k.wave = h.wave ∧ k.txn = h.txn ∧ k.sett = h.sett ∧ k.ref = h.ref ∧ k.steer = h.steer ∧ k.sealU = h.sealU ∧ k.store = h.store ∧ k.keep = h.keep ∧ k.keepSeed = h.keepSeed ∧ k.evt = h.evt ∧ k.port = h.port ∧ k.prong = h.prong ∧ k.pwr = h.pwr ∧ k.cal = h.cal ∧ k.out = h.out ∧ k.lat = h.lat ∧ k.deck = h.deck ∧ k.dma = h.dma ∧ k.img = h.img ∧ k.free = h.free
abbrev OnlyPwr (h k : Hw) : Prop :=
  k.time = h.time ∧ k.sys = h.sys ∧ k.wave = h.wave ∧ k.note = h.note ∧ k.mywi = h.mywi ∧ k.txn = h.txn ∧ k.sett = h.sett ∧ k.ref = h.ref ∧ k.steer = h.steer ∧ k.sealU = h.sealU ∧ k.store = h.store ∧ k.keep = h.keep ∧ k.keepSeed = h.keepSeed ∧ k.evt = h.evt ∧ k.port = h.port ∧ k.prong = h.prong ∧ k.cal = h.cal ∧ k.out = h.out ∧ k.lat = h.lat ∧ k.deck = h.deck ∧ k.ibex = h.ibex ∧ k.dma = h.dma ∧ k.tally = h.tally ∧ k.img = h.img ∧ k.free = h.free
abbrev OnlyPort (h k : Hw) : Prop :=
  k.time = h.time ∧ k.sys = h.sys ∧ k.wave = h.wave ∧ k.note = h.note ∧ k.mywi = h.mywi ∧ k.txn = h.txn ∧ k.sett = h.sett ∧ k.ref = h.ref ∧ k.steer = h.steer ∧ k.sealU = h.sealU ∧ k.store = h.store ∧ k.keep = h.keep ∧ k.keepSeed = h.keepSeed ∧ k.evt = h.evt ∧ k.prong = h.prong ∧ k.pwr = h.pwr ∧ k.cal = h.cal ∧ k.out = h.out ∧ k.lat = h.lat ∧ k.deck = h.deck ∧ k.ibex = h.ibex ∧ k.dma = h.dma ∧ k.tally = h.tally ∧ k.img = h.img ∧ k.free = h.free
abbrev OnlyNoteMywiPortTally (h k : Hw) : Prop :=
  k.time = h.time ∧ k.sys = h.sys ∧ k.wave = h.wave ∧ k.txn = h.txn ∧ k.sett = h.sett ∧ k.ref = h.ref ∧ k.steer = h.steer ∧ k.sealU = h.sealU ∧ k.store = h.store ∧ k.keep = h.keep ∧ k.keepSeed = h.keepSeed ∧ k.evt = h.evt ∧ k.prong = h.prong ∧ k.pwr = h.pwr ∧ k.cal = h.cal ∧ k.out = h.out ∧ k.lat = h.lat ∧ k.deck = h.deck ∧ k.ibex = h.ibex ∧ k.dma = h.dma ∧ k.img = h.img ∧ k.free = h.free
abbrev OnlyRef (h k : Hw) : Prop :=
  k.time = h.time ∧ k.sys = h.sys ∧ k.wave = h.wave ∧ k.note = h.note ∧ k.mywi = h.mywi ∧ k.txn = h.txn ∧ k.sett = h.sett ∧ k.steer = h.steer ∧ k.sealU = h.sealU ∧ k.store = h.store ∧ k.keep = h.keep ∧ k.keepSeed = h.keepSeed ∧ k.evt = h.evt ∧ k.port = h.port ∧ k.prong = h.prong ∧ k.pwr = h.pwr ∧ k.cal = h.cal ∧ k.out = h.out ∧ k.lat = h.lat ∧ k.deck = h.deck ∧ k.ibex = h.ibex ∧ k.dma = h.dma ∧ k.tally = h.tally ∧ k.img = h.img ∧ k.free = h.free
abbrev OnlyNoteMywiRefPortTally (h k : Hw) : Prop :=
  k.time = h.time ∧ k.sys = h.sys ∧ k.wave = h.wave ∧ k.txn = h.txn ∧ k.sett = h.sett ∧ k.steer = h.steer ∧ k.sealU = h.sealU ∧ k.store = h.store ∧ k.keep = h.keep ∧ k.keepSeed = h.keepSeed ∧ k.evt = h.evt ∧ k.prong = h.prong ∧ k.pwr = h.pwr ∧ k.cal = h.cal ∧ k.out = h.out ∧ k.lat = h.lat ∧ k.deck = h.deck ∧ k.ibex = h.ibex ∧ k.dma = h.dma ∧ k.img = h.img ∧ k.free = h.free
abbrev OnlyProng (h k : Hw) : Prop :=
  k.time = h.time ∧ k.sys = h.sys ∧ k.wave = h.wave ∧ k.note = h.note ∧ k.mywi = h.mywi ∧ k.txn = h.txn ∧ k.sett = h.sett ∧ k.ref = h.ref ∧ k.steer = h.steer ∧ k.sealU = h.sealU ∧ k.store = h.store ∧ k.keep = h.keep ∧ k.keepSeed = h.keepSeed ∧ k.evt = h.evt ∧ k.port = h.port ∧ k.pwr = h.pwr ∧ k.cal = h.cal ∧ k.out = h.out ∧ k.lat = h.lat ∧ k.deck = h.deck ∧ k.ibex = h.ibex ∧ k.dma = h.dma ∧ k.tally = h.tally ∧ k.img = h.img ∧ k.free = h.free
abbrev OnlySealU (h k : Hw) : Prop :=
  k.time = h.time ∧ k.sys = h.sys ∧ k.wave = h.wave ∧ k.note = h.note ∧ k.mywi = h.mywi ∧ k.txn = h.txn ∧ k.sett = h.sett ∧ k.ref = h.ref ∧ k.steer = h.steer ∧ k.store = h.store ∧ k.keep = h.keep ∧ k.keepSeed = h.keepSeed ∧ k.evt = h.evt ∧ k.port = h.port ∧ k.prong = h.prong ∧ k.pwr = h.pwr ∧ k.cal = h.cal ∧ k.out = h.out ∧ k.lat = h.lat ∧ k.deck = h.deck ∧ k.ibex = h.ibex ∧ k.dma = h.dma ∧ k.tally = h.tally ∧ k.img = h.img ∧ k.free = h.free
abbrev OnlyLat (h k : Hw) : Prop :=
  k.time = h.time ∧ k.sys = h.sys ∧ k.wave = h.wave ∧ k.note = h.note ∧ k.mywi = h.mywi ∧ k.txn = h.txn ∧ k.sett = h.sett ∧ k.ref = h.ref ∧ k.steer = h.steer ∧ k.sealU = h.sealU ∧ k.store = h.store ∧ k.keep = h.keep ∧ k.keepSeed = h.keepSeed ∧ k.evt = h.evt ∧ k.port = h.port ∧ k.prong = h.prong ∧ k.pwr = h.pwr ∧ k.cal = h.cal ∧ k.out = h.out ∧ k.deck = h.deck ∧ k.ibex = h.ibex ∧ k.dma = h.dma ∧ k.tally = h.tally ∧ k.img = h.img ∧ k.free = h.free
abbrev OnlyNoteMywiLat (h k : Hw) : Prop :=
  k.time = h.time ∧ k.sys = h.sys ∧ k.wave = h.wave ∧ k.txn = h.txn ∧ k.sett = h.sett ∧ k.ref = h.ref ∧ k.steer = h.steer ∧ k.sealU = h.sealU ∧ k.store = h.store ∧ k.keep = h.keep ∧ k.keepSeed = h.keepSeed ∧ k.evt = h.evt ∧ k.port = h.port ∧ k.prong = h.prong ∧ k.pwr = h.pwr ∧ k.cal = h.cal ∧ k.out = h.out ∧ k.deck = h.deck ∧ k.ibex = h.ibex ∧ k.dma = h.dma ∧ k.tally = h.tally ∧ k.img = h.img ∧ k.free = h.free
abbrev OnlyNoteMywiRefLat (h k : Hw) : Prop :=
  k.time = h.time ∧ k.sys = h.sys ∧ k.wave = h.wave ∧ k.txn = h.txn ∧ k.sett = h.sett ∧ k.steer = h.steer ∧ k.sealU = h.sealU ∧ k.store = h.store ∧ k.keep = h.keep ∧ k.keepSeed = h.keepSeed ∧ k.evt = h.evt ∧ k.port = h.port ∧ k.prong = h.prong ∧ k.pwr = h.pwr ∧ k.cal = h.cal ∧ k.out = h.out ∧ k.deck = h.deck ∧ k.ibex = h.ibex ∧ k.dma = h.dma ∧ k.tally = h.tally ∧ k.img = h.img ∧ k.free = h.free
abbrev OnlySysNoteMywiRefLat (h k : Hw) : Prop :=
  k.time = h.time ∧ k.wave = h.wave ∧ k.txn = h.txn ∧ k.sett = h.sett ∧ k.steer = h.steer ∧ k.sealU = h.sealU ∧ k.store = h.store ∧ k.keep = h.keep ∧ k.keepSeed = h.keepSeed ∧ k.evt = h.evt ∧ k.port = h.port ∧ k.prong = h.prong ∧ k.pwr = h.pwr ∧ k.cal = h.cal ∧ k.out = h.out ∧ k.deck = h.deck ∧ k.ibex = h.ibex ∧ k.dma = h.dma ∧ k.tally = h.tally ∧ k.img = h.img ∧ k.free = h.free
abbrev OnlyDeck (h k : Hw) : Prop :=
  k.time = h.time ∧ k.sys = h.sys ∧ k.wave = h.wave ∧ k.note = h.note ∧ k.mywi = h.mywi ∧ k.txn = h.txn ∧ k.sett = h.sett ∧ k.ref = h.ref ∧ k.steer = h.steer ∧ k.sealU = h.sealU ∧ k.store = h.store ∧ k.keep = h.keep ∧ k.keepSeed = h.keepSeed ∧ k.evt = h.evt ∧ k.port = h.port ∧ k.prong = h.prong ∧ k.pwr = h.pwr ∧ k.cal = h.cal ∧ k.out = h.out ∧ k.lat = h.lat ∧ k.ibex = h.ibex ∧ k.dma = h.dma ∧ k.tally = h.tally ∧ k.img = h.img ∧ k.free = h.free
abbrev OnlySysRefDeck (h k : Hw) : Prop :=
  k.time = h.time ∧ k.wave = h.wave ∧ k.note = h.note ∧ k.mywi = h.mywi ∧ k.txn = h.txn ∧ k.sett = h.sett ∧ k.steer = h.steer ∧ k.sealU = h.sealU ∧ k.store = h.store ∧ k.keep = h.keep ∧ k.keepSeed = h.keepSeed ∧ k.evt = h.evt ∧ k.port = h.port ∧ k.prong = h.prong ∧ k.pwr = h.pwr ∧ k.cal = h.cal ∧ k.out = h.out ∧ k.lat = h.lat ∧ k.ibex = h.ibex ∧ k.dma = h.dma ∧ k.tally = h.tally ∧ k.img = h.img ∧ k.free = h.free
abbrev OnlyRefSteerCalOut (h k : Hw) : Prop :=
  k.time = h.time ∧ k.sys = h.sys ∧ k.wave = h.wave ∧ k.note = h.note ∧ k.mywi = h.mywi ∧ k.txn = h.txn ∧ k.sett = h.sett ∧ k.sealU = h.sealU ∧ k.store = h.store ∧ k.keep = h.keep ∧ k.keepSeed = h.keepSeed ∧ k.evt = h.evt ∧ k.port = h.port ∧ k.prong = h.prong ∧ k.pwr = h.pwr ∧ k.lat = h.lat ∧ k.deck = h.deck ∧ k.ibex = h.ibex ∧ k.dma = h.dma ∧ k.tally = h.tally ∧ k.img = h.img ∧ k.free = h.free
abbrev OnlySysStore (h k : Hw) : Prop :=
  k.time = h.time ∧ k.wave = h.wave ∧ k.note = h.note ∧ k.mywi = h.mywi ∧ k.txn = h.txn ∧ k.sett = h.sett ∧ k.ref = h.ref ∧ k.steer = h.steer ∧ k.sealU = h.sealU ∧ k.keep = h.keep ∧ k.keepSeed = h.keepSeed ∧ k.evt = h.evt ∧ k.port = h.port ∧ k.prong = h.prong ∧ k.pwr = h.pwr ∧ k.cal = h.cal ∧ k.out = h.out ∧ k.lat = h.lat ∧ k.deck = h.deck ∧ k.ibex = h.ibex ∧ k.dma = h.dma ∧ k.tally = h.tally ∧ k.img = h.img ∧ k.free = h.free
abbrev OnlyWave (h k : Hw) : Prop :=
  k.time = h.time ∧ k.sys = h.sys ∧ k.note = h.note ∧ k.mywi = h.mywi ∧ k.txn = h.txn ∧ k.sett = h.sett ∧ k.ref = h.ref ∧ k.steer = h.steer ∧ k.sealU = h.sealU ∧ k.store = h.store ∧ k.keep = h.keep ∧ k.keepSeed = h.keepSeed ∧ k.evt = h.evt ∧ k.port = h.port ∧ k.prong = h.prong ∧ k.pwr = h.pwr ∧ k.cal = h.cal ∧ k.out = h.out ∧ k.lat = h.lat ∧ k.deck = h.deck ∧ k.ibex = h.ibex ∧ k.dma = h.dma ∧ k.tally = h.tally ∧ k.img = h.img ∧ k.free = h.free
abbrev OnlyTally (h k : Hw) : Prop :=
  k.time = h.time ∧ k.sys = h.sys ∧ k.wave = h.wave ∧ k.note = h.note ∧ k.mywi = h.mywi ∧ k.txn = h.txn ∧ k.sett = h.sett ∧ k.ref = h.ref ∧ k.steer = h.steer ∧ k.sealU = h.sealU ∧ k.store = h.store ∧ k.keep = h.keep ∧ k.keepSeed = h.keepSeed ∧ k.evt = h.evt ∧ k.port = h.port ∧ k.prong = h.prong ∧ k.pwr = h.pwr ∧ k.cal = h.cal ∧ k.out = h.out ∧ k.lat = h.lat ∧ k.deck = h.deck ∧ k.ibex = h.ibex ∧ k.dma = h.dma ∧ k.img = h.img ∧ k.free = h.free
abbrev OnlyEvt (h k : Hw) : Prop :=
  k.time = h.time ∧ k.sys = h.sys ∧ k.wave = h.wave ∧ k.note = h.note ∧ k.mywi = h.mywi ∧ k.txn = h.txn ∧ k.sett = h.sett ∧ k.ref = h.ref ∧ k.steer = h.steer ∧ k.sealU = h.sealU ∧ k.store = h.store ∧ k.keep = h.keep ∧ k.keepSeed = h.keepSeed ∧ k.port = h.port ∧ k.prong = h.prong ∧ k.pwr = h.pwr ∧ k.cal = h.cal ∧ k.out = h.out ∧ k.lat = h.lat ∧ k.deck = h.deck ∧ k.ibex = h.ibex ∧ k.dma = h.dma ∧ k.tally = h.tally ∧ k.img = h.img ∧ k.free = h.free
abbrev OnlyStore (h k : Hw) : Prop :=
  k.time = h.time ∧ k.sys = h.sys ∧ k.wave = h.wave ∧ k.note = h.note ∧ k.mywi = h.mywi ∧ k.txn = h.txn ∧ k.sett = h.sett ∧ k.ref = h.ref ∧ k.steer = h.steer ∧ k.sealU = h.sealU ∧ k.keep = h.keep ∧ k.keepSeed = h.keepSeed ∧ k.evt = h.evt ∧ k.port = h.port ∧ k.prong = h.prong ∧ k.pwr = h.pwr ∧ k.cal = h.cal ∧ k.out = h.out ∧ k.lat = h.lat ∧ k.deck = h.deck ∧ k.ibex = h.ibex ∧ k.dma = h.dma ∧ k.tally = h.tally ∧ k.img = h.img ∧ k.free = h.free
abbrev OnlyNoteMywiSealU (h k : Hw) : Prop :=
  k.time = h.time ∧ k.sys = h.sys ∧ k.wave = h.wave ∧ k.txn = h.txn ∧ k.sett = h.sett ∧ k.ref = h.ref ∧ k.steer = h.steer ∧ k.store = h.store ∧ k.keep = h.keep ∧ k.keepSeed = h.keepSeed ∧ k.evt = h.evt ∧ k.port = h.port ∧ k.prong = h.prong ∧ k.pwr = h.pwr ∧ k.cal = h.cal ∧ k.out = h.out ∧ k.lat = h.lat ∧ k.deck = h.deck ∧ k.ibex = h.ibex ∧ k.dma = h.dma ∧ k.tally = h.tally ∧ k.img = h.img ∧ k.free = h.free
abbrev OnlyNoteMywiSealUStoreTally (h k : Hw) : Prop :=
  k.time = h.time ∧ k.sys = h.sys ∧ k.wave = h.wave ∧ k.txn = h.txn ∧ k.sett = h.sett ∧ k.ref = h.ref ∧ k.steer = h.steer ∧ k.keep = h.keep ∧ k.keepSeed = h.keepSeed ∧ k.evt = h.evt ∧ k.port = h.port ∧ k.prong = h.prong ∧ k.pwr = h.pwr ∧ k.cal = h.cal ∧ k.out = h.out ∧ k.lat = h.lat ∧ k.deck = h.deck ∧ k.ibex = h.ibex ∧ k.dma = h.dma ∧ k.img = h.img ∧ k.free = h.free
abbrev OnlySysNoteMywiSealUStoreTally (h k : Hw) : Prop :=
  k.time = h.time ∧ k.wave = h.wave ∧ k.txn = h.txn ∧ k.sett = h.sett ∧ k.ref = h.ref ∧ k.steer = h.steer ∧ k.keep = h.keep ∧ k.keepSeed = h.keepSeed ∧ k.evt = h.evt ∧ k.port = h.port ∧ k.prong = h.prong ∧ k.pwr = h.pwr ∧ k.cal = h.cal ∧ k.out = h.out ∧ k.lat = h.lat ∧ k.deck = h.deck ∧ k.ibex = h.ibex ∧ k.dma = h.dma ∧ k.img = h.img ∧ k.free = h.free
abbrev OnlySysNoteMywiSealUStoreEvtDeckTally (h k : Hw) : Prop :=
  k.time = h.time ∧ k.wave = h.wave ∧ k.txn = h.txn ∧ k.sett = h.sett ∧ k.ref = h.ref ∧ k.steer = h.steer ∧ k.keep = h.keep ∧ k.keepSeed = h.keepSeed ∧ k.port = h.port ∧ k.prong = h.prong ∧ k.pwr = h.pwr ∧ k.cal = h.cal ∧ k.out = h.out ∧ k.lat = h.lat ∧ k.ibex = h.ibex ∧ k.dma = h.dma ∧ k.img = h.img ∧ k.free = h.free
abbrev OnlySysNoteMywiRefSealUStoreEvtDeckTally (h k : Hw) : Prop :=
  k.time = h.time ∧ k.wave = h.wave ∧ k.txn = h.txn ∧ k.sett = h.sett ∧ k.steer = h.steer ∧ k.keep = h.keep ∧ k.keepSeed = h.keepSeed ∧ k.port = h.port ∧ k.prong = h.prong ∧ k.pwr = h.pwr ∧ k.cal = h.cal ∧ k.out = h.out ∧ k.lat = h.lat ∧ k.ibex = h.ibex ∧ k.dma = h.dma ∧ k.img = h.img ∧ k.free = h.free
abbrev OnlyCal (h k : Hw) : Prop :=
  k.time = h.time ∧ k.sys = h.sys ∧ k.wave = h.wave ∧ k.note = h.note ∧ k.mywi = h.mywi ∧ k.txn = h.txn ∧ k.sett = h.sett ∧ k.ref = h.ref ∧ k.steer = h.steer ∧ k.sealU = h.sealU ∧ k.store = h.store ∧ k.keep = h.keep ∧ k.keepSeed = h.keepSeed ∧ k.evt = h.evt ∧ k.port = h.port ∧ k.prong = h.prong ∧ k.pwr = h.pwr ∧ k.out = h.out ∧ k.lat = h.lat ∧ k.deck = h.deck ∧ k.ibex = h.ibex ∧ k.dma = h.dma ∧ k.tally = h.tally ∧ k.img = h.img ∧ k.free = h.free
abbrev OnlyNoteCal (h k : Hw) : Prop :=
  k.time = h.time ∧ k.sys = h.sys ∧ k.wave = h.wave ∧ k.mywi = h.mywi ∧ k.txn = h.txn ∧ k.sett = h.sett ∧ k.ref = h.ref ∧ k.steer = h.steer ∧ k.sealU = h.sealU ∧ k.store = h.store ∧ k.keep = h.keep ∧ k.keepSeed = h.keepSeed ∧ k.evt = h.evt ∧ k.port = h.port ∧ k.prong = h.prong ∧ k.pwr = h.pwr ∧ k.out = h.out ∧ k.lat = h.lat ∧ k.deck = h.deck ∧ k.ibex = h.ibex ∧ k.dma = h.dma ∧ k.tally = h.tally ∧ k.img = h.img ∧ k.free = h.free
abbrev OnlyOut (h k : Hw) : Prop :=
  k.time = h.time ∧ k.sys = h.sys ∧ k.wave = h.wave ∧ k.note = h.note ∧ k.mywi = h.mywi ∧ k.txn = h.txn ∧ k.sett = h.sett ∧ k.ref = h.ref ∧ k.steer = h.steer ∧ k.sealU = h.sealU ∧ k.store = h.store ∧ k.keep = h.keep ∧ k.keepSeed = h.keepSeed ∧ k.evt = h.evt ∧ k.port = h.port ∧ k.prong = h.prong ∧ k.pwr = h.pwr ∧ k.cal = h.cal ∧ k.lat = h.lat ∧ k.deck = h.deck ∧ k.ibex = h.ibex ∧ k.dma = h.dma ∧ k.tally = h.tally ∧ k.img = h.img ∧ k.free = h.free
abbrev OnlyNoteCalOut (h k : Hw) : Prop :=
  k.time = h.time ∧ k.sys = h.sys ∧ k.wave = h.wave ∧ k.mywi = h.mywi ∧ k.txn = h.txn ∧ k.sett = h.sett ∧ k.ref = h.ref ∧ k.steer = h.steer ∧ k.sealU = h.sealU ∧ k.store = h.store ∧ k.keep = h.keep ∧ k.keepSeed = h.keepSeed ∧ k.evt = h.evt ∧ k.port = h.port ∧ k.prong = h.prong ∧ k.pwr = h.pwr ∧ k.lat = h.lat ∧ k.deck = h.deck ∧ k.ibex = h.ibex ∧ k.dma = h.dma ∧ k.tally = h.tally ∧ k.img = h.img ∧ k.free = h.free
abbrev OnlyFree (h k : Hw) : Prop :=
  k.time = h.time ∧ k.sys = h.sys ∧ k.wave = h.wave ∧ k.note = h.note ∧ k.mywi = h.mywi ∧ k.txn = h.txn ∧ k.sett = h.sett ∧ k.ref = h.ref ∧ k.steer = h.steer ∧ k.sealU = h.sealU ∧ k.store = h.store ∧ k.keep = h.keep ∧ k.keepSeed = h.keepSeed ∧ k.evt = h.evt ∧ k.port = h.port ∧ k.prong = h.prong ∧ k.pwr = h.pwr ∧ k.cal = h.cal ∧ k.out = h.out ∧ k.lat = h.lat ∧ k.deck = h.deck ∧ k.ibex = h.ibex ∧ k.dma = h.dma ∧ k.tally = h.tally ∧ k.img = h.img
abbrev OnlySysFree (h k : Hw) : Prop :=
  k.time = h.time ∧ k.wave = h.wave ∧ k.note = h.note ∧ k.mywi = h.mywi ∧ k.txn = h.txn ∧ k.sett = h.sett ∧ k.ref = h.ref ∧ k.steer = h.steer ∧ k.sealU = h.sealU ∧ k.store = h.store ∧ k.keep = h.keep ∧ k.keepSeed = h.keepSeed ∧ k.evt = h.evt ∧ k.port = h.port ∧ k.prong = h.prong ∧ k.pwr = h.pwr ∧ k.cal = h.cal ∧ k.out = h.out ∧ k.lat = h.lat ∧ k.deck = h.deck ∧ k.ibex = h.ibex ∧ k.dma = h.dma ∧ k.tally = h.tally ∧ k.img = h.img
abbrev OnlyNoteMywiSteer (h k : Hw) : Prop :=
  k.time = h.time ∧ k.sys = h.sys ∧ k.wave = h.wave ∧ k.txn = h.txn ∧ k.sett = h.sett ∧ k.ref = h.ref ∧ k.sealU = h.sealU ∧ k.store = h.store ∧ k.keep = h.keep ∧ k.keepSeed = h.keepSeed ∧ k.evt = h.evt ∧ k.port = h.port ∧ k.prong = h.prong ∧ k.pwr = h.pwr ∧ k.cal = h.cal ∧ k.out = h.out ∧ k.lat = h.lat ∧ k.deck = h.deck ∧ k.ibex = h.ibex ∧ k.dma = h.dma ∧ k.tally = h.tally ∧ k.img = h.img ∧ k.free = h.free
abbrev OnlyNoteMywiSealUStoreTallyFree (h k : Hw) : Prop :=
  k.time = h.time ∧ k.sys = h.sys ∧ k.wave = h.wave ∧ k.txn = h.txn ∧ k.sett = h.sett ∧ k.ref = h.ref ∧ k.steer = h.steer ∧ k.keep = h.keep ∧ k.keepSeed = h.keepSeed ∧ k.evt = h.evt ∧ k.port = h.port ∧ k.prong = h.prong ∧ k.pwr = h.pwr ∧ k.cal = h.cal ∧ k.out = h.out ∧ k.lat = h.lat ∧ k.deck = h.deck ∧ k.ibex = h.ibex ∧ k.dma = h.dma ∧ k.img = h.img
abbrev OnlyNoteMywiSettTally (h k : Hw) : Prop :=
  k.time = h.time ∧ k.sys = h.sys ∧ k.wave = h.wave ∧ k.txn = h.txn ∧ k.ref = h.ref ∧ k.steer = h.steer ∧ k.sealU = h.sealU ∧ k.store = h.store ∧ k.keep = h.keep ∧ k.keepSeed = h.keepSeed ∧ k.evt = h.evt ∧ k.port = h.port ∧ k.prong = h.prong ∧ k.pwr = h.pwr ∧ k.cal = h.cal ∧ k.out = h.out ∧ k.lat = h.lat ∧ k.deck = h.deck ∧ k.ibex = h.ibex ∧ k.dma = h.dma ∧ k.img = h.img ∧ k.free = h.free
abbrev OnlySysNoteMywi (h k : Hw) : Prop :=
  k.time = h.time ∧ k.wave = h.wave ∧ k.txn = h.txn ∧ k.sett = h.sett ∧ k.ref = h.ref ∧ k.steer = h.steer ∧ k.sealU = h.sealU ∧ k.store = h.store ∧ k.keep = h.keep ∧ k.keepSeed = h.keepSeed ∧ k.evt = h.evt ∧ k.port = h.port ∧ k.prong = h.prong ∧ k.pwr = h.pwr ∧ k.cal = h.cal ∧ k.out = h.out ∧ k.lat = h.lat ∧ k.deck = h.deck ∧ k.ibex = h.ibex ∧ k.dma = h.dma ∧ k.tally = h.tally ∧ k.img = h.img ∧ k.free = h.free
abbrev OnlySysNoteMywiSettTally (h k : Hw) : Prop :=
  k.time = h.time ∧ k.wave = h.wave ∧ k.txn = h.txn ∧ k.ref = h.ref ∧ k.steer = h.steer ∧ k.sealU = h.sealU ∧ k.store = h.store ∧ k.keep = h.keep ∧ k.keepSeed = h.keepSeed ∧ k.evt = h.evt ∧ k.port = h.port ∧ k.prong = h.prong ∧ k.pwr = h.pwr ∧ k.cal = h.cal ∧ k.out = h.out ∧ k.lat = h.lat ∧ k.deck = h.deck ∧ k.ibex = h.ibex ∧ k.dma = h.dma ∧ k.img = h.img ∧ k.free = h.free
abbrev OnlyNoteMywiPwr (h k : Hw) : Prop :=
  k.time = h.time ∧ k.sys = h.sys ∧ k.wave = h.wave ∧ k.txn = h.txn ∧ k.sett = h.sett ∧ k.ref = h.ref ∧ k.steer = h.steer ∧ k.sealU = h.sealU ∧ k.store = h.store ∧ k.keep = h.keep ∧ k.keepSeed = h.keepSeed ∧ k.evt = h.evt ∧ k.port = h.port ∧ k.prong = h.prong ∧ k.cal = h.cal ∧ k.out = h.out ∧ k.lat = h.lat ∧ k.deck = h.deck ∧ k.ibex = h.ibex ∧ k.dma = h.dma ∧ k.tally = h.tally ∧ k.img = h.img ∧ k.free = h.free
abbrev OnlySysNoteMywiSettSteerPwrLatTally (h k : Hw) : Prop :=
  k.time = h.time ∧ k.wave = h.wave ∧ k.txn = h.txn ∧ k.ref = h.ref ∧ k.sealU = h.sealU ∧ k.store = h.store ∧ k.keep = h.keep ∧ k.keepSeed = h.keepSeed ∧ k.evt = h.evt ∧ k.port = h.port ∧ k.prong = h.prong ∧ k.cal = h.cal ∧ k.out = h.out ∧ k.deck = h.deck ∧ k.ibex = h.ibex ∧ k.dma = h.dma ∧ k.img = h.img ∧ k.free = h.free
abbrev OnlyMywiTxn (h k : Hw) : Prop :=
  k.time = h.time ∧ k.sys = h.sys ∧ k.wave = h.wave ∧ k.note = h.note ∧ k.sett = h.sett ∧ k.ref = h.ref ∧ k.steer = h.steer ∧ k.sealU = h.sealU ∧ k.store = h.store ∧ k.keep = h.keep ∧ k.keepSeed = h.keepSeed ∧ k.evt = h.evt ∧ k.port = h.port ∧ k.prong = h.prong ∧ k.pwr = h.pwr ∧ k.cal = h.cal ∧ k.out = h.out ∧ k.lat = h.lat ∧ k.deck = h.deck ∧ k.ibex = h.ibex ∧ k.dma = h.dma ∧ k.tally = h.tally ∧ k.img = h.img ∧ k.free = h.free
abbrev OnlySysMywiTxnSealU (h k : Hw) : Prop :=
  k.time = h.time ∧ k.wave = h.wave ∧ k.note = h.note ∧ k.sett = h.sett ∧ k.ref = h.ref ∧ k.steer = h.steer ∧ k.store = h.store ∧ k.keep = h.keep ∧ k.keepSeed = h.keepSeed ∧ k.evt = h.evt ∧ k.port = h.port ∧ k.prong = h.prong ∧ k.pwr = h.pwr ∧ k.cal = h.cal ∧ k.out = h.out ∧ k.lat = h.lat ∧ k.deck = h.deck ∧ k.ibex = h.ibex ∧ k.dma = h.dma ∧ k.tally = h.tally ∧ k.img = h.img ∧ k.free = h.free
abbrev OnlyTimeNoteMywi (h k : Hw) : Prop :=
  k.sys = h.sys ∧ k.wave = h.wave ∧ k.txn = h.txn ∧ k.sett = h.sett ∧ k.ref = h.ref ∧ k.steer = h.steer ∧ k.sealU = h.sealU ∧ k.store = h.store ∧ k.keep = h.keep ∧ k.keepSeed = h.keepSeed ∧ k.evt = h.evt ∧ k.port = h.port ∧ k.prong = h.prong ∧ k.pwr = h.pwr ∧ k.cal = h.cal ∧ k.out = h.out ∧ k.lat = h.lat ∧ k.deck = h.deck ∧ k.ibex = h.ibex ∧ k.dma = h.dma ∧ k.tally = h.tally ∧ k.img = h.img ∧ k.free = h.free
abbrev OnlySteer (h k : Hw) : Prop :=
  k.time = h.time ∧ k.sys = h.sys ∧ k.wave = h.wave ∧ k.note = h.note ∧ k.mywi = h.mywi ∧ k.txn = h.txn ∧ k.sett = h.sett ∧ k.ref = h.ref ∧ k.sealU = h.sealU ∧ k.store = h.store ∧ k.keep = h.keep ∧ k.keepSeed = h.keepSeed ∧ k.evt = h.evt ∧ k.port = h.port ∧ k.prong = h.prong ∧ k.pwr = h.pwr ∧ k.cal = h.cal ∧ k.out = h.out ∧ k.lat = h.lat ∧ k.deck = h.deck ∧ k.ibex = h.ibex ∧ k.dma = h.dma ∧ k.tally = h.tally ∧ k.img = h.img ∧ k.free = h.free
abbrev OnlyDma (h k : Hw) : Prop :=
  k.time = h.time ∧ k.sys = h.sys ∧ k.wave = h.wave ∧ k.note = h.note ∧ k.mywi = h.mywi ∧ k.txn = h.txn ∧ k.sett = h.sett ∧ k.ref = h.ref ∧ k.steer = h.steer ∧ k.sealU = h.sealU ∧ k.store = h.store ∧ k.keep = h.keep ∧ k.keepSeed = h.keepSeed ∧ k.evt = h.evt ∧ k.port = h.port ∧ k.prong = h.prong ∧ k.pwr = h.pwr ∧ k.cal = h.cal ∧ k.out = h.out ∧ k.lat = h.lat ∧ k.deck = h.deck ∧ k.ibex = h.ibex ∧ k.tally = h.tally ∧ k.img = h.img ∧ k.free = h.free
abbrev OnlyNoteMywiPortLatTally (h k : Hw) : Prop :=
  k.time = h.time ∧ k.sys = h.sys ∧ k.wave = h.wave ∧ k.txn = h.txn ∧ k.sett = h.sett ∧ k.ref = h.ref ∧ k.steer = h.steer ∧ k.sealU = h.sealU ∧ k.store = h.store ∧ k.keep = h.keep ∧ k.keepSeed = h.keepSeed ∧ k.evt = h.evt ∧ k.prong = h.prong ∧ k.pwr = h.pwr ∧ k.cal = h.cal ∧ k.out = h.out ∧ k.deck = h.deck ∧ k.ibex = h.ibex ∧ k.dma = h.dma ∧ k.img = h.img ∧ k.free = h.free
abbrev OnlyNoteMywiRefPortLatTally (h k : Hw) : Prop :=
  k.time = h.time ∧ k.sys = h.sys ∧ k.wave = h.wave ∧ k.txn = h.txn ∧ k.sett = h.sett ∧ k.steer = h.steer ∧ k.sealU = h.sealU ∧ k.store = h.store ∧ k.keep = h.keep ∧ k.keepSeed = h.keepSeed ∧ k.evt = h.evt ∧ k.prong = h.prong ∧ k.pwr = h.pwr ∧ k.cal = h.cal ∧ k.out = h.out ∧ k.deck = h.deck ∧ k.ibex = h.ibex ∧ k.dma = h.dma ∧ k.img = h.img ∧ k.free = h.free
abbrev OnlySysNoteMywiRefPortLatTally (h k : Hw) : Prop :=
  k.time = h.time ∧ k.wave = h.wave ∧ k.txn = h.txn ∧ k.sett = h.sett ∧ k.steer = h.steer ∧ k.sealU = h.sealU ∧ k.store = h.store ∧ k.keep = h.keep ∧ k.keepSeed = h.keepSeed ∧ k.evt = h.evt ∧ k.prong = h.prong ∧ k.pwr = h.pwr ∧ k.cal = h.cal ∧ k.out = h.out ∧ k.deck = h.deck ∧ k.ibex = h.ibex ∧ k.dma = h.dma ∧ k.img = h.img ∧ k.free = h.free
abbrev OnlyNoteImgFree (h k : Hw) : Prop :=
  k.time = h.time ∧ k.sys = h.sys ∧ k.wave = h.wave ∧ k.mywi = h.mywi ∧ k.txn = h.txn ∧ k.sett = h.sett ∧ k.ref = h.ref ∧ k.steer = h.steer ∧ k.sealU = h.sealU ∧ k.store = h.store ∧ k.keep = h.keep ∧ k.keepSeed = h.keepSeed ∧ k.evt = h.evt ∧ k.port = h.port ∧ k.prong = h.prong ∧ k.pwr = h.pwr ∧ k.cal = h.cal ∧ k.out = h.out ∧ k.lat = h.lat ∧ k.deck = h.deck ∧ k.ibex = h.ibex ∧ k.dma = h.dma ∧ k.tally = h.tally
abbrev OnlyNoteMywiTxnProngTallyImgFree (h k : Hw) : Prop :=
  k.time = h.time ∧ k.sys = h.sys ∧ k.wave = h.wave ∧ k.sett = h.sett ∧ k.ref = h.ref ∧ k.steer = h.steer ∧ k.sealU = h.sealU ∧ k.store = h.store ∧ k.keep = h.keep ∧ k.keepSeed = h.keepSeed ∧ k.evt = h.evt ∧ k.port = h.port ∧ k.pwr = h.pwr ∧ k.cal = h.cal ∧ k.out = h.out ∧ k.lat = h.lat ∧ k.deck = h.deck ∧ k.ibex = h.ibex ∧ k.dma = h.dma
abbrev OnlySysNoteMywiSealUStoreEvtDmaTally (h k : Hw) : Prop :=
  k.time = h.time ∧ k.wave = h.wave ∧ k.txn = h.txn ∧ k.sett = h.sett ∧ k.ref = h.ref ∧ k.steer = h.steer ∧ k.keep = h.keep ∧ k.keepSeed = h.keepSeed ∧ k.port = h.port ∧ k.prong = h.prong ∧ k.pwr = h.pwr ∧ k.cal = h.cal ∧ k.out = h.out ∧ k.lat = h.lat ∧ k.deck = h.deck ∧ k.ibex = h.ibex ∧ k.img = h.img ∧ k.free = h.free
abbrev OnlySysNoteMywiTally (h k : Hw) : Prop :=
  k.time = h.time ∧ k.wave = h.wave ∧ k.txn = h.txn ∧ k.sett = h.sett ∧ k.ref = h.ref ∧ k.steer = h.steer ∧ k.sealU = h.sealU ∧ k.store = h.store ∧ k.keep = h.keep ∧ k.keepSeed = h.keepSeed ∧ k.evt = h.evt ∧ k.port = h.port ∧ k.prong = h.prong ∧ k.pwr = h.pwr ∧ k.cal = h.cal ∧ k.out = h.out ∧ k.lat = h.lat ∧ k.deck = h.deck ∧ k.ibex = h.ibex ∧ k.dma = h.dma ∧ k.img = h.img ∧ k.free = h.free
abbrev OnlyNoteMywiCal (h k : Hw) : Prop :=
  k.time = h.time ∧ k.sys = h.sys ∧ k.wave = h.wave ∧ k.txn = h.txn ∧ k.sett = h.sett ∧ k.ref = h.ref ∧ k.steer = h.steer ∧ k.sealU = h.sealU ∧ k.store = h.store ∧ k.keep = h.keep ∧ k.keepSeed = h.keepSeed ∧ k.evt = h.evt ∧ k.port = h.port ∧ k.prong = h.prong ∧ k.pwr = h.pwr ∧ k.out = h.out ∧ k.lat = h.lat ∧ k.deck = h.deck ∧ k.ibex = h.ibex ∧ k.dma = h.dma ∧ k.tally = h.tally ∧ k.img = h.img ∧ k.free = h.free
abbrev OnlyNoteMywiCalTally (h k : Hw) : Prop :=
  k.time = h.time ∧ k.sys = h.sys ∧ k.wave = h.wave ∧ k.txn = h.txn ∧ k.sett = h.sett ∧ k.ref = h.ref ∧ k.steer = h.steer ∧ k.sealU = h.sealU ∧ k.store = h.store ∧ k.keep = h.keep ∧ k.keepSeed = h.keepSeed ∧ k.evt = h.evt ∧ k.port = h.port ∧ k.prong = h.prong ∧ k.pwr = h.pwr ∧ k.out = h.out ∧ k.lat = h.lat ∧ k.deck = h.deck ∧ k.ibex = h.ibex ∧ k.dma = h.dma ∧ k.img = h.img ∧ k.free = h.free
abbrev OnlyNoteMywiEvt (h k : Hw) : Prop :=
  k.time = h.time ∧ k.sys = h.sys ∧ k.wave = h.wave ∧ k.txn = h.txn ∧ k.sett = h.sett ∧ k.ref = h.ref ∧ k.steer = h.steer ∧ k.sealU = h.sealU ∧ k.store = h.store ∧ k.keep = h.keep ∧ k.keepSeed = h.keepSeed ∧ k.port = h.port ∧ k.prong = h.prong ∧ k.pwr = h.pwr ∧ k.cal = h.cal ∧ k.out = h.out ∧ k.lat = h.lat ∧ k.deck = h.deck ∧ k.ibex = h.ibex ∧ k.dma = h.dma ∧ k.tally = h.tally ∧ k.img = h.img ∧ k.free = h.free
abbrev OnlyNoteMywiEvtCalTallyFree (h k : Hw) : Prop :=
  k.time = h.time ∧ k.sys = h.sys ∧ k.wave = h.wave ∧ k.txn = h.txn ∧ k.sett = h.sett ∧ k.ref = h.ref ∧ k.steer = h.steer ∧ k.sealU = h.sealU ∧ k.store = h.store ∧ k.keep = h.keep ∧ k.keepSeed = h.keepSeed ∧ k.port = h.port ∧ k.prong = h.prong ∧ k.pwr = h.pwr ∧ k.out = h.out ∧ k.lat = h.lat ∧ k.deck = h.deck ∧ k.ibex = h.ibex ∧ k.dma = h.dma ∧ k.img = h.img
abbrev OnlyNoteMywiProngTally (h k : Hw) : Prop :=
  k.time = h.time ∧ k.sys = h.sys ∧ k.wave = h.wave ∧ k.txn = h.txn ∧ k.sett = h.sett ∧ k.ref = h.ref ∧ k.steer = h.steer ∧ k.sealU = h.sealU ∧ k.store = h.store ∧ k.keep = h.keep ∧ k.keepSeed = h.keepSeed ∧ k.evt = h.evt ∧ k.port = h.port ∧ k.pwr = h.pwr ∧ k.cal = h.cal ∧ k.out = h.out ∧ k.lat = h.lat ∧ k.deck = h.deck ∧ k.ibex = h.ibex ∧ k.dma = h.dma ∧ k.img = h.img ∧ k.free = h.free
abbrev OnlyNoteMywiPortProngTally (h k : Hw) : Prop :=
  k.time = h.time ∧ k.sys = h.sys ∧ k.wave = h.wave ∧ k.txn = h.txn ∧ k.sett = h.sett ∧ k.ref = h.ref ∧ k.steer = h.steer ∧ k.sealU = h.sealU ∧ k.store = h.store ∧ k.keep = h.keep ∧ k.keepSeed = h.keepSeed ∧ k.evt = h.evt ∧ k.pwr = h.pwr ∧ k.cal = h.cal ∧ k.out = h.out ∧ k.lat = h.lat ∧ k.deck = h.deck ∧ k.ibex = h.ibex ∧ k.dma = h.dma ∧ k.img = h.img ∧ k.free = h.free
abbrev OnlyNoteMywiSteerFree (h k : Hw) : Prop :=
  k.time = h.time ∧ k.sys = h.sys ∧ k.wave = h.wave ∧ k.txn = h.txn ∧ k.sett = h.sett ∧ k.ref = h.ref ∧ k.sealU = h.sealU ∧ k.store = h.store ∧ k.keep = h.keep ∧ k.keepSeed = h.keepSeed ∧ k.evt = h.evt ∧ k.port = h.port ∧ k.prong = h.prong ∧ k.pwr = h.pwr ∧ k.cal = h.cal ∧ k.out = h.out ∧ k.lat = h.lat ∧ k.deck = h.deck ∧ k.ibex = h.ibex ∧ k.dma = h.dma ∧ k.tally = h.tally ∧ k.img = h.img
abbrev OnlyTimeNoteMywiSteerEvtTally (h k : Hw) : Prop :=
  k.sys = h.sys ∧ k.wave = h.wave ∧ k.txn = h.txn ∧ k.sett = h.sett ∧ k.ref = h.ref ∧ k.sealU = h.sealU ∧ k.store = h.store ∧ k.keep = h.keep ∧ k.keepSeed = h.keepSeed ∧ k.port = h.port ∧ k.prong = h.prong ∧ k.pwr = h.pwr ∧ k.cal = h.cal ∧ k.out = h.out ∧ k.lat = h.lat ∧ k.deck = h.deck ∧ k.ibex = h.ibex ∧ k.dma = h.dma ∧ k.img = h.img ∧ k.free = h.free
abbrev OnlySteerFree (h k : Hw) : Prop :=
  k.time = h.time ∧ k.sys = h.sys ∧ k.wave = h.wave ∧ k.note = h.note ∧ k.mywi = h.mywi ∧ k.txn = h.txn ∧ k.sett = h.sett ∧ k.ref = h.ref ∧ k.sealU = h.sealU ∧ k.store = h.store ∧ k.keep = h.keep ∧ k.keepSeed = h.keepSeed ∧ k.evt = h.evt ∧ k.port = h.port ∧ k.prong = h.prong ∧ k.pwr = h.pwr ∧ k.cal = h.cal ∧ k.out = h.out ∧ k.lat = h.lat ∧ k.deck = h.deck ∧ k.ibex = h.ibex ∧ k.dma = h.dma ∧ k.tally = h.tally ∧ k.img = h.img
abbrev OnlyTimeSteerFree (h k : Hw) : Prop :=
  k.sys = h.sys ∧ k.wave = h.wave ∧ k.note = h.note ∧ k.mywi = h.mywi ∧ k.txn = h.txn ∧ k.sett = h.sett ∧ k.ref = h.ref ∧ k.sealU = h.sealU ∧ k.store = h.store ∧ k.keep = h.keep ∧ k.keepSeed = h.keepSeed ∧ k.evt = h.evt ∧ k.port = h.port ∧ k.prong = h.prong ∧ k.pwr = h.pwr ∧ k.cal = h.cal ∧ k.out = h.out ∧ k.lat = h.lat ∧ k.deck = h.deck ∧ k.ibex = h.ibex ∧ k.dma = h.dma ∧ k.tally = h.tally ∧ k.img = h.img
abbrev OnlyTimeNoteMywiSteer (h k : Hw) : Prop :=
  k.sys = h.sys ∧ k.wave = h.wave ∧ k.txn = h.txn ∧ k.sett = h.sett ∧ k.ref = h.ref ∧ k.sealU = h.sealU ∧ k.store = h.store ∧ k.keep = h.keep ∧ k.keepSeed = h.keepSeed ∧ k.evt = h.evt ∧ k.port = h.port ∧ k.prong = h.prong ∧ k.pwr = h.pwr ∧ k.cal = h.cal ∧ k.out = h.out ∧ k.lat = h.lat ∧ k.deck = h.deck ∧ k.ibex = h.ibex ∧ k.dma = h.dma ∧ k.tally = h.tally ∧ k.img = h.img ∧ k.free = h.free
abbrev OnlyTimeNoteMywiRef (h k : Hw) : Prop :=
  k.sys = h.sys ∧ k.wave = h.wave ∧ k.txn = h.txn ∧ k.sett = h.sett ∧ k.steer = h.steer ∧ k.sealU = h.sealU ∧ k.store = h.store ∧ k.keep = h.keep ∧ k.keepSeed = h.keepSeed ∧ k.evt = h.evt ∧ k.port = h.port ∧ k.prong = h.prong ∧ k.pwr = h.pwr ∧ k.cal = h.cal ∧ k.out = h.out ∧ k.lat = h.lat ∧ k.deck = h.deck ∧ k.ibex = h.ibex ∧ k.dma = h.dma ∧ k.tally = h.tally ∧ k.img = h.img ∧ k.free = h.free
abbrev OnlyNoteMywiRef (h k : Hw) : Prop :=
  k.time = h.time ∧ k.sys = h.sys ∧ k.wave = h.wave ∧ k.txn = h.txn ∧ k.sett = h.sett ∧ k.steer = h.steer ∧ k.sealU = h.sealU ∧ k.store = h.store ∧ k.keep = h.keep ∧ k.keepSeed = h.keepSeed ∧ k.evt = h.evt ∧ k.port = h.port ∧ k.prong = h.prong ∧ k.pwr = h.pwr ∧ k.cal = h.cal ∧ k.out = h.out ∧ k.lat = h.lat ∧ k.deck = h.deck ∧ k.ibex = h.ibex ∧ k.dma = h.dma ∧ k.tally = h.tally ∧ k.img = h.img ∧ k.free = h.free
abbrev OnlyTimeNoteMywiRefSealUStorePortProngTally (h k : Hw) : Prop :=
  k.sys = h.sys ∧ k.wave = h.wave ∧ k.txn = h.txn ∧ k.sett = h.sett ∧ k.steer = h.steer ∧ k.keep = h.keep ∧ k.keepSeed = h.keepSeed ∧ k.evt = h.evt ∧ k.pwr = h.pwr ∧ k.cal = h.cal ∧ k.out = h.out ∧ k.lat = h.lat ∧ k.deck = h.deck ∧ k.ibex = h.ibex ∧ k.dma = h.dma ∧ k.img = h.img ∧ k.free = h.free
abbrev OnlyTime (h k : Hw) : Prop :=
  k.sys = h.sys ∧ k.wave = h.wave ∧ k.note = h.note ∧ k.mywi = h.mywi ∧ k.txn = h.txn ∧ k.sett = h.sett ∧ k.ref = h.ref ∧ k.steer = h.steer ∧ k.sealU = h.sealU ∧ k.store = h.store ∧ k.keep = h.keep ∧ k.keepSeed = h.keepSeed ∧ k.evt = h.evt ∧ k.port = h.port ∧ k.prong = h.prong ∧ k.pwr = h.pwr ∧ k.cal = h.cal ∧ k.out = h.out ∧ k.lat = h.lat ∧ k.deck = h.deck ∧ k.ibex = h.ibex ∧ k.dma = h.dma ∧ k.tally = h.tally ∧ k.img = h.img ∧ k.free = h.free
abbrev OnlyNoteMywiDeckTally (h k : Hw) : Prop :=
  k.time = h.time ∧ k.sys = h.sys ∧ k.wave = h.wave ∧ k.txn = h.txn ∧ k.sett = h.sett ∧ k.ref = h.ref ∧ k.steer = h.steer ∧ k.sealU = h.sealU ∧ k.store = h.store ∧ k.keep = h.keep ∧ k.keepSeed = h.keepSeed ∧ k.evt = h.evt ∧ k.port = h.port ∧ k.prong = h.prong ∧ k.pwr = h.pwr ∧ k.cal = h.cal ∧ k.out = h.out ∧ k.lat = h.lat ∧ k.ibex = h.ibex ∧ k.dma = h.dma ∧ k.img = h.img ∧ k.free = h.free
abbrev OnlySysNoteMywiSealUStoreDeckTally (h k : Hw) : Prop :=
  k.time = h.time ∧ k.wave = h.wave ∧ k.txn = h.txn ∧ k.sett = h.sett ∧ k.ref = h.ref ∧ k.steer = h.steer ∧ k.keep = h.keep ∧ k.keepSeed = h.keepSeed ∧ k.evt = h.evt ∧ k.port = h.port ∧ k.prong = h.prong ∧ k.pwr = h.pwr ∧ k.cal = h.cal ∧ k.out = h.out ∧ k.lat = h.lat ∧ k.ibex = h.ibex ∧ k.dma = h.dma ∧ k.img = h.img ∧ k.free = h.free
abbrev OnlyNoteMywiDeck (h k : Hw) : Prop :=
  k.time = h.time ∧ k.sys = h.sys ∧ k.wave = h.wave ∧ k.txn = h.txn ∧ k.sett = h.sett ∧ k.ref = h.ref ∧ k.steer = h.steer ∧ k.sealU = h.sealU ∧ k.store = h.store ∧ k.keep = h.keep ∧ k.keepSeed = h.keepSeed ∧ k.evt = h.evt ∧ k.port = h.port ∧ k.prong = h.prong ∧ k.pwr = h.pwr ∧ k.cal = h.cal ∧ k.out = h.out ∧ k.lat = h.lat ∧ k.ibex = h.ibex ∧ k.dma = h.dma ∧ k.tally = h.tally ∧ k.img = h.img ∧ k.free = h.free
abbrev OnlyDeckFree (h k : Hw) : Prop :=
  k.time = h.time ∧ k.sys = h.sys ∧ k.wave = h.wave ∧ k.note = h.note ∧ k.mywi = h.mywi ∧ k.txn = h.txn ∧ k.sett = h.sett ∧ k.ref = h.ref ∧ k.steer = h.steer ∧ k.sealU = h.sealU ∧ k.store = h.store ∧ k.keep = h.keep ∧ k.keepSeed = h.keepSeed ∧ k.evt = h.evt ∧ k.port = h.port ∧ k.prong = h.prong ∧ k.pwr = h.pwr ∧ k.cal = h.cal ∧ k.out = h.out ∧ k.lat = h.lat ∧ k.ibex = h.ibex ∧ k.dma = h.dma ∧ k.tally = h.tally ∧ k.img = h.img
abbrev OnlyNoteMywiRefDeck (h k : Hw) : Prop :=
  k.time = h.time ∧ k.sys = h.sys ∧ k.wave = h.wave ∧ k.txn = h.txn ∧ k.sett = h.sett ∧ k.steer = h.steer ∧ k.sealU = h.sealU ∧ k.store = h.store ∧ k.keep = h.keep ∧ k.keepSeed = h.keepSeed ∧ k.evt = h.evt ∧ k.port = h.port ∧ k.prong = h.prong ∧ k.pwr = h.pwr ∧ k.cal = h.cal ∧ k.out = h.out ∧ k.lat = h.lat ∧ k.ibex = h.ibex ∧ k.dma = h.dma ∧ k.tally = h.tally ∧ k.img = h.img ∧ k.free = h.free
abbrev OnlyNoteMywiEvtDma (h k : Hw) : Prop :=
  k.time = h.time ∧ k.sys = h.sys ∧ k.wave = h.wave ∧ k.txn = h.txn ∧ k.sett = h.sett ∧ k.ref = h.ref ∧ k.steer = h.steer ∧ k.sealU = h.sealU ∧ k.store = h.store ∧ k.keep = h.keep ∧ k.keepSeed = h.keepSeed ∧ k.port = h.port ∧ k.prong = h.prong ∧ k.pwr = h.pwr ∧ k.cal = h.cal ∧ k.out = h.out ∧ k.lat = h.lat ∧ k.deck = h.deck ∧ k.ibex = h.ibex ∧ k.tally = h.tally ∧ k.img = h.img ∧ k.free = h.free
abbrev OnlyNoteMywiEvtTally (h k : Hw) : Prop :=
  k.time = h.time ∧ k.sys = h.sys ∧ k.wave = h.wave ∧ k.txn = h.txn ∧ k.sett = h.sett ∧ k.ref = h.ref ∧ k.steer = h.steer ∧ k.sealU = h.sealU ∧ k.store = h.store ∧ k.keep = h.keep ∧ k.keepSeed = h.keepSeed ∧ k.port = h.port ∧ k.prong = h.prong ∧ k.pwr = h.pwr ∧ k.cal = h.cal ∧ k.out = h.out ∧ k.lat = h.lat ∧ k.deck = h.deck ∧ k.ibex = h.ibex ∧ k.dma = h.dma ∧ k.img = h.img ∧ k.free = h.free
abbrev OnlyNoteMywiDma (h k : Hw) : Prop :=
  k.time = h.time ∧ k.sys = h.sys ∧ k.wave = h.wave ∧ k.txn = h.txn ∧ k.sett = h.sett ∧ k.ref = h.ref ∧ k.steer = h.steer ∧ k.sealU = h.sealU ∧ k.store = h.store ∧ k.keep = h.keep ∧ k.keepSeed = h.keepSeed ∧ k.evt = h.evt ∧ k.port = h.port ∧ k.prong = h.prong ∧ k.pwr = h.pwr ∧ k.cal = h.cal ∧ k.out = h.out ∧ k.lat = h.lat ∧ k.deck = h.deck ∧ k.ibex = h.ibex ∧ k.tally = h.tally ∧ k.img = h.img ∧ k.free = h.free
abbrev OnlyNoteMywiEvtDmaTally (h k : Hw) : Prop :=
  k.time = h.time ∧ k.sys = h.sys ∧ k.wave = h.wave ∧ k.txn = h.txn ∧ k.sett = h.sett ∧ k.ref = h.ref ∧ k.steer = h.steer ∧ k.sealU = h.sealU ∧ k.store = h.store ∧ k.keep = h.keep ∧ k.keepSeed = h.keepSeed ∧ k.port = h.port ∧ k.prong = h.prong ∧ k.pwr = h.pwr ∧ k.cal = h.cal ∧ k.out = h.out ∧ k.lat = h.lat ∧ k.deck = h.deck ∧ k.ibex = h.ibex ∧ k.img = h.img ∧ k.free = h.free
abbrev OnlyNoteSealU (h k : Hw) : Prop :=
  k.time = h.time ∧ k.sys = h.sys ∧ k.wave = h.wave ∧ k.mywi = h.mywi ∧ k.txn = h.txn ∧ k.sett = h.sett ∧ k.ref = h.ref ∧ k.steer = h.steer ∧ k.store = h.store ∧ k.keep = h.keep ∧ k.keepSeed = h.keepSeed ∧ k.evt = h.evt ∧ k.port = h.port ∧ k.prong = h.prong ∧ k.pwr = h.pwr ∧ k.cal = h.cal ∧ k.out = h.out ∧ k.lat = h.lat ∧ k.deck = h.deck ∧ k.ibex = h.ibex ∧ k.dma = h.dma ∧ k.tally = h.tally ∧ k.img = h.img ∧ k.free = h.free
abbrev KeepsTimeWaveTxnSettRefSteerKeepKeepSeedPortProngOutLatDeckIbexImgFree (h k : Hw) : Prop :=
  k.time = h.time ∧ k.wave = h.wave ∧ k.txn = h.txn ∧ k.sett = h.sett ∧ k.ref = h.ref ∧ k.steer = h.steer ∧ k.keep = h.keep ∧ k.keepSeed = h.keepSeed ∧ k.port = h.port ∧ k.prong = h.prong ∧ k.out = h.out ∧ k.lat = h.lat ∧ k.deck = h.deck ∧ k.ibex = h.ibex ∧ k.img = h.img ∧ k.free = h.free
abbrev OnlyNoteEvt (h k : Hw) : Prop :=
  k.time = h.time ∧ k.sys = h.sys ∧ k.wave = h.wave ∧ k.mywi = h.mywi ∧ k.txn = h.txn ∧ k.sett = h.sett ∧ k.ref = h.ref ∧ k.steer = h.steer ∧ k.sealU = h.sealU ∧ k.store = h.store ∧ k.keep = h.keep ∧ k.keepSeed = h.keepSeed ∧ k.port = h.port ∧ k.prong = h.prong ∧ k.pwr = h.pwr ∧ k.cal = h.cal ∧ k.out = h.out ∧ k.lat = h.lat ∧ k.deck = h.deck ∧ k.ibex = h.ibex ∧ k.dma = h.dma ∧ k.tally = h.tally ∧ k.img = h.img ∧ k.free = h.free
abbrev OnlySett (h k : Hw) : Prop :=
  k.time = h.time ∧ k.sys = h.sys ∧ k.wave = h.wave ∧ k.note = h.note ∧ k.mywi = h.mywi ∧ k.txn = h.txn ∧ k.ref = h.ref ∧ k.steer = h.steer ∧ k.sealU = h.sealU ∧ k.store = h.store ∧ k.keep = h.keep ∧ k.keepSeed = h.keepSeed ∧ k.evt = h.evt ∧ k.port = h.port ∧ k.prong = h.prong ∧ k.pwr = h.pwr ∧ k.cal = h.cal ∧ k.out = h.out ∧ k.lat = h.lat ∧ k.deck = h.deck ∧ k.ibex = h.ibex ∧ k.dma = h.dma ∧ k.tally = h.tally ∧ k.img = h.img ∧ k.free = h.free
abbrev OnlySysNoteMywiSealUStoreProngTally (h k : Hw) : Prop :=
  k.time = h.time ∧ k.wave = h.wave ∧ k.txn = h.txn ∧ k.sett = h.sett ∧ k.ref = h.ref ∧ k.steer = h.steer ∧ k.keep = h.keep ∧ k.keepSeed = h.keepSeed ∧ k.evt = h.evt ∧ k.port = h.port ∧ k.pwr = h.pwr ∧ k.cal = h.cal ∧ k.out = h.out ∧ k.lat = h.lat ∧ k.deck = h.deck ∧ k.ibex = h.ibex ∧ k.dma = h.dma ∧ k.img = h.img ∧ k.free = h.free
abbrev OnlySysStoreProng (h k : Hw) : Prop :=
  k.time = h.time ∧ k.wave = h.wave ∧ k.note = h.note ∧ k.mywi = h.mywi ∧ k.txn = h.txn ∧ k.sett = h.sett ∧ k.ref = h.ref ∧ k.steer = h.steer ∧ k.sealU = h.sealU ∧ k.keep = h.keep ∧ k.keepSeed = h.keepSeed ∧ k.evt = h.evt ∧ k.port = h.port ∧ k.pwr = h.pwr ∧ k.cal = h.cal ∧ k.out = h.out ∧ k.lat = h.lat ∧ k.deck = h.deck ∧ k.ibex = h.ibex ∧ k.dma = h.dma ∧ k.tally = h.tally ∧ k.img = h.img ∧ k.free = h.free
abbrev OnlyNoteMywiEvtIbexTally (h k : Hw) : Prop :=
  k.time = h.time ∧ k.sys = h.sys ∧ k.wave = h.wave ∧ k.txn = h.txn ∧ k.sett = h.sett ∧ k.ref = h.ref ∧ k.steer = h.steer ∧ k.sealU = h.sealU ∧ k.store = h.store ∧ k.keep = h.keep ∧ k.keepSeed = h.keepSeed ∧ k.port = h.port ∧ k.prong = h.prong ∧ k.pwr = h.pwr ∧ k.cal = h.cal ∧ k.out = h.out ∧ k.lat = h.lat ∧ k.deck = h.deck ∧ k.dma = h.dma ∧ k.img = h.img ∧ k.free = h.free
abbrev OnlyEvtIbex (h k : Hw) : Prop :=
  k.time = h.time ∧ k.sys = h.sys ∧ k.wave = h.wave ∧ k.note = h.note ∧ k.mywi = h.mywi ∧ k.txn = h.txn ∧ k.sett = h.sett ∧ k.ref = h.ref ∧ k.steer = h.steer ∧ k.sealU = h.sealU ∧ k.store = h.store ∧ k.keep = h.keep ∧ k.keepSeed = h.keepSeed ∧ k.port = h.port ∧ k.prong = h.prong ∧ k.pwr = h.pwr ∧ k.cal = h.cal ∧ k.out = h.out ∧ k.lat = h.lat ∧ k.deck = h.deck ∧ k.dma = h.dma ∧ k.tally = h.tally ∧ k.img = h.img ∧ k.free = h.free
abbrev OnlyNoteMywiIbex (h k : Hw) : Prop :=
  k.time = h.time ∧ k.sys = h.sys ∧ k.wave = h.wave ∧ k.txn = h.txn ∧ k.sett = h.sett ∧ k.ref = h.ref ∧ k.steer = h.steer ∧ k.sealU = h.sealU ∧ k.store = h.store ∧ k.keep = h.keep ∧ k.keepSeed = h.keepSeed ∧ k.evt = h.evt ∧ k.port = h.port ∧ k.prong = h.prong ∧ k.pwr = h.pwr ∧ k.cal = h.cal ∧ k.out = h.out ∧ k.lat = h.lat ∧ k.deck = h.deck ∧ k.dma = h.dma ∧ k.tally = h.tally ∧ k.img = h.img ∧ k.free = h.free
abbrev OnlySysIbex (h k : Hw) : Prop :=
  k.time = h.time ∧ k.wave = h.wave ∧ k.note = h.note ∧ k.mywi = h.mywi ∧ k.txn = h.txn ∧ k.sett = h.sett ∧ k.ref = h.ref ∧ k.steer = h.steer ∧ k.sealU = h.sealU ∧ k.store = h.store ∧ k.keep = h.keep ∧ k.keepSeed = h.keepSeed ∧ k.evt = h.evt ∧ k.port = h.port ∧ k.prong = h.prong ∧ k.pwr = h.pwr ∧ k.cal = h.cal ∧ k.out = h.out ∧ k.lat = h.lat ∧ k.deck = h.deck ∧ k.dma = h.dma ∧ k.tally = h.tally ∧ k.img = h.img ∧ k.free = h.free
abbrev OnlySysNoteMywiImg (h k : Hw) : Prop :=
  k.time = h.time ∧ k.wave = h.wave ∧ k.txn = h.txn ∧ k.sett = h.sett ∧ k.ref = h.ref ∧ k.steer = h.steer ∧ k.sealU = h.sealU ∧ k.store = h.store ∧ k.keep = h.keep ∧ k.keepSeed = h.keepSeed ∧ k.evt = h.evt ∧ k.port = h.port ∧ k.prong = h.prong ∧ k.pwr = h.pwr ∧ k.cal = h.cal ∧ k.out = h.out ∧ k.lat = h.lat ∧ k.deck = h.deck ∧ k.ibex = h.ibex ∧ k.dma = h.dma ∧ k.tally = h.tally ∧ k.free = h.free
abbrev OnlyImg (h k : Hw) : Prop :=
  k.time = h.time ∧ k.sys = h.sys ∧ k.wave = h.wave ∧ k.note = h.note ∧ k.mywi = h.mywi ∧ k.txn = h.txn ∧ k.sett = h.sett ∧ k.ref = h.ref ∧ k.steer = h.steer ∧ k.sealU = h.sealU ∧ k.store = h.store ∧ k.keep = h.keep ∧ k.keepSeed = h.keepSeed ∧ k.evt = h.evt ∧ k.port = h.port ∧ k.prong = h.prong ∧ k.pwr = h.pwr ∧ k.cal = h.cal ∧ k.out = h.out ∧ k.lat = h.lat ∧ k.deck = h.deck ∧ k.ibex = h.ibex ∧ k.dma = h.dma ∧ k.tally = h.tally ∧ k.free = h.free
abbrev OnlyNoteMywiSealUStoreTallyImg (h k : Hw) : Prop :=
  k.time = h.time ∧ k.sys = h.sys ∧ k.wave = h.wave ∧ k.txn = h.txn ∧ k.sett = h.sett ∧ k.ref = h.ref ∧ k.steer = h.steer ∧ k.keep = h.keep ∧ k.keepSeed = h.keepSeed ∧ k.evt = h.evt ∧ k.port = h.port ∧ k.prong = h.prong ∧ k.pwr = h.pwr ∧ k.cal = h.cal ∧ k.out = h.out ∧ k.lat = h.lat ∧ k.deck = h.deck ∧ k.ibex = h.ibex ∧ k.dma = h.dma ∧ k.free = h.free
abbrev OnlyWaveNoteMywiTally (h k : Hw) : Prop :=
  k.time = h.time ∧ k.sys = h.sys ∧ k.txn = h.txn ∧ k.sett = h.sett ∧ k.ref = h.ref ∧ k.steer = h.steer ∧ k.sealU = h.sealU ∧ k.store = h.store ∧ k.keep = h.keep ∧ k.keepSeed = h.keepSeed ∧ k.evt = h.evt ∧ k.port = h.port ∧ k.prong = h.prong ∧ k.pwr = h.pwr ∧ k.cal = h.cal ∧ k.out = h.out ∧ k.lat = h.lat ∧ k.deck = h.deck ∧ k.ibex = h.ibex ∧ k.dma = h.dma ∧ k.img = h.img ∧ k.free = h.free
abbrev OnlyNoteMywiLatTally (h k : Hw) : Prop :=
  k.time = h.time ∧ k.sys = h.sys ∧ k.wave = h.wave ∧ k.txn = h.txn ∧ k.sett = h.sett ∧ k.ref = h.ref ∧ k.steer = h.steer ∧ k.sealU = h.sealU ∧ k.store = h.store ∧ k.keep = h.keep ∧ k.keepSeed = h.keepSeed ∧ k.evt = h.evt ∧ k.port = h.port ∧ k.prong = h.prong ∧ k.pwr = h.pwr ∧ k.cal = h.cal ∧ k.out = h.out ∧ k.deck = h.deck ∧ k.ibex = h.ibex ∧ k.dma = h.dma ∧ k.img = h.img ∧ k.free = h.free
abbrev OnlyNoteMywiRefLatTally (h k : Hw) : Prop :=
  k.time = h.time ∧ k.sys = h.sys ∧ k.wave = h.wave ∧ k.txn = h.txn ∧ k.sett = h.sett ∧ k.steer = h.steer ∧ k.sealU = h.sealU ∧ k.store = h.store ∧ k.keep = h.keep ∧ k.keepSeed = h.keepSeed ∧ k.evt = h.evt ∧ k.port = h.port ∧ k.prong = h.prong ∧ k.pwr = h.pwr ∧ k.cal = h.cal ∧ k.out = h.out ∧ k.deck = h.deck ∧ k.ibex = h.ibex ∧ k.dma = h.dma ∧ k.img = h.img ∧ k.free = h.free
abbrev OnlyTimeSysPwr (h k : Hw) : Prop :=
  k.wave = h.wave ∧ k.note = h.note ∧ k.mywi = h.mywi ∧ k.txn = h.txn ∧ k.sett = h.sett ∧ k.ref = h.ref ∧ k.steer = h.steer ∧ k.sealU = h.sealU ∧ k.store = h.store ∧ k.keep = h.keep ∧ k.keepSeed = h.keepSeed ∧ k.evt = h.evt ∧ k.port = h.port ∧ k.prong = h.prong ∧ k.cal = h.cal ∧ k.out = h.out ∧ k.lat = h.lat ∧ k.deck = h.deck ∧ k.ibex = h.ibex ∧ k.dma = h.dma ∧ k.tally = h.tally ∧ k.img = h.img ∧ k.free = h.free
abbrev OnlyTimeSysNoteMywiRefSteerPwrFree (h k : Hw) : Prop :=
  k.wave = h.wave ∧ k.txn = h.txn ∧ k.sett = h.sett ∧ k.sealU = h.sealU ∧ k.store = h.store ∧ k.keep = h.keep ∧ k.keepSeed = h.keepSeed ∧ k.evt = h.evt ∧ k.port = h.port ∧ k.prong = h.prong ∧ k.cal = h.cal ∧ k.out = h.out ∧ k.lat = h.lat ∧ k.deck = h.deck ∧ k.ibex = h.ibex ∧ k.dma = h.dma ∧ k.tally = h.tally ∧ k.img = h.img
abbrev OnlySysPwr (h k : Hw) : Prop :=
  k.time = h.time ∧ k.wave = h.wave ∧ k.note = h.note ∧ k.mywi = h.mywi ∧ k.txn = h.txn ∧ k.sett = h.sett ∧ k.ref = h.ref ∧ k.steer = h.steer ∧ k.sealU = h.sealU ∧ k.store = h.store ∧ k.keep = h.keep ∧ k.keepSeed = h.keepSeed ∧ k.evt = h.evt ∧ k.port = h.port ∧ k.prong = h.prong ∧ k.cal = h.cal ∧ k.out = h.out ∧ k.lat = h.lat ∧ k.deck = h.deck ∧ k.ibex = h.ibex ∧ k.dma = h.dma ∧ k.tally = h.tally ∧ k.img = h.img ∧ k.free = h.free
abbrev OnlySealUPwr (h k : Hw) : Prop :=
  k.time = h.time ∧ k.sys = h.sys ∧ k.wave = h.wave ∧ k.note = h.note ∧ k.mywi = h.mywi ∧ k.txn = h.txn ∧ k.sett = h.sett ∧ k.ref = h.ref ∧ k.steer = h.steer ∧ k.store = h.store ∧ k.keep = h.keep ∧ k.keepSeed = h.keepSeed ∧ k.evt = h.evt ∧ k.port = h.port ∧ k.prong = h.prong ∧ k.cal = h.cal ∧ k.out = h.out ∧ k.lat = h.lat ∧ k.deck = h.deck ∧ k.ibex = h.ibex ∧ k.dma = h.dma ∧ k.tally = h.tally ∧ k.img = h.img ∧ k.free = h.free
abbrev OnlySysNoteMywiSealUPwr (h k : Hw) : Prop :=
  k.time = h.time ∧ k.wave = h.wave ∧ k.txn = h.txn ∧ k.sett = h.sett ∧ k.ref = h.ref ∧ k.steer = h.steer ∧ k.store = h.store ∧ k.keep = h.keep ∧ k.keepSeed = h.keepSeed ∧ k.evt = h.evt ∧ k.port = h.port ∧ k.prong = h.prong ∧ k.cal = h.cal ∧ k.out = h.out ∧ k.lat = h.lat ∧ k.deck = h.deck ∧ k.ibex = h.ibex ∧ k.dma = h.dma ∧ k.tally = h.tally ∧ k.img = h.img ∧ k.free = h.free
abbrev OnlyKeepKeepSeedFree (h k : Hw) : Prop :=
  k.time = h.time ∧ k.sys = h.sys ∧ k.wave = h.wave ∧ k.note = h.note ∧ k.mywi = h.mywi ∧ k.txn = h.txn ∧ k.sett = h.sett ∧ k.ref = h.ref ∧ k.steer = h.steer ∧ k.sealU = h.sealU ∧ k.store = h.store ∧ k.evt = h.evt ∧ k.port = h.port ∧ k.prong = h.prong ∧ k.pwr = h.pwr ∧ k.cal = h.cal ∧ k.out = h.out ∧ k.lat = h.lat ∧ k.deck = h.deck ∧ k.ibex = h.ibex ∧ k.dma = h.dma ∧ k.tally = h.tally ∧ k.img = h.img
abbrev OnlyTimeNoteMywiSteerPwrFree (h k : Hw) : Prop :=
  k.sys = h.sys ∧ k.wave = h.wave ∧ k.txn = h.txn ∧ k.sett = h.sett ∧ k.ref = h.ref ∧ k.sealU = h.sealU ∧ k.store = h.store ∧ k.keep = h.keep ∧ k.keepSeed = h.keepSeed ∧ k.evt = h.evt ∧ k.port = h.port ∧ k.prong = h.prong ∧ k.cal = h.cal ∧ k.out = h.out ∧ k.lat = h.lat ∧ k.deck = h.deck ∧ k.ibex = h.ibex ∧ k.dma = h.dma ∧ k.tally = h.tally ∧ k.img = h.img
abbrev OnlyTimeNoteMywiSteerFree (h k : Hw) : Prop :=
  k.sys = h.sys ∧ k.wave = h.wave ∧ k.txn = h.txn ∧ k.sett = h.sett ∧ k.ref = h.ref ∧ k.sealU = h.sealU ∧ k.store = h.store ∧ k.keep = h.keep ∧ k.keepSeed = h.keepSeed ∧ k.evt = h.evt ∧ k.port = h.port ∧ k.prong = h.prong ∧ k.pwr = h.pwr ∧ k.cal = h.cal ∧ k.out = h.out ∧ k.lat = h.lat ∧ k.deck = h.deck ∧ k.ibex = h.ibex ∧ k.dma = h.dma ∧ k.tally = h.tally ∧ k.img = h.img
abbrev OnlyNoteMywiPortProngPwrTally (h k : Hw) : Prop :=
  k.time = h.time ∧ k.sys = h.sys ∧ k.wave = h.wave ∧ k.txn = h.txn ∧ k.sett = h.sett ∧ k.ref = h.ref ∧ k.steer = h.steer ∧ k.sealU = h.sealU ∧ k.store = h.store ∧ k.keep = h.keep ∧ k.keepSeed = h.keepSeed ∧ k.evt = h.evt ∧ k.cal = h.cal ∧ k.out = h.out ∧ k.lat = h.lat ∧ k.deck = h.deck ∧ k.ibex = h.ibex ∧ k.dma = h.dma ∧ k.img = h.img ∧ k.free = h.free
abbrev OnlySysNoteMywiSealUStorePortProngPwrTally (h k : Hw) : Prop :=
  k.time = h.time ∧ k.wave = h.wave ∧ k.txn = h.txn ∧ k.sett = h.sett ∧ k.ref = h.ref ∧ k.steer = h.steer ∧ k.keep = h.keep ∧ k.keepSeed = h.keepSeed ∧ k.evt = h.evt ∧ k.cal = h.cal ∧ k.out = h.out ∧ k.lat = h.lat ∧ k.deck = h.deck ∧ k.ibex = h.ibex ∧ k.dma = h.dma ∧ k.img = h.img ∧ k.free = h.free
abbrev OnlyProngFree (h k : Hw) : Prop :=
  k.time = h.time ∧ k.sys = h.sys ∧ k.wave = h.wave ∧ k.note = h.note ∧ k.mywi = h.mywi ∧ k.txn = h.txn ∧ k.sett = h.sett ∧ k.ref = h.ref ∧ k.steer = h.steer ∧ k.sealU = h.sealU ∧ k.store = h.store ∧ k.keep = h.keep ∧ k.keepSeed = h.keepSeed ∧ k.evt = h.evt ∧ k.port = h.port ∧ k.pwr = h.pwr ∧ k.cal = h.cal ∧ k.out = h.out ∧ k.lat = h.lat ∧ k.deck = h.deck ∧ k.ibex = h.ibex ∧ k.dma = h.dma ∧ k.tally = h.tally ∧ k.img = h.img
abbrev OnlyNoteMywiSettProng (h k : Hw) : Prop :=
  k.time = h.time ∧ k.sys = h.sys ∧ k.wave = h.wave ∧ k.txn = h.txn ∧ k.ref = h.ref ∧ k.steer = h.steer ∧ k.sealU = h.sealU ∧ k.store = h.store ∧ k.keep = h.keep ∧ k.keepSeed = h.keepSeed ∧ k.evt = h.evt ∧ k.port = h.port ∧ k.pwr = h.pwr ∧ k.cal = h.cal ∧ k.out = h.out ∧ k.lat = h.lat ∧ k.deck = h.deck ∧ k.ibex = h.ibex ∧ k.dma = h.dma ∧ k.tally = h.tally ∧ k.img = h.img ∧ k.free = h.free
abbrev OnlyNoteMywiRefFree (h k : Hw) : Prop :=
  k.time = h.time ∧ k.sys = h.sys ∧ k.wave = h.wave ∧ k.txn = h.txn ∧ k.sett = h.sett ∧ k.steer = h.steer ∧ k.sealU = h.sealU ∧ k.store = h.store ∧ k.keep = h.keep ∧ k.keepSeed = h.keepSeed ∧ k.evt = h.evt ∧ k.port = h.port ∧ k.prong = h.prong ∧ k.pwr = h.pwr ∧ k.cal = h.cal ∧ k.out = h.out ∧ k.lat = h.lat ∧ k.deck = h.deck ∧ k.ibex = h.ibex ∧ k.dma = h.dma ∧ k.tally = h.tally ∧ k.img = h.img
abbrev OnlySysNoteMywiSealUPwrTally (h k : Hw) : Prop :=
  k.time = h.time ∧ k.wave = h.wave ∧ k.txn = h.txn ∧ k.sett = h.sett ∧ k.ref = h.ref ∧ k.steer = h.steer ∧ k.store = h.store ∧ k.keep = h.keep ∧ k.keepSeed = h.keepSeed ∧ k.evt = h.evt ∧ k.port = h.port ∧ k.prong = h.prong ∧ k.cal = h.cal ∧ k.out = h.out ∧ k.lat = h.lat ∧ k.deck = h.deck ∧ k.ibex = h.ibex ∧ k.dma = h.dma ∧ k.img = h.img ∧ k.free = h.free
abbrev OnlyRefSealUPortProngCalLatDeck (h k : Hw) : Prop :=
  k.time = h.time ∧ k.sys = h.sys ∧ k.wave = h.wave ∧ k.note = h.note ∧ k.mywi = h.mywi ∧ k.txn = h.txn ∧ k.sett = h.sett ∧ k.steer = h.steer ∧ k.store = h.store ∧ k.keep = h.keep ∧ k.keepSeed = h.keepSeed ∧ k.evt = h.evt ∧ k.pwr = h.pwr ∧ k.out = h.out ∧ k.ibex = h.ibex ∧ k.dma = h.dma ∧ k.tally = h.tally ∧ k.img = h.img ∧ k.free = h.free
abbrev OnlyTimeSys (h k : Hw) : Prop :=
  k.wave = h.wave ∧ k.note = h.note ∧ k.mywi = h.mywi ∧ k.txn = h.txn ∧ k.sett = h.sett ∧ k.ref = h.ref ∧ k.steer = h.steer ∧ k.sealU = h.sealU ∧ k.store = h.store ∧ k.keep = h.keep ∧ k.keepSeed = h.keepSeed ∧ k.evt = h.evt ∧ k.port = h.port ∧ k.prong = h.prong ∧ k.pwr = h.pwr ∧ k.cal = h.cal ∧ k.out = h.out ∧ k.lat = h.lat ∧ k.deck = h.deck ∧ k.ibex = h.ibex ∧ k.dma = h.dma ∧ k.tally = h.tally ∧ k.img = h.img ∧ k.free = h.free
abbrev OnlyNoteMywiSettPwr (h k : Hw) : Prop :=
  k.time = h.time ∧ k.sys = h.sys ∧ k.wave = h.wave ∧ k.txn = h.txn ∧ k.ref = h.ref ∧ k.steer = h.steer ∧ k.sealU = h.sealU ∧ k.store = h.store ∧ k.keep = h.keep ∧ k.keepSeed = h.keepSeed ∧ k.evt = h.evt ∧ k.port = h.port ∧ k.prong = h.prong ∧ k.cal = h.cal ∧ k.out = h.out ∧ k.lat = h.lat ∧ k.deck = h.deck ∧ k.ibex = h.ibex ∧ k.dma = h.dma ∧ k.tally = h.tally ∧ k.img = h.img ∧ k.free = h.free
abbrev OnlyNoteMywiSealUTally (h k : Hw) : Prop :=
  k.time = h.time ∧ k.sys = h.sys ∧ k.wave = h.wave ∧ k.txn = h.txn ∧ k.sett = h.sett ∧ k.ref = h.ref ∧ k.steer = h.steer ∧ k.store = h.store ∧ k.keep = h.keep ∧ k.keepSeed = h.keepSeed ∧ k.evt = h.evt ∧ k.port = h.port ∧ k.prong = h.prong ∧ k.pwr = h.pwr ∧ k.cal = h.cal ∧ k.out = h.out ∧ k.lat = h.lat ∧ k.deck = h.deck ∧ k.ibex = h.ibex ∧ k.dma = h.dma ∧ k.img = h.img ∧ k.free = h.free
abbrev OnlyKeep (h k : Hw) : Prop :=
  k.time = h.time ∧ k.sys = h.sys ∧ k.wave = h.wave ∧ k.note = h.note ∧ k.mywi = h.mywi ∧ k.txn = h.txn ∧ k.sett = h.sett ∧ k.ref = h.ref ∧ k.steer = h.steer ∧ k.sealU = h.sealU ∧ k.store = h.store ∧ k.keepSeed = h.keepSeed ∧ k.evt = h.evt ∧ k.port = h.port ∧ k.prong = h.prong ∧ k.pwr = h.pwr ∧ k.cal = h.cal ∧ k.out = h.out ∧ k.lat = h.lat ∧ k.deck = h.deck ∧ k.ibex = h.ibex ∧ k.dma = h.dma ∧ k.tally = h.tally ∧ k.img = h.img ∧ k.free = h.free
abbrev OnlySysNote (h k : Hw) : Prop :=
  k.time = h.time ∧ k.wave = h.wave ∧ k.mywi = h.mywi ∧ k.txn = h.txn ∧ k.sett = h.sett ∧ k.ref = h.ref ∧ k.steer = h.steer ∧ k.sealU = h.sealU ∧ k.store = h.store ∧ k.keep = h.keep ∧ k.keepSeed = h.keepSeed ∧ k.evt = h.evt ∧ k.port = h.port ∧ k.prong = h.prong ∧ k.pwr = h.pwr ∧ k.cal = h.cal ∧ k.out = h.out ∧ k.lat = h.lat ∧ k.deck = h.deck ∧ k.ibex = h.ibex ∧ k.dma = h.dma ∧ k.tally = h.tally ∧ k.img = h.img ∧ k.free = h.free
abbrev OnlySysNoteMywiSealUStoreEvtTally (h k : Hw) : Prop :=
  k.time = h.time ∧ k.wave = h.wave ∧ k.txn = h.txn ∧ k.sett = h.sett ∧ k.ref = h.ref ∧ k.steer = h.steer ∧ k.keep = h.keep ∧ k.keepSeed = h.keepSeed ∧ k.port = h.port ∧ k.prong = h.prong ∧ k.pwr = h.pwr ∧ k.cal = h.cal ∧ k.out = h.out ∧ k.lat = h.lat ∧ k.deck = h.deck ∧ k.ibex = h.ibex ∧ k.dma = h.dma ∧ k.img = h.img ∧ k.free = h.free
abbrev OnlySysNoteMywiSealUStoreEvtPortTally (h k : Hw) : Prop :=
  k.time = h.time ∧ k.wave = h.wave ∧ k.txn = h.txn ∧ k.sett = h.sett ∧ k.ref = h.ref ∧ k.steer = h.steer ∧ k.keep = h.keep ∧ k.keepSeed = h.keepSeed ∧ k.prong = h.prong ∧ k.pwr = h.pwr ∧ k.cal = h.cal ∧ k.out = h.out ∧ k.lat = h.lat ∧ k.deck = h.deck ∧ k.ibex = h.ibex ∧ k.dma = h.dma ∧ k.img = h.img ∧ k.free = h.free
abbrev OnlySysNoteMywiSealUStoreEvtPortProngTally (h k : Hw) : Prop :=
  k.time = h.time ∧ k.wave = h.wave ∧ k.txn = h.txn ∧ k.sett = h.sett ∧ k.ref = h.ref ∧ k.steer = h.steer ∧ k.keep = h.keep ∧ k.keepSeed = h.keepSeed ∧ k.pwr = h.pwr ∧ k.cal = h.cal ∧ k.out = h.out ∧ k.lat = h.lat ∧ k.deck = h.deck ∧ k.ibex = h.ibex ∧ k.dma = h.dma ∧ k.img = h.img ∧ k.free = h.free
abbrev OnlyNoteMywiSealUPwrTally (h k : Hw) : Prop :=
  k.time = h.time ∧ k.sys = h.sys ∧ k.wave = h.wave ∧ k.txn = h.txn ∧ k.sett = h.sett ∧ k.ref = h.ref ∧ k.steer = h.steer ∧ k.store = h.store ∧ k.keep = h.keep ∧ k.keepSeed = h.keepSeed ∧ k.evt = h.evt ∧ k.port = h.port ∧ k.prong = h.prong ∧ k.cal = h.cal ∧ k.out = h.out ∧ k.lat = h.lat ∧ k.deck = h.deck ∧ k.ibex = h.ibex ∧ k.dma = h.dma ∧ k.img = h.img ∧ k.free = h.free
abbrev OnlySysNoteMywiSealUStoreEvtPortPwrTally (h k : Hw) : Prop :=
  k.time = h.time ∧ k.wave = h.wave ∧ k.txn = h.txn ∧ k.sett = h.sett ∧ k.ref = h.ref ∧ k.steer = h.steer ∧ k.keep = h.keep ∧ k.keepSeed = h.keepSeed ∧ k.prong = h.prong ∧ k.cal = h.cal ∧ k.out = h.out ∧ k.lat = h.lat ∧ k.deck = h.deck ∧ k.ibex = h.ibex ∧ k.dma = h.dma ∧ k.img = h.img ∧ k.free = h.free
abbrev OnlySysNoteMywiSealUStoreEvtPortTallyFree (h k : Hw) : Prop :=
  k.time = h.time ∧ k.wave = h.wave ∧ k.txn = h.txn ∧ k.sett = h.sett ∧ k.ref = h.ref ∧ k.steer = h.steer ∧ k.keep = h.keep ∧ k.keepSeed = h.keepSeed ∧ k.prong = h.prong ∧ k.pwr = h.pwr ∧ k.cal = h.cal ∧ k.out = h.out ∧ k.lat = h.lat ∧ k.deck = h.deck ∧ k.ibex = h.ibex ∧ k.dma = h.dma ∧ k.img = h.img
abbrev OnlyTimeNoteMywiSteerTallyFree (h k : Hw) : Prop :=
  k.sys = h.sys ∧ k.wave = h.wave ∧ k.txn = h.txn ∧ k.sett = h.sett ∧ k.ref = h.ref ∧ k.sealU = h.sealU ∧ k.store = h.store ∧ k.keep = h.keep ∧ k.keepSeed = h.keepSeed ∧ k.evt = h.evt ∧ k.port = h.port ∧ k.prong = h.prong ∧ k.pwr = h.pwr ∧ k.cal = h.cal ∧ k.out = h.out ∧ k.lat = h.lat ∧ k.deck = h.deck ∧ k.ibex = h.ibex ∧ k.dma = h.dma ∧ k.img = h.img
abbrev OnlySettEvt (h k : Hw) : Prop :=
  k.time = h.time ∧ k.sys = h.sys ∧ k.wave = h.wave ∧ k.note = h.note ∧ k.mywi = h.mywi ∧ k.txn = h.txn ∧ k.ref = h.ref ∧ k.steer = h.steer ∧ k.sealU = h.sealU ∧ k.store = h.store ∧ k.keep = h.keep ∧ k.keepSeed = h.keepSeed ∧ k.port = h.port ∧ k.prong = h.prong ∧ k.pwr = h.pwr ∧ k.cal = h.cal ∧ k.out = h.out ∧ k.lat = h.lat ∧ k.deck = h.deck ∧ k.ibex = h.ibex ∧ k.dma = h.dma ∧ k.tally = h.tally ∧ k.img = h.img ∧ k.free = h.free
abbrev OnlyNoteMywiTxnProng (h k : Hw) : Prop :=
  k.time = h.time ∧ k.sys = h.sys ∧ k.wave = h.wave ∧ k.sett = h.sett ∧ k.ref = h.ref ∧ k.steer = h.steer ∧ k.sealU = h.sealU ∧ k.store = h.store ∧ k.keep = h.keep ∧ k.keepSeed = h.keepSeed ∧ k.evt = h.evt ∧ k.port = h.port ∧ k.pwr = h.pwr ∧ k.cal = h.cal ∧ k.out = h.out ∧ k.lat = h.lat ∧ k.deck = h.deck ∧ k.ibex = h.ibex ∧ k.dma = h.dma ∧ k.tally = h.tally ∧ k.img = h.img ∧ k.free = h.free
abbrev OnlyNoteMywiTxnTally (h k : Hw) : Prop :=
  k.time = h.time ∧ k.sys = h.sys ∧ k.wave = h.wave ∧ k.sett = h.sett ∧ k.ref = h.ref ∧ k.steer = h.steer ∧ k.sealU = h.sealU ∧ k.store = h.store ∧ k.keep = h.keep ∧ k.keepSeed = h.keepSeed ∧ k.evt = h.evt ∧ k.port = h.port ∧ k.prong = h.prong ∧ k.pwr = h.pwr ∧ k.cal = h.cal ∧ k.out = h.out ∧ k.lat = h.lat ∧ k.deck = h.deck ∧ k.ibex = h.ibex ∧ k.dma = h.dma ∧ k.img = h.img ∧ k.free = h.free

abbrev OnlySysNoteMywiPwrTally (h k : Hw) : Prop :=
  k.time = h.time ∧ k.wave = h.wave ∧ k.txn = h.txn ∧ k.sett = h.sett ∧ k.ref = h.ref ∧ k.steer = h.steer ∧ k.sealU = h.sealU ∧ k.store = h.store ∧ k.keep = h.keep ∧ k.keepSeed = h.keepSeed ∧ k.evt = h.evt ∧ k.port = h.port ∧ k.prong = h.prong ∧ k.cal = h.cal ∧ k.out = h.out ∧ k.lat = h.lat ∧ k.deck = h.deck ∧ k.ibex = h.ibex ∧ k.dma = h.dma ∧ k.img = h.img ∧ k.free = h.free
abbrev OnlyTimeSysNoteMywiSealUProngTally (h k : Hw) : Prop :=
  k.wave = h.wave ∧ k.txn = h.txn ∧ k.sett = h.sett ∧ k.ref = h.ref ∧ k.steer = h.steer ∧ k.store = h.store ∧ k.keep = h.keep ∧ k.keepSeed = h.keepSeed ∧ k.evt = h.evt ∧ k.port = h.port ∧ k.pwr = h.pwr ∧ k.cal = h.cal ∧ k.out = h.out ∧ k.lat = h.lat ∧ k.deck = h.deck ∧ k.ibex = h.ibex ∧ k.dma = h.dma ∧ k.img = h.img ∧ k.free = h.free
abbrev OnlyTimeSysMywiTxnSteerSealU (h k : Hw) : Prop :=
  k.wave = h.wave ∧ k.note = h.note ∧ k.sett = h.sett ∧ k.ref = h.ref ∧ k.store = h.store ∧ k.keep = h.keep ∧ k.keepSeed = h.keepSeed ∧ k.evt = h.evt ∧ k.port = h.port ∧ k.prong = h.prong ∧ k.pwr = h.pwr ∧ k.cal = h.cal ∧ k.out = h.out ∧ k.lat = h.lat ∧ k.deck = h.deck ∧ k.ibex = h.ibex ∧ k.dma = h.dma ∧ k.tally = h.tally ∧ k.img = h.img ∧ k.free = h.free
abbrev OnlyNoteMywiCalTallyFree (h k : Hw) : Prop :=
  k.time = h.time ∧ k.sys = h.sys ∧ k.wave = h.wave ∧ k.txn = h.txn ∧ k.sett = h.sett ∧ k.ref = h.ref ∧ k.steer = h.steer ∧ k.sealU = h.sealU ∧ k.store = h.store ∧ k.keep = h.keep ∧ k.keepSeed = h.keepSeed ∧ k.evt = h.evt ∧ k.port = h.port ∧ k.prong = h.prong ∧ k.pwr = h.pwr ∧ k.out = h.out ∧ k.lat = h.lat ∧ k.deck = h.deck ∧ k.ibex = h.ibex ∧ k.dma = h.dma ∧ k.img = h.img
abbrev OnlySysNoteMywiCalTally (h k : Hw) : Prop :=
  k.time = h.time ∧ k.wave = h.wave ∧ k.txn = h.txn ∧ k.sett = h.sett ∧ k.ref = h.ref ∧ k.steer = h.steer ∧ k.sealU = h.sealU ∧ k.store = h.store ∧ k.keep = h.keep ∧ k.keepSeed = h.keepSeed ∧ k.evt = h.evt ∧ k.port = h.port ∧ k.prong = h.prong ∧ k.pwr = h.pwr ∧ k.out = h.out ∧ k.lat = h.lat ∧ k.deck = h.deck ∧ k.ibex = h.ibex ∧ k.dma = h.dma ∧ k.img = h.img ∧ k.free = h.free
abbrev OnlyTimeSysNoteMywiTally (h k : Hw) : Prop :=
  k.wave = h.wave ∧ k.txn = h.txn ∧ k.sett = h.sett ∧ k.ref = h.ref ∧ k.steer = h.steer ∧ k.sealU = h.sealU ∧ k.store = h.store ∧ k.keep = h.keep ∧ k.keepSeed = h.keepSeed ∧ k.evt = h.evt ∧ k.port = h.port ∧ k.prong = h.prong ∧ k.pwr = h.pwr ∧ k.cal = h.cal ∧ k.out = h.out ∧ k.lat = h.lat ∧ k.deck = h.deck ∧ k.ibex = h.ibex ∧ k.dma = h.dma ∧ k.img = h.img ∧ k.free = h.free
abbrev OnlySysNoteMywiSealUStoreEvtDeckTallyFree (h k : Hw) : Prop :=
  k.time = h.time ∧ k.wave = h.wave ∧ k.txn = h.txn ∧ k.sett = h.sett ∧ k.ref = h.ref ∧ k.steer = h.steer ∧ k.keep = h.keep ∧ k.keepSeed = h.keepSeed ∧ k.port = h.port ∧ k.prong = h.prong ∧ k.pwr = h.pwr ∧ k.cal = h.cal ∧ k.out = h.out ∧ k.lat = h.lat ∧ k.ibex = h.ibex ∧ k.dma = h.dma ∧ k.img = h.img
abbrev KeepsWaveTxnSettSteerKeepKeepSeedPortProngPwrCalOutLatIbexDmaImgFree (h k : Hw) : Prop :=
  k.wave = h.wave ∧ k.txn = h.txn ∧ k.sett = h.sett ∧ k.steer = h.steer ∧ k.keep = h.keep ∧ k.keepSeed = h.keepSeed ∧ k.port = h.port ∧ k.prong = h.prong ∧ k.pwr = h.pwr ∧ k.cal = h.cal ∧ k.out = h.out ∧ k.lat = h.lat ∧ k.ibex = h.ibex ∧ k.dma = h.dma ∧ k.img = h.img ∧ k.free = h.free
abbrev OnlySysNoteMywiSealUStoreEvtPortDeckTally (h k : Hw) : Prop :=
  k.time = h.time ∧ k.wave = h.wave ∧ k.txn = h.txn ∧ k.sett = h.sett ∧ k.ref = h.ref ∧ k.steer = h.steer ∧ k.keep = h.keep ∧ k.keepSeed = h.keepSeed ∧ k.prong = h.prong ∧ k.pwr = h.pwr ∧ k.cal = h.cal ∧ k.out = h.out ∧ k.lat = h.lat ∧ k.ibex = h.ibex ∧ k.dma = h.dma ∧ k.img = h.img ∧ k.free = h.free
abbrev OnlyNoteMywiSealUDeckTally (h k : Hw) : Prop :=
  k.time = h.time ∧ k.sys = h.sys ∧ k.wave = h.wave ∧ k.txn = h.txn ∧ k.sett = h.sett ∧ k.ref = h.ref ∧ k.steer = h.steer ∧ k.store = h.store ∧ k.keep = h.keep ∧ k.keepSeed = h.keepSeed ∧ k.evt = h.evt ∧ k.port = h.port ∧ k.prong = h.prong ∧ k.pwr = h.pwr ∧ k.cal = h.cal ∧ k.out = h.out ∧ k.lat = h.lat ∧ k.ibex = h.ibex ∧ k.dma = h.dma ∧ k.img = h.img ∧ k.free = h.free
abbrev OnlySysNoteMywiDmaTally (h k : Hw) : Prop :=
  k.time = h.time ∧ k.wave = h.wave ∧ k.txn = h.txn ∧ k.sett = h.sett ∧ k.ref = h.ref ∧ k.steer = h.steer ∧ k.sealU = h.sealU ∧ k.store = h.store ∧ k.keep = h.keep ∧ k.keepSeed = h.keepSeed ∧ k.evt = h.evt ∧ k.port = h.port ∧ k.prong = h.prong ∧ k.pwr = h.pwr ∧ k.cal = h.cal ∧ k.out = h.out ∧ k.lat = h.lat ∧ k.deck = h.deck ∧ k.ibex = h.ibex ∧ k.img = h.img ∧ k.free = h.free
abbrev OnlySysNoteMywiEvtTally (h k : Hw) : Prop :=
  k.time = h.time ∧ k.wave = h.wave ∧ k.txn = h.txn ∧ k.sett = h.sett ∧ k.ref = h.ref ∧ k.steer = h.steer ∧ k.sealU = h.sealU ∧ k.store = h.store ∧ k.keep = h.keep ∧ k.keepSeed = h.keepSeed ∧ k.port = h.port ∧ k.prong = h.prong ∧ k.pwr = h.pwr ∧ k.cal = h.cal ∧ k.out = h.out ∧ k.lat = h.lat ∧ k.deck = h.deck ∧ k.ibex = h.ibex ∧ k.dma = h.dma ∧ k.img = h.img ∧ k.free = h.free
abbrev OnlyNoteMywiImg (h k : Hw) : Prop :=
  k.time = h.time ∧ k.sys = h.sys ∧ k.wave = h.wave ∧ k.txn = h.txn ∧ k.sett = h.sett ∧ k.ref = h.ref ∧ k.steer = h.steer ∧ k.sealU = h.sealU ∧ k.store = h.store ∧ k.keep = h.keep ∧ k.keepSeed = h.keepSeed ∧ k.evt = h.evt ∧ k.port = h.port ∧ k.prong = h.prong ∧ k.pwr = h.pwr ∧ k.cal = h.cal ∧ k.out = h.out ∧ k.lat = h.lat ∧ k.deck = h.deck ∧ k.ibex = h.ibex ∧ k.dma = h.dma ∧ k.tally = h.tally ∧ k.free = h.free
abbrev OnlyWaveNoteMywi (h k : Hw) : Prop :=
  k.time = h.time ∧ k.sys = h.sys ∧ k.txn = h.txn ∧ k.sett = h.sett ∧ k.ref = h.ref ∧ k.steer = h.steer ∧ k.sealU = h.sealU ∧ k.store = h.store ∧ k.keep = h.keep ∧ k.keepSeed = h.keepSeed ∧ k.evt = h.evt ∧ k.port = h.port ∧ k.prong = h.prong ∧ k.pwr = h.pwr ∧ k.cal = h.cal ∧ k.out = h.out ∧ k.lat = h.lat ∧ k.deck = h.deck ∧ k.ibex = h.ibex ∧ k.dma = h.dma ∧ k.tally = h.tally ∧ k.img = h.img ∧ k.free = h.free
abbrev OnlyTimeNoteMywiRefLat (h k : Hw) : Prop :=
  k.sys = h.sys ∧ k.wave = h.wave ∧ k.txn = h.txn ∧ k.sett = h.sett ∧ k.steer = h.steer ∧ k.sealU = h.sealU ∧ k.store = h.store ∧ k.keep = h.keep ∧ k.keepSeed = h.keepSeed ∧ k.evt = h.evt ∧ k.port = h.port ∧ k.prong = h.prong ∧ k.pwr = h.pwr ∧ k.cal = h.cal ∧ k.out = h.out ∧ k.deck = h.deck ∧ k.ibex = h.ibex ∧ k.dma = h.dma ∧ k.tally = h.tally ∧ k.img = h.img ∧ k.free = h.free
abbrev OnlyTimeNoteMywiRefLatTally (h k : Hw) : Prop :=
  k.sys = h.sys ∧ k.wave = h.wave ∧ k.txn = h.txn ∧ k.sett = h.sett ∧ k.steer = h.steer ∧ k.sealU = h.sealU ∧ k.store = h.store ∧ k.keep = h.keep ∧ k.keepSeed = h.keepSeed ∧ k.evt = h.evt ∧ k.port = h.port ∧ k.prong = h.prong ∧ k.pwr = h.pwr ∧ k.cal = h.cal ∧ k.out = h.out ∧ k.deck = h.deck ∧ k.ibex = h.ibex ∧ k.dma = h.dma ∧ k.img = h.img ∧ k.free = h.free
abbrev OnlyNoteMywiEvtOut (h k : Hw) : Prop :=
  k.time = h.time ∧ k.sys = h.sys ∧ k.wave = h.wave ∧ k.txn = h.txn ∧ k.sett = h.sett ∧ k.ref = h.ref ∧ k.steer = h.steer ∧ k.sealU = h.sealU ∧ k.store = h.store ∧ k.keep = h.keep ∧ k.keepSeed = h.keepSeed ∧ k.port = h.port ∧ k.prong = h.prong ∧ k.pwr = h.pwr ∧ k.cal = h.cal ∧ k.lat = h.lat ∧ k.deck = h.deck ∧ k.ibex = h.ibex ∧ k.dma = h.dma ∧ k.tally = h.tally ∧ k.img = h.img ∧ k.free = h.free
abbrev OnlyNoteMywiOut (h k : Hw) : Prop :=
  k.time = h.time ∧ k.sys = h.sys ∧ k.wave = h.wave ∧ k.txn = h.txn ∧ k.sett = h.sett ∧ k.ref = h.ref ∧ k.steer = h.steer ∧ k.sealU = h.sealU ∧ k.store = h.store ∧ k.keep = h.keep ∧ k.keepSeed = h.keepSeed ∧ k.evt = h.evt ∧ k.port = h.port ∧ k.prong = h.prong ∧ k.pwr = h.pwr ∧ k.cal = h.cal ∧ k.lat = h.lat ∧ k.deck = h.deck ∧ k.ibex = h.ibex ∧ k.dma = h.dma ∧ k.tally = h.tally ∧ k.img = h.img ∧ k.free = h.free
abbrev OnlyNoteMywiPort (h k : Hw) : Prop :=
  k.time = h.time ∧ k.sys = h.sys ∧ k.wave = h.wave ∧ k.txn = h.txn ∧ k.sett = h.sett ∧ k.ref = h.ref ∧ k.steer = h.steer ∧ k.sealU = h.sealU ∧ k.store = h.store ∧ k.keep = h.keep ∧ k.keepSeed = h.keepSeed ∧ k.evt = h.evt ∧ k.prong = h.prong ∧ k.pwr = h.pwr ∧ k.cal = h.cal ∧ k.out = h.out ∧ k.lat = h.lat ∧ k.deck = h.deck ∧ k.ibex = h.ibex ∧ k.dma = h.dma ∧ k.tally = h.tally ∧ k.img = h.img ∧ k.free = h.free
abbrev OnlyNoteMywiRefPort (h k : Hw) : Prop :=
  k.time = h.time ∧ k.sys = h.sys ∧ k.wave = h.wave ∧ k.txn = h.txn ∧ k.sett = h.sett ∧ k.steer = h.steer ∧ k.sealU = h.sealU ∧ k.store = h.store ∧ k.keep = h.keep ∧ k.keepSeed = h.keepSeed ∧ k.evt = h.evt ∧ k.prong = h.prong ∧ k.pwr = h.pwr ∧ k.cal = h.cal ∧ k.out = h.out ∧ k.lat = h.lat ∧ k.deck = h.deck ∧ k.ibex = h.ibex ∧ k.dma = h.dma ∧ k.tally = h.tally ∧ k.img = h.img ∧ k.free = h.free
abbrev OnlyNoteMywiPortProngLatTally (h k : Hw) : Prop :=
  k.time = h.time ∧ k.sys = h.sys ∧ k.wave = h.wave ∧ k.txn = h.txn ∧ k.sett = h.sett ∧ k.ref = h.ref ∧ k.steer = h.steer ∧ k.sealU = h.sealU ∧ k.store = h.store ∧ k.keep = h.keep ∧ k.keepSeed = h.keepSeed ∧ k.evt = h.evt ∧ k.pwr = h.pwr ∧ k.cal = h.cal ∧ k.out = h.out ∧ k.deck = h.deck ∧ k.ibex = h.ibex ∧ k.dma = h.dma ∧ k.img = h.img ∧ k.free = h.free
abbrev OnlySysNoteMywiProngTally (h k : Hw) : Prop :=
  k.time = h.time ∧ k.wave = h.wave ∧ k.txn = h.txn ∧ k.sett = h.sett ∧ k.ref = h.ref ∧ k.steer = h.steer ∧ k.sealU = h.sealU ∧ k.store = h.store ∧ k.keep = h.keep ∧ k.keepSeed = h.keepSeed ∧ k.evt = h.evt ∧ k.port = h.port ∧ k.pwr = h.pwr ∧ k.cal = h.cal ∧ k.out = h.out ∧ k.lat = h.lat ∧ k.deck = h.deck ∧ k.ibex = h.ibex ∧ k.dma = h.dma ∧ k.img = h.img ∧ k.free = h.free
abbrev OnlyNoteMywiProng (h k : Hw) : Prop :=
  k.time = h.time ∧ k.sys = h.sys ∧ k.wave = h.wave ∧ k.txn = h.txn ∧ k.sett = h.sett ∧ k.ref = h.ref ∧ k.steer = h.steer ∧ k.sealU = h.sealU ∧ k.store = h.store ∧ k.keep = h.keep ∧ k.keepSeed = h.keepSeed ∧ k.evt = h.evt ∧ k.port = h.port ∧ k.pwr = h.pwr ∧ k.cal = h.cal ∧ k.out = h.out ∧ k.lat = h.lat ∧ k.deck = h.deck ∧ k.ibex = h.ibex ∧ k.dma = h.dma ∧ k.tally = h.tally ∧ k.img = h.img ∧ k.free = h.free
abbrev OnlyNoteMywiPortTallyFree (h k : Hw) : Prop :=
  k.time = h.time ∧ k.sys = h.sys ∧ k.wave = h.wave ∧ k.txn = h.txn ∧ k.sett = h.sett ∧ k.ref = h.ref ∧ k.steer = h.steer ∧ k.sealU = h.sealU ∧ k.store = h.store ∧ k.keep = h.keep ∧ k.keepSeed = h.keepSeed ∧ k.evt = h.evt ∧ k.prong = h.prong ∧ k.pwr = h.pwr ∧ k.cal = h.cal ∧ k.out = h.out ∧ k.lat = h.lat ∧ k.deck = h.deck ∧ k.ibex = h.ibex ∧ k.dma = h.dma ∧ k.img = h.img
abbrev OnlyTimeNoteMywiRefSteer (h k : Hw) : Prop :=
  k.sys = h.sys ∧ k.wave = h.wave ∧ k.txn = h.txn ∧ k.sett = h.sett ∧ k.sealU = h.sealU ∧ k.store = h.store ∧ k.keep = h.keep ∧ k.keepSeed = h.keepSeed ∧ k.evt = h.evt ∧ k.port = h.port ∧ k.prong = h.prong ∧ k.pwr = h.pwr ∧ k.cal = h.cal ∧ k.out = h.out ∧ k.lat = h.lat ∧ k.deck = h.deck ∧ k.ibex = h.ibex ∧ k.dma = h.dma ∧ k.tally = h.tally ∧ k.img = h.img ∧ k.free = h.free
abbrev OnlyTimeNoteMywiRefSteerFree (h k : Hw) : Prop :=
  k.sys = h.sys ∧ k.wave = h.wave ∧ k.txn = h.txn ∧ k.sett = h.sett ∧ k.sealU = h.sealU ∧ k.store = h.store ∧ k.keep = h.keep ∧ k.keepSeed = h.keepSeed ∧ k.evt = h.evt ∧ k.port = h.port ∧ k.prong = h.prong ∧ k.pwr = h.pwr ∧ k.cal = h.cal ∧ k.out = h.out ∧ k.lat = h.lat ∧ k.deck = h.deck ∧ k.ibex = h.ibex ∧ k.dma = h.dma ∧ k.tally = h.tally ∧ k.img = h.img
abbrev OnlySysNoteMywiSealUTally (h k : Hw) : Prop :=
  k.time = h.time ∧ k.wave = h.wave ∧ k.txn = h.txn ∧ k.sett = h.sett ∧ k.ref = h.ref ∧ k.steer = h.steer ∧ k.store = h.store ∧ k.keep = h.keep ∧ k.keepSeed = h.keepSeed ∧ k.evt = h.evt ∧ k.port = h.port ∧ k.prong = h.prong ∧ k.pwr = h.pwr ∧ k.cal = h.cal ∧ k.out = h.out ∧ k.lat = h.lat ∧ k.deck = h.deck ∧ k.ibex = h.ibex ∧ k.dma = h.dma ∧ k.img = h.img ∧ k.free = h.free
@[simp] theorem Hw.updCh_frame (h : Hw) (n : Fin 32) (f : HerdCh → HerdCh) :
    OnlyIbex h (Hw.updCh h n f) := by
  unfold Hw.updCh
  (try dsimp only [Hw.when, Hw.dkRx, Hw.latRx, Hw.calBus, Hw.request, Hw.chFree, Hw.dmaCtrl])
  (repeat' (split <;> try (rename_i heq; simp only [Prod.ext_iff] at heq; obtain ⟨rfl, rfl⟩ := heq))) <;> simp [OnlyIbex]
@[simp] theorem Hw.chWords_frame (h : Hw) (n : Fin 32) (ws : List (Fin 3 × Word)) :
    OnlyIbex h (Hw.chWords h n ws).2 := by
  unfold Hw.chWords
  (try dsimp only [Hw.when, Hw.dkRx, Hw.latRx, Hw.calBus, Hw.request, Hw.chFree, Hw.dmaCtrl])
  (repeat' (split <;> try (rename_i heq; simp only [Prod.ext_iff] at heq; obtain ⟨rfl, rfl⟩ := heq))) <;> simp (disch := (intros; first | rfl | ((try dsimp only [Hw.when, Hw.dkRx, Hw.latRx, Hw.calBus, Hw.request, Hw.chFree, Hw.dmaCtrl]); first | rfl | ((repeat' (split <;> try (rename_i heq; simp only [Prod.ext_iff] at heq; obtain ⟨rfl, rfl⟩ := heq))) <;> first | rfl | (try simp))))) [OnlyIbex, foldl_time, foldl_sys, foldl_wave, foldl_note, foldl_mywi, foldl_txn, foldl_sett, foldl_ref, foldl_steer, foldl_sealU, foldl_store, foldl_keep, foldl_keepSeed, foldl_evt, foldl_port, foldl_prong, foldl_pwr, foldl_cal, foldl_out, foldl_lat, foldl_deck, foldl_ibex, foldl_dma, foldl_tally, foldl_img, foldl_free]
@[simp] theorem Hw.updKid_frame (h : Hw) (k : Fin 8) (f : KidLane → KidLane) :
    OnlyIbex h (Hw.updKid h k f) := by
  unfold Hw.updKid
  (try dsimp only [Hw.when, Hw.dkRx, Hw.latRx, Hw.calBus, Hw.request, Hw.chFree, Hw.dmaCtrl])
  (repeat' (split <;> try (rename_i heq; simp only [Prod.ext_iff] at heq; obtain ⟨rfl, rfl⟩ := heq))) <;> simp [OnlyIbex]
@[simp] theorem Hw.kidWords_frame (h : Hw) (n : Fin 8) (ws : List (Fin 3 × Word)) :
    OnlyIbex h (Hw.kidWords h n ws).2 := by
  unfold Hw.kidWords
  (try dsimp only [Hw.when, Hw.dkRx, Hw.latRx, Hw.calBus, Hw.request, Hw.chFree, Hw.dmaCtrl])
  (repeat' (split <;> try (rename_i heq; simp only [Prod.ext_iff] at heq; obtain ⟨rfl, rfl⟩ := heq))) <;> simp (disch := (intros; first | rfl | ((try dsimp only [Hw.when, Hw.dkRx, Hw.latRx, Hw.calBus, Hw.request, Hw.chFree, Hw.dmaCtrl]); first | rfl | ((repeat' (split <;> try (rename_i heq; simp only [Prod.ext_iff] at heq; obtain ⟨rfl, rfl⟩ := heq))) <;> first | rfl | (try simp))))) [OnlyIbex, foldl_time, foldl_sys, foldl_wave, foldl_note, foldl_mywi, foldl_txn, foldl_sett, foldl_ref, foldl_steer, foldl_sealU, foldl_store, foldl_keep, foldl_keepSeed, foldl_evt, foldl_port, foldl_prong, foldl_pwr, foldl_cal, foldl_out, foldl_lat, foldl_deck, foldl_ibex, foldl_dma, foldl_tally, foldl_img, foldl_free]
@[simp] theorem Hw.deliver_frame (h : Hw) (n : Notice) :
    OnlyMywi h (Hw.deliver h n) := by
  unfold Hw.deliver
  (try dsimp only [Hw.when, Hw.dkRx, Hw.latRx, Hw.calBus, Hw.request, Hw.chFree, Hw.dmaCtrl])
  (repeat' (split <;> try (rename_i heq; simp only [Prod.ext_iff] at heq; obtain ⟨rfl, rfl⟩ := heq))) <;> simp [OnlyMywi]
@[simp] theorem Hw.sendVec_frame (h : Hw) (v : Nat) :
    OnlyNote h (Hw.sendVec h v) := by
  unfold Hw.sendVec
  (try dsimp only [Hw.when, Hw.dkRx, Hw.latRx, Hw.calBus, Hw.request, Hw.chFree, Hw.dmaCtrl])
  (repeat' (split <;> try (rename_i heq; simp only [Prod.ext_iff] at heq; obtain ⟨rfl, rfl⟩ := heq))) <;> simp [OnlyNote]
@[simp] theorem Hw.sendSrc_frame (h : Hw) (s : Fin 28) :
    OnlyNote h (Hw.sendSrc h s) := by
  unfold Hw.sendSrc
  (try dsimp only [Hw.when, Hw.dkRx, Hw.latRx, Hw.calBus, Hw.request, Hw.chFree, Hw.dmaCtrl])
  (repeat' (split <;> try (rename_i heq; simp only [Prod.ext_iff] at heq; obtain ⟨rfl, rfl⟩ := heq))) <;> simp [OnlyNote]
@[simp] theorem Hw.putEvt_frame (h : Hw) (s : Fin 28) (w : Word) :
    OnlyNote h (Hw.putEvt h s w) := by
  unfold Hw.putEvt
  (try dsimp only [Hw.when, Hw.dkRx, Hw.latRx, Hw.calBus, Hw.request, Hw.chFree, Hw.dmaCtrl])
  (repeat' (split <;> try (rename_i heq; simp only [Prod.ext_iff] at heq; obtain ⟨rfl, rfl⟩ := heq))) <;> simp [OnlyNote]
@[simp] theorem Hw.setEvt_frame (h : Hw) (s : Fin 28) (b : Nat) :
    OnlyNote h (Hw.setEvt h s b) := by
  unfold Hw.setEvt
  (try dsimp only [Hw.when, Hw.dkRx, Hw.latRx, Hw.calBus, Hw.request, Hw.chFree, Hw.dmaCtrl])
  (repeat' (split <;> try (rename_i heq; simp only [Prod.ext_iff] at heq; obtain ⟨rfl, rfl⟩ := heq))) <;> simp [OnlyNote]
@[simp] theorem Hw.notice_frame (h : Hw) (s : Fin 28) (b : Nat) (stem : String) (args : List (String × String)) :
    OnlyNoteMywi h (Hw.notice h s b stem args) := by
  unfold Hw.notice
  (try dsimp only [Hw.when, Hw.dkRx, Hw.latRx, Hw.calBus, Hw.request, Hw.chFree, Hw.dmaCtrl])
  (repeat' (split <;> try (rename_i heq; simp only [Prod.ext_iff] at heq; obtain ⟨rfl, rfl⟩ := heq))) <;> simp [OnlyNoteMywi]
@[simp] theorem Hw.putUnit_frame (h : Hw) (u : Fin 18) (y : TallyUnit) :
    OnlyNoteMywiTally h (Hw.putUnit h u y) := by
  unfold Hw.putUnit
  (try dsimp only [Hw.when, Hw.dkRx, Hw.latRx, Hw.calBus, Hw.request, Hw.chFree, Hw.dmaCtrl])
  (repeat' (split <;> try (rename_i heq; simp only [Prod.ext_iff] at heq; obtain ⟨rfl, rfl⟩ := heq))) <;> simp [OnlyNoteMywiTally]
@[simp] theorem Hw.tcount_frame (h : Hw) (u : Fin 18) (code : Nat) (w : Nat) :
    OnlyNoteMywiTally h (Hw.tcount h u code w) := by
  unfold Hw.tcount
  (try dsimp only [Hw.when, Hw.dkRx, Hw.latRx, Hw.calBus, Hw.request, Hw.chFree, Hw.dmaCtrl])
  (repeat' (split <;> try (rename_i heq; simp only [Prod.ext_iff] at heq; obtain ⟨rfl, rfl⟩ := heq))) <;> simp [OnlyNoteMywiTally]
@[simp] theorem Hw.chFlag_frame (h : Hw) (n : Fin 32) (b : Nat) :
    OnlyNoteMywiIbexTally h (Hw.chFlag h n b) := by
  unfold Hw.chFlag
  (try dsimp only [Hw.when, Hw.dkRx, Hw.latRx, Hw.calBus, Hw.request, Hw.chFree, Hw.dmaCtrl])
  (repeat' (split <;> try (rename_i heq; simp only [Prod.ext_iff] at heq; obtain ⟨rfl, rfl⟩ := heq))) <;> simp [OnlyNoteMywiIbexTally]
@[simp] theorem Hw.inject_frame (h : Hw) (n : Fin 32) (w : BitVec 24) :
    OnlyNoteMywiIbexTally h (Hw.inject h n w) := by
  unfold Hw.inject
  (try dsimp only [Hw.when, Hw.dkRx, Hw.latRx, Hw.calBus, Hw.request, Hw.chFree, Hw.dmaCtrl])
  (repeat' (split <;> try (rename_i heq; simp only [Prod.ext_iff] at heq; obtain ⟨rfl, rfl⟩ := heq))) <;> simp [OnlyNoteMywiIbexTally]
@[simp] theorem Hw.storePut_frame (h : Hw) (a : Nat) (v : Word) :
    OnlyIbex h (Hw.storePut h a v) := by
  unfold Hw.storePut
  (try dsimp only [Hw.when, Hw.dkRx, Hw.latRx, Hw.calBus, Hw.request, Hw.chFree, Hw.dmaCtrl])
  (repeat' (split <;> try (rename_i heq; simp only [Prod.ext_iff] at heq; obtain ⟨rfl, rfl⟩ := heq))) <;> simp [OnlyIbex]
@[simp] theorem Hw.ibexTake_frame (h : Hw) (k : Key) (v : SVal) :
    OnlyNoteMywiIbexTally h (Hw.ibexTake h k v).2 := by
  unfold Hw.ibexTake
  (try dsimp only [Hw.when, Hw.dkRx, Hw.latRx, Hw.calBus, Hw.request, Hw.chFree, Hw.dmaCtrl])
  (repeat' (split <;> try (rename_i heq; simp only [Prod.ext_iff] at heq; obtain ⟨rfl, rfl⟩ := heq))) <;> simp (disch := (intros; first | rfl | ((try dsimp only [Hw.when, Hw.dkRx, Hw.latRx, Hw.calBus, Hw.request, Hw.chFree, Hw.dmaCtrl]); first | rfl | ((repeat' (split <;> try (rename_i heq; simp only [Prod.ext_iff] at heq; obtain ⟨rfl, rfl⟩ := heq))) <;> first | rfl | (try simp))))) [OnlyNoteMywiIbexTally, foldl_time, foldl_sys, foldl_wave, foldl_note, foldl_mywi, foldl_txn, foldl_sett, foldl_ref, foldl_steer, foldl_sealU, foldl_store, foldl_keep, foldl_keepSeed, foldl_evt, foldl_port, foldl_prong, foldl_pwr, foldl_cal, foldl_out, foldl_lat, foldl_deck, foldl_ibex, foldl_dma, foldl_tally, foldl_img, foldl_free]
@[simp] theorem Hw.regsFresh_frame (h : Hw) (p : Nat → Bool) :
    OnlySys h (Hw.regsFresh h p) := by
  unfold Hw.regsFresh
  (try dsimp only [Hw.when, Hw.dkRx, Hw.latRx, Hw.calBus, Hw.request, Hw.chFree, Hw.dmaCtrl])
  (repeat' (split <;> try (rename_i heq; simp only [Prod.ext_iff] at heq; obtain ⟨rfl, rfl⟩ := heq))) <;> simp [OnlySys]
@[simp] theorem Hw.ibexLoad_frame (h : Hw) (sec : Option (List Byte)) :
    OnlySysNoteMywiIbex h (Hw.ibexLoad h sec) := by
  unfold Hw.ibexLoad
  (try dsimp only [Hw.when, Hw.dkRx, Hw.latRx, Hw.calBus, Hw.request, Hw.chFree, Hw.dmaCtrl])
  (repeat' (split <;> try (rename_i heq; simp only [Prod.ext_iff] at heq; obtain ⟨rfl, rfl⟩ := heq))) <;> simp [OnlySysNoteMywiIbex]
@[simp] theorem Hw.setDom_frame (h : Hw) (d : Domain) (x : DomSt) :
    OnlyPwr h (Hw.setDom h d x) := by
  unfold Hw.setDom
  (try dsimp only [Hw.when, Hw.dkRx, Hw.latRx, Hw.calBus, Hw.request, Hw.chFree, Hw.dmaCtrl])
  (repeat' (split <;> try (rename_i heq; simp only [Prod.ext_iff] at heq; obtain ⟨rfl, rfl⟩ := heq))) <;> simp [OnlyPwr]
@[simp] theorem Hw.updPort_frame (h : Hw) (p : Fin 4) (f : Port → Port) :
    OnlyPort h (Hw.updPort h p f) := by
  unfold Hw.updPort
  (try dsimp only [Hw.when, Hw.dkRx, Hw.latRx, Hw.calBus, Hw.request, Hw.chFree, Hw.dmaCtrl])
  (repeat' (split <;> try (rename_i heq; simp only [Prod.ext_iff] at heq; obtain ⟨rfl, rfl⟩ := heq))) <;> simp [OnlyPort]
@[simp] theorem Hw.updLp_frame (h : Hw) (l : Fin 16) (f : LPort → LPort) :
    OnlyPort h (Hw.updLp h l f) := by
  unfold Hw.updLp
  (try dsimp only [Hw.when, Hw.dkRx, Hw.latRx, Hw.calBus, Hw.request, Hw.chFree, Hw.dmaCtrl])
  (repeat' (split <;> try (rename_i heq; simp only [Prod.ext_iff] at heq; obtain ⟨rfl, rfl⟩ := heq))) <;> simp [OnlyPort]
@[simp] theorem Hw.lpDrop_frame (h : Hw) (l : Fin 16) :
    OnlyNoteMywiPortTally h (Hw.lpDrop h l) := by
  unfold Hw.lpDrop
  (try dsimp only [Hw.when, Hw.dkRx, Hw.latRx, Hw.calBus, Hw.request, Hw.chFree, Hw.dmaCtrl])
  (repeat' (split <;> try (rename_i heq; simp only [Prod.ext_iff] at heq; obtain ⟨rfl, rfl⟩ := heq))) <;> simp [OnlyNoteMywiPortTally]
@[simp] theorem Hw.portLink_frame (h : Hw) (p : Fin 4) (lane : Nat) (state : String) :
    OnlyNoteMywi h (Hw.portLink h p lane state) := by
  unfold Hw.portLink
  (try dsimp only [Hw.when, Hw.dkRx, Hw.latRx, Hw.calBus, Hw.request, Hw.chFree, Hw.dmaCtrl])
  (repeat' (split <;> try (rename_i heq; simp only [Prod.ext_iff] at heq; obtain ⟨rfl, rfl⟩ := heq))) <;> simp [OnlyNoteMywi]
@[simp] theorem Hw.updRef_frame (h : Hw) (i : Fin 20) (f : RefIn → RefIn) :
    OnlyRef h (Hw.updRef h i f) := by
  unfold Hw.updRef
  (try dsimp only [Hw.when, Hw.dkRx, Hw.latRx, Hw.calBus, Hw.request, Hw.chFree, Hw.dmaCtrl])
  (repeat' (split <;> try (rename_i heq; simp only [Prod.ext_iff] at heq; obtain ⟨rfl, rfl⟩ := heq))) <;> simp [OnlyRef]
@[simp] theorem Hw.synceLink_frame (h : Hw) (p : Fin 4) (k : Fin 4) (up : Bool) :
    OnlyRef h (Hw.synceLink h p k up) := by
  unfold Hw.synceLink
  (try dsimp only [Hw.when, Hw.dkRx, Hw.latRx, Hw.calBus, Hw.request, Hw.chFree, Hw.dmaCtrl])
  (repeat' (split <;> try (rename_i heq; simp only [Prod.ext_iff] at heq; obtain ⟨rfl, rfl⟩ := heq))) <;> simp [OnlyRef]
@[simp] theorem Hw.updLane_frame (h : Hw) (p : Fin 4) (k : Fin 4) (f : Lane → Lane) :
    OnlyPort h (Hw.updLane h p k f) := by
  unfold Hw.updLane
  (try dsimp only [Hw.when, Hw.dkRx, Hw.latRx, Hw.calBus, Hw.request, Hw.chFree, Hw.dmaCtrl])
  (repeat' (split <;> try (rename_i heq; simp only [Prod.ext_iff] at heq; obtain ⟨rfl, rfl⟩ := heq))) <;> simp [OnlyPort]
@[simp] theorem Hw.laneDown_frame (h : Hw) (p : Fin 4) (k : Fin 4) :
    OnlyNoteMywiRefPortTally h (Hw.laneDown h p k) := by
  unfold Hw.laneDown
  (try dsimp only [Hw.when, Hw.dkRx, Hw.latRx, Hw.calBus, Hw.request, Hw.chFree, Hw.dmaCtrl])
  (repeat' (split <;> try (rename_i heq; simp only [Prod.ext_iff] at heq; obtain ⟨rfl, rfl⟩ := heq))) <;> simp [OnlyNoteMywiRefPortTally]
@[simp] theorem Hw.portClear_frame (h : Hw) (p : Fin 4) :
    OnlyNoteMywiRefPortTally h (Hw.portClear h p) := by
  unfold Hw.portClear
  (try dsimp only [Hw.when, Hw.dkRx, Hw.latRx, Hw.calBus, Hw.request, Hw.chFree, Hw.dmaCtrl])
  (repeat' (split <;> try (rename_i heq; simp only [Prod.ext_iff] at heq; obtain ⟨rfl, rfl⟩ := heq))) <;> simp (disch := (intros; first | rfl | ((try dsimp only [Hw.when, Hw.dkRx, Hw.latRx, Hw.calBus, Hw.request, Hw.chFree, Hw.dmaCtrl]); first | rfl | ((repeat' (split <;> try (rename_i heq; simp only [Prod.ext_iff] at heq; obtain ⟨rfl, rfl⟩ := heq))) <;> first | rfl | (try simp))))) [OnlyNoteMywiRefPortTally, foldl_time, foldl_sys, foldl_wave, foldl_note, foldl_mywi, foldl_txn, foldl_sett, foldl_ref, foldl_steer, foldl_sealU, foldl_store, foldl_keep, foldl_keepSeed, foldl_evt, foldl_port, foldl_prong, foldl_pwr, foldl_cal, foldl_out, foldl_lat, foldl_deck, foldl_ibex, foldl_dma, foldl_tally, foldl_img, foldl_free]
@[simp] theorem Hw.updPipe_frame (h : Hw) (q : Fin 16) (f : Pipe → Pipe) :
    OnlyProng h (Hw.updPipe h q f) := by
  unfold Hw.updPipe
  (try dsimp only [Hw.when, Hw.dkRx, Hw.latRx, Hw.calBus, Hw.request, Hw.chFree, Hw.dmaCtrl])
  (repeat' (split <;> try (rename_i heq; simp only [Prod.ext_iff] at heq; obtain ⟨rfl, rfl⟩ := heq))) <;> simp [OnlyProng]
@[simp] theorem Hw.groupClear_frame (h : Hw) (g : Fin 4) :
    OnlyProng h (Hw.groupClear h g) := by
  unfold Hw.groupClear
  (try dsimp only [Hw.when, Hw.dkRx, Hw.latRx, Hw.calBus, Hw.request, Hw.chFree, Hw.dmaCtrl])
  (repeat' (split <;> try (rename_i heq; simp only [Prod.ext_iff] at heq; obtain ⟨rfl, rfl⟩ := heq))) <;> simp (disch := (intros; first | rfl | ((try dsimp only [Hw.when, Hw.dkRx, Hw.latRx, Hw.calBus, Hw.request, Hw.chFree, Hw.dmaCtrl]); first | rfl | ((repeat' (split <;> try (rename_i heq; simp only [Prod.ext_iff] at heq; obtain ⟨rfl, rfl⟩ := heq))) <;> first | rfl | (try simp))))) [OnlyProng, foldl_time, foldl_sys, foldl_wave, foldl_note, foldl_mywi, foldl_txn, foldl_sett, foldl_ref, foldl_steer, foldl_sealU, foldl_store, foldl_keep, foldl_keepSeed, foldl_evt, foldl_port, foldl_prong, foldl_pwr, foldl_cal, foldl_out, foldl_lat, foldl_deck, foldl_ibex, foldl_dma, foldl_tally, foldl_img, foldl_free]
@[simp] theorem Hw.pipeClear_frame (h : Hw) :
    OnlyProng h (Hw.pipeClear h) := by
  unfold Hw.pipeClear
  (try dsimp only [Hw.when, Hw.dkRx, Hw.latRx, Hw.calBus, Hw.request, Hw.chFree, Hw.dmaCtrl])
  (repeat' (split <;> try (rename_i heq; simp only [Prod.ext_iff] at heq; obtain ⟨rfl, rfl⟩ := heq))) <;> simp (disch := (intros; first | rfl | ((try dsimp only [Hw.when, Hw.dkRx, Hw.latRx, Hw.calBus, Hw.request, Hw.chFree, Hw.dmaCtrl]); first | rfl | ((repeat' (split <;> try (rename_i heq; simp only [Prod.ext_iff] at heq; obtain ⟨rfl, rfl⟩ := heq))) <;> first | rfl | (try simp))))) [OnlyProng, foldl_time, foldl_sys, foldl_wave, foldl_note, foldl_mywi, foldl_txn, foldl_sett, foldl_ref, foldl_steer, foldl_sealU, foldl_store, foldl_keep, foldl_keepSeed, foldl_evt, foldl_port, foldl_prong, foldl_pwr, foldl_cal, foldl_out, foldl_lat, foldl_deck, foldl_ibex, foldl_dma, foldl_tally, foldl_img, foldl_free]
@[simp] theorem Hw.sealClear_frame (h : Hw) :
    OnlySealU h (Hw.sealClear h) := by
  unfold Hw.sealClear
  (try dsimp only [Hw.when, Hw.dkRx, Hw.latRx, Hw.calBus, Hw.request, Hw.chFree, Hw.dmaCtrl])
  (repeat' (split <;> try (rename_i heq; simp only [Prod.ext_iff] at heq; obtain ⟨rfl, rfl⟩ := heq))) <;> simp [OnlySealU]
@[simp] theorem Hw.latInput_frame (h : Hw) (n : Fin 4) (alive : Bool) :
    OnlyRef h (Hw.latInput h n alive) := by
  unfold Hw.latInput
  (try dsimp only [Hw.when, Hw.dkRx, Hw.latRx, Hw.calBus, Hw.request, Hw.chFree, Hw.dmaCtrl])
  (repeat' (split <;> try (rename_i heq; simp only [Prod.ext_iff] at heq; obtain ⟨rfl, rfl⟩ := heq))) <;> simp [OnlyRef]
@[simp] theorem Hw.updLink_frame (h : Hw) (n : Fin 4) (f : LatLink → LatLink) :
    OnlyLat h (Hw.updLink h n f) := by
  unfold Hw.updLink
  (try dsimp only [Hw.when, Hw.dkRx, Hw.latRx, Hw.calBus, Hw.request, Hw.chFree, Hw.dmaCtrl])
  (repeat' (split <;> try (rename_i heq; simp only [Prod.ext_iff] at heq; obtain ⟨rfl, rfl⟩ := heq))) <;> simp [OnlyLat]
@[simp] theorem Hw.latState_frame (h : Hw) (n : Fin 4) (st : LinkState) :
    OnlyNoteMywiLat h (Hw.latState h n st) := by
  unfold Hw.latState
  (try dsimp only [Hw.when, Hw.dkRx, Hw.latRx, Hw.calBus, Hw.request, Hw.chFree, Hw.dmaCtrl])
  (repeat' (split <;> try (rename_i heq; simp only [Prod.ext_iff] at heq; obtain ⟨rfl, rfl⟩ := heq))) <;> simp [OnlyNoteMywiLat]
@[simp] theorem Hw.latLose_frame (h : Hw) (n : Fin 4) :
    OnlyNoteMywiRefLat h (Hw.latLose h n) := by
  unfold Hw.latLose
  (try dsimp only [Hw.when, Hw.dkRx, Hw.latRx, Hw.calBus, Hw.request, Hw.chFree, Hw.dmaCtrl])
  (repeat' (split <;> try (rename_i heq; simp only [Prod.ext_iff] at heq; obtain ⟨rfl, rfl⟩ := heq))) <;> simp [OnlyNoteMywiRefLat]
@[simp] theorem Hw.latClear_frame (h : Hw) (n : Fin 4) :
    OnlySysNoteMywiRefLat h (Hw.latClear h n) := by
  unfold Hw.latClear
  (try dsimp only [Hw.when, Hw.dkRx, Hw.latRx, Hw.calBus, Hw.request, Hw.chFree, Hw.dmaCtrl])
  (repeat' (split <;> try (rename_i heq; simp only [Prod.ext_iff] at heq; obtain ⟨rfl, rfl⟩ := heq))) <;> simp [OnlySysNoteMywiRefLat]
@[simp] theorem Hw.latClearAll_frame (h : Hw) :
    OnlySysNoteMywiRefLat h (Hw.latClearAll h) := by
  unfold Hw.latClearAll
  (try dsimp only [Hw.when, Hw.dkRx, Hw.latRx, Hw.calBus, Hw.request, Hw.chFree, Hw.dmaCtrl])
  (repeat' (split <;> try (rename_i heq; simp only [Prod.ext_iff] at heq; obtain ⟨rfl, rfl⟩ := heq))) <;> simp (disch := (intros; first | rfl | ((try dsimp only [Hw.when, Hw.dkRx, Hw.latRx, Hw.calBus, Hw.request, Hw.chFree, Hw.dmaCtrl]); first | rfl | ((repeat' (split <;> try (rename_i heq; simp only [Prod.ext_iff] at heq; obtain ⟨rfl, rfl⟩ := heq))) <;> first | rfl | (try simp))))) [OnlySysNoteMywiRefLat, foldl_time, foldl_sys, foldl_wave, foldl_note, foldl_mywi, foldl_txn, foldl_sett, foldl_ref, foldl_steer, foldl_sealU, foldl_store, foldl_keep, foldl_keepSeed, foldl_evt, foldl_port, foldl_prong, foldl_pwr, foldl_cal, foldl_out, foldl_lat, foldl_deck, foldl_ibex, foldl_dma, foldl_tally, foldl_img, foldl_free]
@[simp] theorem Hw.updDk_frame (h : Hw) (n : Fin 2) (f : DkSt → DkSt) :
    OnlyDeck h (Hw.updDk h n f) := by
  unfold Hw.updDk
  (try dsimp only [Hw.when, Hw.dkRx, Hw.latRx, Hw.calBus, Hw.request, Hw.chFree, Hw.dmaCtrl])
  (repeat' (split <;> try (rename_i heq; simp only [Prod.ext_iff] at heq; obtain ⟨rfl, rfl⟩ := heq))) <;> simp [OnlyDeck]
@[simp] theorem Hw.deckClear_frame (h : Hw) (n : Fin 2) :
    OnlySysRefDeck h (Hw.deckClear h n) := by
  unfold Hw.deckClear
  (try dsimp only [Hw.when, Hw.dkRx, Hw.latRx, Hw.calBus, Hw.request, Hw.chFree, Hw.dmaCtrl])
  (repeat' (split <;> try (rename_i heq; simp only [Prod.ext_iff] at heq; obtain ⟨rfl, rfl⟩ := heq))) <;> simp [OnlySysRefDeck]
@[simp] theorem Hw.refClear_frame (h : Hw) :
    OnlyRefSteerCalOut h (Hw.refClear h) := by
  unfold Hw.refClear
  (try dsimp only [Hw.when, Hw.dkRx, Hw.latRx, Hw.calBus, Hw.request, Hw.chFree, Hw.dmaCtrl])
  (repeat' (split <;> try (rename_i heq; simp only [Prod.ext_iff] at heq; obtain ⟨rfl, rfl⟩ := heq))) <;> simp [OnlyRefSteerCalOut]
@[simp] theorem Hw.storeClear_frame (h : Hw) :
    OnlySysStore h (Hw.storeClear h) := by
  unfold Hw.storeClear
  (try dsimp only [Hw.when, Hw.dkRx, Hw.latRx, Hw.calBus, Hw.request, Hw.chFree, Hw.dmaCtrl])
  (repeat' (split <;> try (rename_i heq; simp only [Prod.ext_iff] at heq; obtain ⟨rfl, rfl⟩ := heq))) <;> simp [OnlySysStore]
@[simp] theorem Hw.islandsFresh_frame (h : Hw) (d : Domain) :
    OnlyWave h (Hw.islandsFresh h d) := by
  unfold Hw.islandsFresh
  (try dsimp only [Hw.when, Hw.dkRx, Hw.latRx, Hw.calBus, Hw.request, Hw.chFree, Hw.dmaCtrl])
  (repeat' (split <;> try (rename_i heq; simp only [Prod.ext_iff] at heq; obtain ⟨rfl, rfl⟩ := heq))) <;> simp [OnlyWave]
@[simp] theorem Hw.updUnit_frame (h : Hw) (u : Fin 18) (f : TallyUnit → TallyUnit) :
    OnlyTally h (Hw.updUnit h u f) := by
  unfold Hw.updUnit
  (try dsimp only [Hw.when, Hw.dkRx, Hw.latRx, Hw.calBus, Hw.request, Hw.chFree, Hw.dmaCtrl])
  (repeat' (split <;> try (rename_i heq; simp only [Prod.ext_iff] at heq; obtain ⟨rfl, rfl⟩ := heq))) <;> simp [OnlyTally]
@[simp] theorem Hw.tallyDomain_frame (h : Hw) (d : Domain) (up : Bool) :
    OnlyTally h (Hw.tallyDomain h d up) := by
  unfold Hw.tallyDomain
  (try dsimp only [Hw.when, Hw.dkRx, Hw.latRx, Hw.calBus, Hw.request, Hw.chFree, Hw.dmaCtrl])
  (repeat' (split <;> try (rename_i heq; simp only [Prod.ext_iff] at heq; obtain ⟨rfl, rfl⟩ := heq))) <;> simp (disch := (intros; first | rfl | ((try dsimp only [Hw.when, Hw.dkRx, Hw.latRx, Hw.calBus, Hw.request, Hw.chFree, Hw.dmaCtrl]); first | rfl | ((repeat' (split <;> try (rename_i heq; simp only [Prod.ext_iff] at heq; obtain ⟨rfl, rfl⟩ := heq))) <;> first | rfl | (try simp))))) [OnlyTally, foldl_time, foldl_sys, foldl_wave, foldl_note, foldl_mywi, foldl_txn, foldl_sett, foldl_ref, foldl_steer, foldl_sealU, foldl_store, foldl_keep, foldl_keepSeed, foldl_evt, foldl_port, foldl_prong, foldl_pwr, foldl_cal, foldl_out, foldl_lat, foldl_deck, foldl_ibex, foldl_dma, foldl_tally, foldl_img, foldl_free]
@[simp] theorem Hw.portSetup_frame (h : Hw) (p : Fin 4) :
    OnlyPort h (Hw.portSetup h p) := by
  unfold Hw.portSetup
  (try dsimp only [Hw.when, Hw.dkRx, Hw.latRx, Hw.calBus, Hw.request, Hw.chFree, Hw.dmaCtrl])
  (repeat' (split <;> try (rename_i heq; simp only [Prod.ext_iff] at heq; obtain ⟨rfl, rfl⟩ := heq))) <;> simp [OnlyPort]
@[simp] theorem Hw.raiseEvent_frame (h : Hw) (n : Nat) :
    OnlyEvt h (Hw.raiseEvent h n) := by
  unfold Hw.raiseEvent
  (try dsimp only [Hw.when, Hw.dkRx, Hw.latRx, Hw.calBus, Hw.request, Hw.chFree, Hw.dmaCtrl])
  (repeat' (split <;> try (rename_i heq; simp only [Prod.ext_iff] at heq; obtain ⟨rfl, rfl⟩ := heq))) <;> simp [OnlyEvt]
@[simp] theorem Hw.poke_frame (h : Hw) (a : Nat) (l : List Byte) :
    OnlyStore h (Hw.poke h a l) := by
  unfold Hw.poke
  (try dsimp only [Hw.when, Hw.dkRx, Hw.latRx, Hw.calBus, Hw.request, Hw.chFree, Hw.dmaCtrl])
  (repeat' (split <;> try (rename_i heq; simp only [Prod.ext_iff] at heq; obtain ⟨rfl, rfl⟩ := heq))) <;> simp [OnlyStore]
@[simp] theorem Hw.faultFrom_frame (h : Hw) (i : Fin 24) (src : String) :
    OnlyNoteMywi h (Hw.faultFrom h i src) := by
  unfold Hw.faultFrom
  (try dsimp only [Hw.when, Hw.dkRx, Hw.latRx, Hw.calBus, Hw.request, Hw.chFree, Hw.dmaCtrl])
  (repeat' (split <;> try (rename_i heq; simp only [Prod.ext_iff] at heq; obtain ⟨rfl, rfl⟩ := heq))) <;> simp [OnlyNoteMywi]
@[simp] theorem Hw.fault_frame (h : Hw) (i : Fin 24) :
    OnlyNoteMywi h (Hw.fault h i) := by
  unfold Hw.fault
  (try dsimp only [Hw.when, Hw.dkRx, Hw.latRx, Hw.calBus, Hw.request, Hw.chFree, Hw.dmaCtrl])
  (repeat' (split <;> try (rename_i heq; simp only [Prod.ext_iff] at heq; obtain ⟨rfl, rfl⟩ := heq))) <;> simp [OnlyNoteMywi]
@[simp] theorem Hw.jrnFull_frame (h : Hw) :
    OnlyNoteMywiSealU h (Hw.jrnFull h) := by
  unfold Hw.jrnFull
  (try dsimp only [Hw.when, Hw.dkRx, Hw.latRx, Hw.calBus, Hw.request, Hw.chFree, Hw.dmaCtrl])
  (repeat' (split <;> try (rename_i heq; simp only [Prod.ext_iff] at heq; obtain ⟨rfl, rfl⟩ := heq))) <;> simp [OnlyNoteMywiSealU]
@[simp] theorem Hw.jrnMark_frame (h : Hw) :
    OnlyNoteMywiSealU h (Hw.jrnMark h) := by
  unfold Hw.jrnMark
  (try dsimp only [Hw.when, Hw.dkRx, Hw.latRx, Hw.calBus, Hw.request, Hw.chFree, Hw.dmaCtrl])
  (repeat' (split <;> try (rename_i heq; simp only [Prod.ext_iff] at heq; obtain ⟨rfl, rfl⟩ := heq))) <;> simp [OnlyNoteMywiSealU]
@[simp] theorem Hw.takeSeq_frame (h : Hw) :
    OnlyNoteMywiSealU h (Hw.takeSeq h) := by
  unfold Hw.takeSeq
  (try dsimp only [Hw.when, Hw.dkRx, Hw.latRx, Hw.calBus, Hw.request, Hw.chFree, Hw.dmaCtrl])
  (repeat' (split <;> try (rename_i heq; simp only [Prod.ext_iff] at heq; obtain ⟨rfl, rfl⟩ := heq))) <;> simp [OnlyNoteMywiSealU]
@[simp] theorem Hw.writeRecord_frame (h : Hw) (seq : Nat) (head : List Byte) (body : List Byte) (sig : List Byte) :
    OnlyNoteMywiSealUStoreTally h (Hw.writeRecord h seq head body sig) := by
  unfold Hw.writeRecord
  (try dsimp only [Hw.when, Hw.dkRx, Hw.latRx, Hw.calBus, Hw.request, Hw.chFree, Hw.dmaCtrl])
  (repeat' (split <;> try (rename_i heq; simp only [Prod.ext_iff] at heq; obtain ⟨rfl, rfl⟩ := heq))) <;> simp [OnlyNoteMywiSealUStoreTally]
@[simp] theorem Hw.appendNow_frame (h : Hw) (type : Nat) (body : List Byte) :
    OnlyNoteMywiSealUStoreTally h (Hw.appendNow h type body) := by
  unfold Hw.appendNow
  (try dsimp only [Hw.when, Hw.dkRx, Hw.latRx, Hw.calBus, Hw.request, Hw.chFree, Hw.dmaCtrl])
  (repeat' (split <;> try (rename_i heq; simp only [Prod.ext_iff] at heq; obtain ⟨rfl, rfl⟩ := heq))) <;> simp [OnlyNoteMywiSealUStoreTally]
@[simp] theorem Hw.appendLost_frame (h : Hw) :
    OnlyNoteMywiSealUStoreTally h (Hw.appendLost h) := by
  unfold Hw.appendLost
  (try dsimp only [Hw.when, Hw.dkRx, Hw.latRx, Hw.calBus, Hw.request, Hw.chFree, Hw.dmaCtrl])
  (repeat' (split <;> try (rename_i heq; simp only [Prod.ext_iff] at heq; obtain ⟨rfl, rfl⟩ := heq))) <;> simp [OnlyNoteMywiSealUStoreTally]
@[simp] theorem Hw.journal_frame (h : Hw) (type : Nat) (body : List Byte) :
    OnlyNoteMywiSealUStoreTally h (Hw.journal h type body) := by
  unfold Hw.journal
  (try dsimp only [Hw.when, Hw.dkRx, Hw.latRx, Hw.calBus, Hw.request, Hw.chFree, Hw.dmaCtrl])
  (repeat' (split <;> try (rename_i heq; simp only [Prod.ext_iff] at heq; obtain ⟨rfl, rfl⟩ := heq))) <;> simp [OnlyNoteMywiSealUStoreTally]
@[simp] theorem Hw.journalDamage_frame (h : Hw) (a : Nat) :
    OnlyNoteMywiSealUStoreTally h (Hw.journalDamage h a) := by
  unfold Hw.journalDamage
  (try dsimp only [Hw.when, Hw.dkRx, Hw.latRx, Hw.calBus, Hw.request, Hw.chFree, Hw.dmaCtrl])
  (repeat' (split <;> try (rename_i heq; simp only [Prod.ext_iff] at heq; obtain ⟨rfl, rfl⟩ := heq))) <;> simp [OnlyNoteMywiSealUStoreTally]
@[simp] theorem Hw.storeUce_frame (h : Hw) (w : Nat) :
    OnlySysNoteMywiSealUStoreTally h (Hw.storeUce h w) := by
  unfold Hw.storeUce
  (try dsimp only [Hw.when, Hw.dkRx, Hw.latRx, Hw.calBus, Hw.request, Hw.chFree, Hw.dmaCtrl])
  (repeat' (split <;> try (rename_i heq; simp only [Prod.ext_iff] at heq; obtain ⟨rfl, rfl⟩ := heq))) <;> simp [OnlySysNoteMywiSealUStoreTally]
@[simp] theorem Hw.readWordEcc_frame (h : Hw) (w : Nat) :
    OnlySysNoteMywiSealUStoreTally h (Hw.readWordEcc h w) := by
  unfold Hw.readWordEcc
  (try dsimp only [Hw.when, Hw.dkRx, Hw.latRx, Hw.calBus, Hw.request, Hw.chFree, Hw.dmaCtrl])
  (repeat' (split <;> try (rename_i heq; simp only [Prod.ext_iff] at heq; obtain ⟨rfl, rfl⟩ := heq))) <;> simp [OnlySysNoteMywiSealUStoreTally]
@[simp] theorem Hw.writeWordEcc_frame (h : Hw) (w : Nat) (l : List (Nat × Byte)) :
    OnlySysNoteMywiSealUStoreTally h (Hw.writeWordEcc h w l) := by
  unfold Hw.writeWordEcc
  (try dsimp only [Hw.when, Hw.dkRx, Hw.latRx, Hw.calBus, Hw.request, Hw.chFree, Hw.dmaCtrl])
  (repeat' (split <;> try (rename_i heq; simp only [Prod.ext_iff] at heq; obtain ⟨rfl, rfl⟩ := heq))) <;> simp (disch := (intros; first | rfl | ((try dsimp only [Hw.when, Hw.dkRx, Hw.latRx, Hw.calBus, Hw.request, Hw.chFree, Hw.dmaCtrl]); first | rfl | ((repeat' (split <;> try (rename_i heq; simp only [Prod.ext_iff] at heq; obtain ⟨rfl, rfl⟩ := heq))) <;> first | rfl | (try simp))))) [OnlySysNoteMywiSealUStoreTally, foldl_time, foldl_sys, foldl_wave, foldl_note, foldl_mywi, foldl_txn, foldl_sett, foldl_ref, foldl_steer, foldl_sealU, foldl_store, foldl_keep, foldl_keepSeed, foldl_evt, foldl_port, foldl_prong, foldl_pwr, foldl_cal, foldl_out, foldl_lat, foldl_deck, foldl_ibex, foldl_dma, foldl_tally, foldl_img, foldl_free]
@[simp] theorem Hw.writeStore_frame (h : Hw) (a : Nat) (l : List Byte) :
    OnlySysNoteMywiSealUStoreTally h (Hw.writeStore h a l) := by
  unfold Hw.writeStore
  (try dsimp only [Hw.when, Hw.dkRx, Hw.latRx, Hw.calBus, Hw.request, Hw.chFree, Hw.dmaCtrl])
  (repeat' (split <;> try (rename_i heq; simp only [Prod.ext_iff] at heq; obtain ⟨rfl, rfl⟩ := heq))) <;> simp (disch := (intros; first | rfl | ((try dsimp only [Hw.when, Hw.dkRx, Hw.latRx, Hw.calBus, Hw.request, Hw.chFree, Hw.dmaCtrl]); first | rfl | ((repeat' (split <;> try (rename_i heq; simp only [Prod.ext_iff] at heq; obtain ⟨rfl, rfl⟩ := heq))) <;> first | rfl | (try simp))))) [OnlySysNoteMywiSealUStoreTally, foldl_time, foldl_sys, foldl_wave, foldl_note, foldl_mywi, foldl_txn, foldl_sett, foldl_ref, foldl_steer, foldl_sealU, foldl_store, foldl_keep, foldl_keepSeed, foldl_evt, foldl_port, foldl_prong, foldl_pwr, foldl_cal, foldl_out, foldl_lat, foldl_deck, foldl_ibex, foldl_dma, foldl_tally, foldl_img, foldl_free]
@[simp] theorem Hw.txComplete_frame (h : Hw) (n : Fin 2) (status : Option Nat) :
    OnlySysNoteMywiSealUStoreEvtDeckTally h (Hw.txComplete h n status) := by
  unfold Hw.txComplete
  (try dsimp only [Hw.when, Hw.dkRx, Hw.latRx, Hw.calBus, Hw.request, Hw.chFree, Hw.dmaCtrl])
  (repeat' (split <;> try (rename_i heq; simp only [Prod.ext_iff] at heq; obtain ⟨rfl, rfl⟩ := heq))) <;> simp [OnlySysNoteMywiSealUStoreEvtDeckTally]
@[simp] theorem Hw.readStore_frame (h : Hw) (a : Nat) (n : Nat) :
    OnlySysNoteMywiSealUStoreTally h (Hw.readStore h a n).2.2 := by
  unfold Hw.readStore
  (try dsimp only [Hw.when, Hw.dkRx, Hw.latRx, Hw.calBus, Hw.request, Hw.chFree, Hw.dmaCtrl])
  (repeat' (split <;> try (rename_i heq; simp only [Prod.ext_iff] at heq; obtain ⟨rfl, rfl⟩ := heq))) <;> simp (disch := (intros; first | rfl | ((try dsimp only [Hw.when, Hw.dkRx, Hw.latRx, Hw.calBus, Hw.request, Hw.chFree, Hw.dmaCtrl]); first | rfl | ((repeat' (split <;> try (rename_i heq; simp only [Prod.ext_iff] at heq; obtain ⟨rfl, rfl⟩ := heq))) <;> first | rfl | (try simp))))) [OnlySysNoteMywiSealUStoreTally, foldl_time, foldl_sys, foldl_wave, foldl_note, foldl_mywi, foldl_txn, foldl_sett, foldl_ref, foldl_steer, foldl_sealU, foldl_store, foldl_keep, foldl_keepSeed, foldl_evt, foldl_port, foldl_prong, foldl_pwr, foldl_cal, foldl_out, foldl_lat, foldl_deck, foldl_ibex, foldl_dma, foldl_tally, foldl_img, foldl_free]
@[simp] theorem Hw.txHead_frame (h : Hw) (n : Fin 2) (i : Word) :
    OnlySysNoteMywiSealUStoreTally h (Hw.txHead h n i).2.2 := by
  unfold Hw.txHead
  (try dsimp only [Hw.when, Hw.dkRx, Hw.latRx, Hw.calBus, Hw.request, Hw.chFree, Hw.dmaCtrl])
  (repeat' (split <;> try (rename_i heq; simp only [Prod.ext_iff] at heq; obtain ⟨rfl, rfl⟩ := heq))) <;> simp [OnlySysNoteMywiSealUStoreTally]
@[simp] theorem Hw.txSettle_frame (h : Hw) (n : Fin 2) (k_ : Nat) :
    OnlySysNoteMywiSealUStoreEvtDeckTally h (Hw.txSettle h n k_) := by
  induction k_ generalizing h with
  | zero => simp [Hw.txSettle, OnlySysNoteMywiSealUStoreEvtDeckTally]
  | succ k ih => dsimp only [OnlySysNoteMywiSealUStoreEvtDeckTally] at ih; unfold Hw.txSettle; (try dsimp only [Hw.when, Hw.dkRx, Hw.latRx, Hw.calBus, Hw.request, Hw.chFree, Hw.dmaCtrl]); (repeat' (split <;> try (rename_i heq; simp only [Prod.ext_iff] at heq; obtain ⟨rfl, rfl⟩ := heq))) <;> simp (disch := (intros; first | rfl | ((try dsimp only [Hw.when, Hw.dkRx, Hw.latRx, Hw.calBus, Hw.request, Hw.chFree, Hw.dmaCtrl]); first | rfl | ((repeat' (split <;> try (rename_i heq; simp only [Prod.ext_iff] at heq; obtain ⟨rfl, rfl⟩ := heq))) <;> first | rfl | (try simp))))) [OnlySysNoteMywiSealUStoreEvtDeckTally, ih, foldl_time, foldl_sys, foldl_wave, foldl_note, foldl_mywi, foldl_txn, foldl_sett, foldl_ref, foldl_steer, foldl_sealU, foldl_store, foldl_keep, foldl_keepSeed, foldl_evt, foldl_port, foldl_prong, foldl_pwr, foldl_cal, foldl_out, foldl_lat, foldl_deck, foldl_ibex, foldl_dma, foldl_tally, foldl_img, foldl_free]
@[simp] theorem Hw.txSettleAll_frame (h : Hw) (n : Fin 2) :
    OnlySysNoteMywiSealUStoreEvtDeckTally h (Hw.txSettleAll h n) := by
  unfold Hw.txSettleAll
  (try dsimp only [Hw.when, Hw.dkRx, Hw.latRx, Hw.calBus, Hw.request, Hw.chFree, Hw.dmaCtrl])
  (repeat' (split <;> try (rename_i heq; simp only [Prod.ext_iff] at heq; obtain ⟨rfl, rfl⟩ := heq))) <;> simp [OnlySysNoteMywiSealUStoreEvtDeckTally]
@[simp] theorem Hw.takeRole_frame (h : Hw) (n : Fin 2) (role : Nat) :
    OnlySysNoteMywiRefSealUStoreEvtDeckTally h (Hw.takeRole h n role) := by
  unfold Hw.takeRole
  (try dsimp only [Hw.when, Hw.dkRx, Hw.latRx, Hw.calBus, Hw.request, Hw.chFree, Hw.dmaCtrl])
  (repeat' (split <;> try (rename_i heq; simp only [Prod.ext_iff] at heq; obtain ⟨rfl, rfl⟩ := heq))) <;> simp [OnlySysNoteMywiRefSealUStoreEvtDeckTally]
@[simp] theorem Hw.deckSetup_frame (h : Hw) (n : Fin 2) :
    OnlySysNoteMywiRefSealUStoreEvtDeckTally h (Hw.deckSetup h n) := by
  unfold Hw.deckSetup
  (try dsimp only [Hw.when, Hw.dkRx, Hw.latRx, Hw.calBus, Hw.request, Hw.chFree, Hw.dmaCtrl])
  (repeat' (split <;> try (rename_i heq; simp only [Prod.ext_iff] at heq; obtain ⟨rfl, rfl⟩ := heq))) <;> simp [OnlySysNoteMywiRefSealUStoreEvtDeckTally]
@[simp] theorem Hw.setCalEvt_frame (h : Hw) (n : Fin 40) (b : Nat) :
    OnlyNote h (Hw.setCalEvt h n b) := by
  unfold Hw.setCalEvt
  (try dsimp only [Hw.when, Hw.dkRx, Hw.latRx, Hw.calBus, Hw.request, Hw.chFree, Hw.dmaCtrl])
  (repeat' (split <;> try (rename_i heq; simp only [Prod.ext_iff] at heq; obtain ⟨rfl, rfl⟩ := heq))) <;> simp [OnlyNote]
@[simp] theorem Hw.updCal_frame (h : Hw) (c : Fin 40) (f : CalCh → CalCh) :
    OnlyCal h (Hw.updCal h c f) := by
  unfold Hw.updCal
  (try dsimp only [Hw.when, Hw.dkRx, Hw.latRx, Hw.calBus, Hw.request, Hw.chFree, Hw.dmaCtrl])
  (repeat' (split <;> try (rename_i heq; simp only [Prod.ext_iff] at heq; obtain ⟨rfl, rfl⟩ := heq))) <;> simp [OnlyCal]
@[simp] theorem Hw.calDiscard_frame (h : Hw) (c : Fin 40) :
    OnlyNoteCal h (Hw.calDiscard h c) := by
  unfold Hw.calDiscard
  (try dsimp only [Hw.when, Hw.dkRx, Hw.latRx, Hw.calBus, Hw.request, Hw.chFree, Hw.dmaCtrl])
  (repeat' (split <;> try (rename_i heq; simp only [Prod.ext_iff] at heq; obtain ⟨rfl, rfl⟩ := heq))) <;> simp [OnlyNoteCal]
@[simp] theorem Hw.calTouch_frame (h : Hw) (c : Fin 40) :
    OnlyNoteCal h (Hw.calTouch h c) := by
  unfold Hw.calTouch
  (try dsimp only [Hw.when, Hw.dkRx, Hw.latRx, Hw.calBus, Hw.request, Hw.chFree, Hw.dmaCtrl])
  (repeat' (split <;> try (rename_i heq; simp only [Prod.ext_iff] at heq; obtain ⟨rfl, rfl⟩ := heq))) <;> simp [OnlyNoteCal]
@[simp] theorem Hw.updClk_frame (h : Hw) (n : Fin 8) (f : ClkOut → ClkOut) :
    OnlyOut h (Hw.updClk h n f) := by
  unfold Hw.updClk
  (try dsimp only [Hw.when, Hw.dkRx, Hw.latRx, Hw.calBus, Hw.request, Hw.chFree, Hw.dmaCtrl])
  (repeat' (split <;> try (rename_i heq; simp only [Prod.ext_iff] at heq; obtain ⟨rfl, rfl⟩ := heq))) <;> simp [OnlyOut]
@[simp] theorem Hw.updPulse_frame (h : Hw) (n : Fin 4) (f : PulseOut → PulseOut) :
    OnlyOut h (Hw.updPulse h n f) := by
  unfold Hw.updPulse
  (try dsimp only [Hw.when, Hw.dkRx, Hw.latRx, Hw.calBus, Hw.request, Hw.chFree, Hw.dmaCtrl])
  (repeat' (split <;> try (rename_i heq; simp only [Prod.ext_iff] at heq; obtain ⟨rfl, rfl⟩ := heq))) <;> simp [OnlyOut]
@[simp] theorem Hw.outTouch_frame (h : Hw) (o : Nat) :
    OnlyOut h (Hw.outTouch h o) := by
  unfold Hw.outTouch
  (try dsimp only [Hw.when, Hw.dkRx, Hw.latRx, Hw.calBus, Hw.request, Hw.chFree, Hw.dmaCtrl])
  (repeat' (split <;> try (rename_i heq; simp only [Prod.ext_iff] at heq; obtain ⟨rfl, rfl⟩ := heq))) <;> simp [OnlyOut]
@[simp] theorem Hw.refSetup_frame (h : Hw) :
    OnlyNoteCalOut h (Hw.refSetup h) := by
  unfold Hw.refSetup
  (try dsimp only [Hw.when, Hw.dkRx, Hw.latRx, Hw.calBus, Hw.request, Hw.chFree, Hw.dmaCtrl])
  (repeat' (split <;> try (rename_i heq; simp only [Prod.ext_iff] at heq; obtain ⟨rfl, rfl⟩ := heq))) <;> simp (disch := (intros; first | rfl | ((try dsimp only [Hw.when, Hw.dkRx, Hw.latRx, Hw.calBus, Hw.request, Hw.chFree, Hw.dmaCtrl]); first | rfl | ((repeat' (split <;> try (rename_i heq; simp only [Prod.ext_iff] at heq; obtain ⟨rfl, rfl⟩ := heq))) <;> first | rfl | (try simp))))) [OnlyNoteCalOut, foldl_time, foldl_sys, foldl_wave, foldl_note, foldl_mywi, foldl_txn, foldl_sett, foldl_ref, foldl_steer, foldl_sealU, foldl_store, foldl_keep, foldl_keepSeed, foldl_evt, foldl_port, foldl_prong, foldl_pwr, foldl_cal, foldl_out, foldl_lat, foldl_deck, foldl_ibex, foldl_dma, foldl_tally, foldl_img, foldl_free]
@[simp] theorem Hw.bootStage_frame (h : Hw) (n : Nat) (us : Nat) :
    OnlySys h (Hw.bootStage h n us) := by
  unfold Hw.bootStage
  (try dsimp only [Hw.when, Hw.dkRx, Hw.latRx, Hw.calBus, Hw.request, Hw.chFree, Hw.dmaCtrl])
  (repeat' (split <;> try (rename_i heq; simp only [Prod.ext_iff] at heq; obtain ⟨rfl, rfl⟩ := heq))) <;> simp [OnlySys]
@[simp] theorem Hw.fresh_frame (h : Hw) :
    OnlyFree h (Hw.fresh h).2 := by
  unfold Hw.fresh
  (try dsimp only [Hw.when, Hw.dkRx, Hw.latRx, Hw.calBus, Hw.request, Hw.chFree, Hw.dmaCtrl])
  (repeat' (split <;> try (rename_i heq; simp only [Prod.ext_iff] at heq; obtain ⟨rfl, rfl⟩ := heq))) <;> simp [OnlyFree]
@[simp] theorem Hw.bootStages_frame (h : Hw) (l : List Nat) :
    OnlySysFree h (Hw.bootStages h l) := by
  unfold Hw.bootStages
  (try dsimp only [Hw.when, Hw.dkRx, Hw.latRx, Hw.calBus, Hw.request, Hw.chFree, Hw.dmaCtrl])
  (repeat' (split <;> try (rename_i heq; simp only [Prod.ext_iff] at heq; obtain ⟨rfl, rfl⟩ := heq))) <;> simp (disch := (intros; first | rfl | ((try dsimp only [Hw.when, Hw.dkRx, Hw.latRx, Hw.calBus, Hw.request, Hw.chFree, Hw.dmaCtrl]); first | rfl | ((repeat' (split <;> try (rename_i heq; simp only [Prod.ext_iff] at heq; obtain ⟨rfl, rfl⟩ := heq))) <;> first | rfl | (try simp))))) [OnlySysFree, foldl_time, foldl_sys, foldl_wave, foldl_note, foldl_mywi, foldl_txn, foldl_sett, foldl_ref, foldl_steer, foldl_sealU, foldl_store, foldl_keep, foldl_keepSeed, foldl_evt, foldl_port, foldl_prong, foldl_pwr, foldl_cal, foldl_out, foldl_lat, foldl_deck, foldl_ibex, foldl_dma, foldl_tally, foldl_img, foldl_free]
@[simp] theorem Hw.setValid_frame (h : Hw) (v : Bool) (cause : String) :
    OnlyNoteMywiSteer h (Hw.setValid h v cause) := by
  unfold Hw.setValid
  (try dsimp only [Hw.when, Hw.dkRx, Hw.latRx, Hw.calBus, Hw.request, Hw.chFree, Hw.dmaCtrl])
  (repeat' (split <;> try (rename_i heq; simp only [Prod.ext_iff] at heq; obtain ⟨rfl, rfl⟩ := heq))) <;> simp [OnlyNoteMywiSteer]
@[simp] theorem Hw.takeBoard_frame (h : Hw) :
    OnlyNoteMywiSteer h (Hw.takeBoard h) := by
  unfold Hw.takeBoard
  (try dsimp only [Hw.when, Hw.dkRx, Hw.latRx, Hw.calBus, Hw.request, Hw.chFree, Hw.dmaCtrl])
  (repeat' (split <;> try (rename_i heq; simp only [Prod.ext_iff] at heq; obtain ⟨rfl, rfl⟩ := heq))) <;> simp [OnlyNoteMywiSteer]
@[simp] theorem Hw.takeEid_frame (h : Hw) :
    OnlyLat h (Hw.takeEid h) := by
  unfold Hw.takeEid
  (try dsimp only [Hw.when, Hw.dkRx, Hw.latRx, Hw.calBus, Hw.request, Hw.chFree, Hw.dmaCtrl])
  (repeat' (split <;> try (rename_i heq; simp only [Prod.ext_iff] at heq; obtain ⟨rfl, rfl⟩ := heq))) <;> simp [OnlyLat]
@[simp] theorem Hw.bootRecords_frame (h : Hw) :
    OnlyNoteMywiSealUStoreTallyFree h (Hw.bootRecords h) := by
  unfold Hw.bootRecords
  (try dsimp only [Hw.when, Hw.dkRx, Hw.latRx, Hw.calBus, Hw.request, Hw.chFree, Hw.dmaCtrl])
  (repeat' (split <;> try (rename_i heq; simp only [Prod.ext_iff] at heq; obtain ⟨rfl, rfl⟩ := heq))) <;> simp [OnlyNoteMywiSealUStoreTallyFree]
@[simp] theorem Hw.noticeKeep_frame (h : Hw) (s : Fin 28) (b : Nat) (stem : String) (args : List (String × String)) :
    OnlyNoteMywi h (Hw.noticeKeep h s b stem args) := by
  unfold Hw.noticeKeep
  (try dsimp only [Hw.when, Hw.dkRx, Hw.latRx, Hw.calBus, Hw.request, Hw.chFree, Hw.dmaCtrl])
  (repeat' (split <;> try (rename_i heq; simp only [Prod.ext_iff] at heq; obtain ⟨rfl, rfl⟩ := heq))) <;> simp [OnlyNoteMywi]
@[simp] theorem Hw.bootRecord_frame (h : Hw) (i : Nat) (code : Nat) :
    OnlyNoteMywi h (Hw.bootRecord h i code) := by
  unfold Hw.bootRecord
  (try dsimp only [Hw.when, Hw.dkRx, Hw.latRx, Hw.calBus, Hw.request, Hw.chFree, Hw.dmaCtrl])
  (repeat' (split <;> try (rename_i heq; simp only [Prod.ext_iff] at heq; obtain ⟨rfl, rfl⟩ := heq))) <;> simp [OnlyNoteMywi]
@[simp] theorem Hw.systemSkip_frame (h : Hw) (k : Key) :
    OnlySysNoteMywi h (Hw.systemSkip h k) := by
  unfold Hw.systemSkip
  (try dsimp only [Hw.when, Hw.dkRx, Hw.latRx, Hw.calBus, Hw.request, Hw.chFree, Hw.dmaCtrl])
  (repeat' (split <;> try (rename_i heq; simp only [Prod.ext_iff] at heq; obtain ⟨rfl, rfl⟩ := heq))) <;> simp [OnlySysNoteMywi]
@[simp] theorem Hw.takeDelays_frame (h : Hw) :
    OnlyNoteMywiPwr h (Hw.takeDelays h) := by
  unfold Hw.takeDelays
  (try dsimp only [Hw.when, Hw.dkRx, Hw.latRx, Hw.calBus, Hw.request, Hw.chFree, Hw.dmaCtrl])
  (repeat' (split <;> try (rename_i heq; simp only [Prod.ext_iff] at heq; obtain ⟨rfl, rfl⟩ := heq))) <;> simp (disch := (intros; first | rfl | ((try dsimp only [Hw.when, Hw.dkRx, Hw.latRx, Hw.calBus, Hw.request, Hw.chFree, Hw.dmaCtrl]); first | rfl | ((repeat' (split <;> try (rename_i heq; simp only [Prod.ext_iff] at heq; obtain ⟨rfl, rfl⟩ := heq))) <;> first | rfl | (try simp))))) [OnlyNoteMywiPwr, foldl_time, foldl_sys, foldl_wave, foldl_note, foldl_mywi, foldl_txn, foldl_sett, foldl_ref, foldl_steer, foldl_sealU, foldl_store, foldl_keep, foldl_keepSeed, foldl_evt, foldl_port, foldl_prong, foldl_pwr, foldl_cal, foldl_out, foldl_lat, foldl_deck, foldl_ibex, foldl_dma, foldl_tally, foldl_img, foldl_free]
@[simp] theorem Hw.takeScan_frame (h : Hw) (found : List (Nat × List Nat)) :
    OnlySys h (Hw.takeScan h found) := by
  unfold Hw.takeScan
  (try dsimp only [Hw.when, Hw.dkRx, Hw.latRx, Hw.calBus, Hw.request, Hw.chFree, Hw.dmaCtrl])
  (repeat' (split <;> try (rename_i heq; simp only [Prod.ext_iff] at heq; obtain ⟨rfl, rfl⟩ := heq))) <;> simp (disch := (intros; first | rfl | ((try dsimp only [Hw.when, Hw.dkRx, Hw.latRx, Hw.calBus, Hw.request, Hw.chFree, Hw.dmaCtrl]); first | rfl | ((repeat' (split <;> try (rename_i heq; simp only [Prod.ext_iff] at heq; obtain ⟨rfl, rfl⟩ := heq))) <;> first | rfl | (try simp))))) [OnlySys, foldl_time, foldl_sys, foldl_wave, foldl_note, foldl_mywi, foldl_txn, foldl_sett, foldl_ref, foldl_steer, foldl_sealU, foldl_store, foldl_keep, foldl_keepSeed, foldl_evt, foldl_port, foldl_prong, foldl_pwr, foldl_cal, foldl_out, foldl_lat, foldl_deck, foldl_ibex, foldl_dma, foldl_tally, foldl_img, foldl_free]
@[simp] theorem Hw.withdrawTest_frame (h : Hw) :
    OnlyNoteMywiPwr h (Hw.withdrawTest h) := by
  unfold Hw.withdrawTest
  (try dsimp only [Hw.when, Hw.dkRx, Hw.latRx, Hw.calBus, Hw.request, Hw.chFree, Hw.dmaCtrl])
  (repeat' (split <;> try (rename_i heq; simp only [Prod.ext_iff] at heq; obtain ⟨rfl, rfl⟩ := heq))) <;> simp [OnlyNoteMywiPwr]
@[simp] theorem Hw.pmbRailTest_frame (h : Hw) :
    OnlyNoteMywiPwr h (Hw.pmbRailTest h) := by
  unfold Hw.pmbRailTest
  (try dsimp only [Hw.when, Hw.dkRx, Hw.latRx, Hw.calBus, Hw.request, Hw.chFree, Hw.dmaCtrl])
  (repeat' (split <;> try (rename_i heq; simp only [Prod.ext_iff] at heq; obtain ⟨rfl, rfl⟩ := heq))) <;> simp [OnlyNoteMywiPwr]
@[simp] theorem Hw.railNotices_frame (h : Hw) :
    OnlySysNoteMywi h (Hw.railNotices h) := by
  unfold Hw.railNotices
  (try dsimp only [Hw.when, Hw.dkRx, Hw.latRx, Hw.calBus, Hw.request, Hw.chFree, Hw.dmaCtrl])
  (repeat' (split <;> try (rename_i heq; simp only [Prod.ext_iff] at heq; obtain ⟨rfl, rfl⟩ := heq))) <;> simp (disch := (intros; first | rfl | ((try dsimp only [Hw.when, Hw.dkRx, Hw.latRx, Hw.calBus, Hw.request, Hw.chFree, Hw.dmaCtrl]); first | rfl | ((repeat' (split <;> try (rename_i heq; simp only [Prod.ext_iff] at heq; obtain ⟨rfl, rfl⟩ := heq))) <;> first | rfl | (try simp))))) [OnlySysNoteMywi, foldl_time, foldl_sys, foldl_wave, foldl_note, foldl_mywi, foldl_txn, foldl_sett, foldl_ref, foldl_steer, foldl_sealU, foldl_store, foldl_keep, foldl_keepSeed, foldl_evt, foldl_port, foldl_prong, foldl_pwr, foldl_cal, foldl_out, foldl_lat, foldl_deck, foldl_ibex, foldl_dma, foldl_tally, foldl_img, foldl_free]
@[simp] theorem Hw.settleVec_frame (h : Hw) (v : Nat) :
    OnlyNote h (Hw.settleVec h v) := by
  unfold Hw.settleVec
  (try dsimp only [Hw.when, Hw.dkRx, Hw.latRx, Hw.calBus, Hw.request, Hw.chFree, Hw.dmaCtrl])
  (repeat' (split <;> try (rename_i heq; simp only [Prod.ext_iff] at heq; obtain ⟨rfl, rfl⟩ := heq))) <;> simp [OnlyNote]
@[simp] theorem Hw.settleVecs_frame (h : Hw) :
    OnlyNote h (Hw.settleVecs h) := by
  unfold Hw.settleVecs
  (try dsimp only [Hw.when, Hw.dkRx, Hw.latRx, Hw.calBus, Hw.request, Hw.chFree, Hw.dmaCtrl])
  (repeat' (split <;> try (rename_i heq; simp only [Prod.ext_iff] at heq; obtain ⟨rfl, rfl⟩ := heq))) <;> simp (disch := (intros; first | rfl | ((try dsimp only [Hw.when, Hw.dkRx, Hw.latRx, Hw.calBus, Hw.request, Hw.chFree, Hw.dmaCtrl]); first | rfl | ((repeat' (split <;> try (rename_i heq; simp only [Prod.ext_iff] at heq; obtain ⟨rfl, rfl⟩ := heq))) <;> first | rfl | (try simp))))) [OnlyNote, foldl_time, foldl_sys, foldl_wave, foldl_note, foldl_mywi, foldl_txn, foldl_sett, foldl_ref, foldl_steer, foldl_sealU, foldl_store, foldl_keep, foldl_keepSeed, foldl_evt, foldl_port, foldl_prong, foldl_pwr, foldl_cal, foldl_out, foldl_lat, foldl_deck, foldl_ibex, foldl_dma, foldl_tally, foldl_img, foldl_free]
@[simp] theorem Hw.reEval_frame (h : Hw) (s : Fin 28) :
    OnlyNote h (Hw.reEval h s) := by
  unfold Hw.reEval
  (try dsimp only [Hw.when, Hw.dkRx, Hw.latRx, Hw.calBus, Hw.request, Hw.chFree, Hw.dmaCtrl])
  (repeat' (split <;> try (rename_i heq; simp only [Prod.ext_iff] at heq; obtain ⟨rfl, rfl⟩ := heq))) <;> simp [OnlyNote]
@[simp] theorem Hw.reEvalAll_frame (h : Hw) :
    OnlyNote h (Hw.reEvalAll h) := by
  unfold Hw.reEvalAll
  (try dsimp only [Hw.when, Hw.dkRx, Hw.latRx, Hw.calBus, Hw.request, Hw.chFree, Hw.dmaCtrl])
  (repeat' (split <;> try (rename_i heq; simp only [Prod.ext_iff] at heq; obtain ⟨rfl, rfl⟩ := heq))) <;> simp (disch := (intros; first | rfl | ((try dsimp only [Hw.when, Hw.dkRx, Hw.latRx, Hw.calBus, Hw.request, Hw.chFree, Hw.dmaCtrl]); first | rfl | ((repeat' (split <;> try (rename_i heq; simp only [Prod.ext_iff] at heq; obtain ⟨rfl, rfl⟩ := heq))) <;> first | rfl | (try simp))))) [OnlyNote, foldl_time, foldl_sys, foldl_wave, foldl_note, foldl_mywi, foldl_txn, foldl_sett, foldl_ref, foldl_steer, foldl_sealU, foldl_store, foldl_keep, foldl_keepSeed, foldl_evt, foldl_port, foldl_prong, foldl_pwr, foldl_cal, foldl_out, foldl_lat, foldl_deck, foldl_ibex, foldl_dma, foldl_tally, foldl_img, foldl_free]
@[simp] theorem Hw.updSes_frame (h : Hw) (i : Fin 11) (f : Session → Session) :
    OnlyMywi h (Hw.updSes h i f) := by
  unfold Hw.updSes
  (try dsimp only [Hw.when, Hw.dkRx, Hw.latRx, Hw.calBus, Hw.request, Hw.chFree, Hw.dmaCtrl])
  (repeat' (split <;> try (rename_i heq; simp only [Prod.ext_iff] at heq; obtain ⟨rfl, rfl⟩ := heq))) <;> simp [OnlyMywi]
@[simp] theorem Hw.endSes_frame (h : Hw) (ses : Fin 11) :
    OnlyMywiTxn h (Hw.endSes h ses) := by
  unfold Hw.endSes
  (try dsimp only [Hw.when, Hw.dkRx, Hw.latRx, Hw.calBus, Hw.request, Hw.chFree, Hw.dmaCtrl])
  (repeat' (split <;> try (rename_i heq; simp only [Prod.ext_iff] at heq; obtain ⟨rfl, rfl⟩ := heq))) <;> simp [OnlyMywiTxn]
@[simp] theorem Hw.closeMywi_frame (h : Hw) :
    OnlyMywiTxn h (Hw.closeMywi h) := by
  unfold Hw.closeMywi
  (try dsimp only [Hw.when, Hw.dkRx, Hw.latRx, Hw.calBus, Hw.request, Hw.chFree, Hw.dmaCtrl])
  (repeat' (split <;> try (rename_i heq; simp only [Prod.ext_iff] at heq; obtain ⟨rfl, rfl⟩ := heq))) <;> simp (disch := (intros; first | rfl | ((try dsimp only [Hw.when, Hw.dkRx, Hw.latRx, Hw.calBus, Hw.request, Hw.chFree, Hw.dmaCtrl]); first | rfl | ((repeat' (split <;> try (rename_i heq; simp only [Prod.ext_iff] at heq; obtain ⟨rfl, rfl⟩ := heq))) <;> first | rfl | (try simp))))) [OnlyMywiTxn, foldl_time, foldl_sys, foldl_wave, foldl_note, foldl_mywi, foldl_txn, foldl_sett, foldl_ref, foldl_steer, foldl_sealU, foldl_store, foldl_keep, foldl_keepSeed, foldl_evt, foldl_port, foldl_prong, foldl_pwr, foldl_cal, foldl_out, foldl_lat, foldl_deck, foldl_ibex, foldl_dma, foldl_tally, foldl_img, foldl_free]
@[simp] theorem Hw.startRestart_frame (h : Hw) (kind : RestartKind) (mode : Nat) (trans : Nat) (ses : Nat) (account : String) :
    OnlySysMywiTxnSealU h (Hw.startRestart h kind mode trans ses account) := by
  unfold Hw.startRestart
  (try dsimp only [Hw.when, Hw.dkRx, Hw.latRx, Hw.calBus, Hw.request, Hw.chFree, Hw.dmaCtrl])
  (repeat' (split <;> try (rename_i heq; simp only [Prod.ext_iff] at heq; obtain ⟨rfl, rfl⟩ := heq))) <;> simp [OnlySysMywiTxnSealU]
@[simp] theorem Hw.boardRecords_frame (old : Hw) (h : Hw) :
    OnlyNoteMywiSealUStoreTally h (Hw.boardRecords old h) := by
  unfold Hw.boardRecords
  (try dsimp only [Hw.when, Hw.dkRx, Hw.latRx, Hw.calBus, Hw.request, Hw.chFree, Hw.dmaCtrl])
  (repeat' (split <;> try (rename_i heq; simp only [Prod.ext_iff] at heq; obtain ⟨rfl, rfl⟩ := heq))) <;> simp (disch := (intros; first | rfl | ((try dsimp only [Hw.when, Hw.dkRx, Hw.latRx, Hw.calBus, Hw.request, Hw.chFree, Hw.dmaCtrl]); first | rfl | ((repeat' (split <;> try (rename_i heq; simp only [Prod.ext_iff] at heq; obtain ⟨rfl, rfl⟩ := heq))) <;> first | rfl | (try simp))))) [OnlyNoteMywiSealUStoreTally, foldl_time, foldl_sys, foldl_wave, foldl_note, foldl_mywi, foldl_txn, foldl_sett, foldl_ref, foldl_steer, foldl_sealU, foldl_store, foldl_keep, foldl_keepSeed, foldl_evt, foldl_port, foldl_prong, foldl_pwr, foldl_cal, foldl_out, foldl_lat, foldl_deck, foldl_ibex, foldl_dma, foldl_tally, foldl_img, foldl_free]
@[simp] theorem Hw.portRestart_frame (old : Hw) (h : Hw) (p : Fin 4) :
    OnlyNoteMywiRefPortTally h (Hw.portRestart old h p) := by
  unfold Hw.portRestart
  (try dsimp only [Hw.when, Hw.dkRx, Hw.latRx, Hw.calBus, Hw.request, Hw.chFree, Hw.dmaCtrl])
  (repeat' (split <;> try (rename_i heq; simp only [Prod.ext_iff] at heq; obtain ⟨rfl, rfl⟩ := heq))) <;> simp [OnlyNoteMywiRefPortTally]
@[simp] theorem Hw.deckLeaving_frame (h : Hw) (n : Fin 2) (reason : Nat) :
    OnlyDeck h (Hw.deckLeaving h n reason) := by
  unfold Hw.deckLeaving
  (try dsimp only [Hw.when, Hw.dkRx, Hw.latRx, Hw.calBus, Hw.request, Hw.chFree, Hw.dmaCtrl])
  (repeat' (split <;> try (rename_i heq; simp only [Prod.ext_iff] at heq; obtain ⟨rfl, rfl⟩ := heq))) <;> simp [OnlyDeck]
@[simp] theorem Hw.lateSmearTest_frame (h : Hw) :
    OnlyTimeNoteMywi h (Hw.lateSmearTest h) := by
  unfold Hw.lateSmearTest
  (try dsimp only [Hw.when, Hw.dkRx, Hw.latRx, Hw.calBus, Hw.request, Hw.chFree, Hw.dmaCtrl])
  (repeat' (split <;> try (rename_i heq; simp only [Prod.ext_iff] at heq; obtain ⟨rfl, rfl⟩ := heq))) <;> simp [OnlyTimeNoteMywi]
@[simp] theorem Hw.offConflictTest_frame (h : Hw) :
    OnlyTimeNoteMywi h (Hw.offConflictTest h) := by
  unfold Hw.offConflictTest
  (try dsimp only [Hw.when, Hw.dkRx, Hw.latRx, Hw.calBus, Hw.request, Hw.chFree, Hw.dmaCtrl])
  (repeat' (split <;> try (rename_i heq; simp only [Prod.ext_iff] at heq; obtain ⟨rfl, rfl⟩ := heq))) <;> simp [OnlyTimeNoteMywi]
@[simp] theorem Hw.policyRecord_frame (h : Hw) :
    OnlyNoteMywiSealUStoreTally h (Hw.policyRecord h) := by
  unfold Hw.policyRecord
  (try dsimp only [Hw.when, Hw.dkRx, Hw.latRx, Hw.calBus, Hw.request, Hw.chFree, Hw.dmaCtrl])
  (repeat' (split <;> try (rename_i heq; simp only [Prod.ext_iff] at heq; obtain ⟨rfl, rfl⟩ := heq))) <;> simp [OnlyNoteMywiSealUStoreTally]
@[simp] theorem Hw.setRoute_frame (h : Hw) (t : Fin 96) (l : List Nat) :
    OnlyEvt h (Hw.setRoute h t l) := by
  unfold Hw.setRoute
  (try dsimp only [Hw.when, Hw.dkRx, Hw.latRx, Hw.calBus, Hw.request, Hw.chFree, Hw.dmaCtrl])
  (repeat' (split <;> try (rename_i heq; simp only [Prod.ext_iff] at heq; obtain ⟨rfl, rfl⟩ := heq))) <;> simp [OnlyEvt]
@[simp] theorem Hw.armLeap_frame (h : Hw) (insert : Bool) (at_ : Nat) (src : LeapSrc) :
    OnlyTimeNoteMywi h (Hw.armLeap h insert at_ src) := by
  unfold Hw.armLeap
  (try dsimp only [Hw.when, Hw.dkRx, Hw.latRx, Hw.calBus, Hw.request, Hw.chFree, Hw.dmaCtrl])
  (repeat' (split <;> try (rename_i heq; simp only [Prod.ext_iff] at heq; obtain ⟨rfl, rfl⟩ := heq))) <;> simp [OnlyTimeNoteMywi]
@[simp] theorem Hw.tableLeap_frame (h : Hw) :
    OnlyTimeNoteMywi h (Hw.tableLeap h) := by
  unfold Hw.tableLeap
  (try dsimp only [Hw.when, Hw.dkRx, Hw.latRx, Hw.calBus, Hw.request, Hw.chFree, Hw.dmaCtrl])
  (repeat' (split <;> try (rename_i heq; simp only [Prod.ext_iff] at heq; obtain ⟨rfl, rfl⟩ := heq))) <;> simp [OnlyTimeNoteMywi]
@[simp] theorem Hw.takeSlope_frame (h : Hw) :
    OnlySteer h (Hw.takeSlope h) := by
  unfold Hw.takeSlope
  (try dsimp only [Hw.when, Hw.dkRx, Hw.latRx, Hw.calBus, Hw.request, Hw.chFree, Hw.dmaCtrl])
  (repeat' (split <;> try (rename_i heq; simp only [Prod.ext_iff] at heq; obtain ⟨rfl, rfl⟩ := heq))) <;> simp [OnlySteer]
@[simp] theorem Hw.say_frame (h : Hw) (stem : String) (args : List (String × String)) :
    OnlyNoteMywi h (Hw.say h stem args) := by
  unfold Hw.say
  (try dsimp only [Hw.when, Hw.dkRx, Hw.latRx, Hw.calBus, Hw.request, Hw.chFree, Hw.dmaCtrl])
  (repeat' (split <;> try (rename_i heq; simp only [Prod.ext_iff] at heq; obtain ⟨rfl, rfl⟩ := heq))) <;> simp [OnlyNoteMywi]
@[simp] theorem Hw.regRange_frame (h : Hw) (off : Nat) :
    OnlyNoteMywi h (Hw.regRange h off) := by
  unfold Hw.regRange
  (try dsimp only [Hw.when, Hw.dkRx, Hw.latRx, Hw.calBus, Hw.request, Hw.chFree, Hw.dmaCtrl])
  (repeat' (split <;> try (rename_i heq; simp only [Prod.ext_iff] at heq; obtain ⟨rfl, rfl⟩ := heq))) <;> simp [OnlyNoteMywi]
@[simp] theorem Hw.tallyMark_frame (h : Hw) :
    OnlyNoteMywiTally h (Hw.tallyMark h) := by
  unfold Hw.tallyMark
  (try dsimp only [Hw.when, Hw.dkRx, Hw.latRx, Hw.calBus, Hw.request, Hw.chFree, Hw.dmaCtrl])
  (repeat' (split <;> try (rename_i heq; simp only [Prod.ext_iff] at heq; obtain ⟨rfl, rfl⟩ := heq))) <;> simp [OnlyNoteMywiTally]
@[simp] theorem Hw.tallyHostPut_frame (h : Hw) (v : Word) :
    OnlyNoteMywiTally h (Hw.tallyHostPut h v) := by
  unfold Hw.tallyHostPut
  (try dsimp only [Hw.when, Hw.dkRx, Hw.latRx, Hw.calBus, Hw.request, Hw.chFree, Hw.dmaCtrl])
  (repeat' (split <;> try (rename_i heq; simp only [Prod.ext_iff] at heq; obtain ⟨rfl, rfl⟩ := heq))) <;> simp [OnlyNoteMywiTally]
@[simp] theorem Hw.tallySchedule_frame (h : Hw) (en : Bool) (ms : Nat) :
    OnlyTally h (Hw.tallySchedule h en ms) := by
  unfold Hw.tallySchedule
  (try dsimp only [Hw.when, Hw.dkRx, Hw.latRx, Hw.calBus, Hw.request, Hw.chFree, Hw.dmaCtrl])
  (repeat' (split <;> try (rename_i heq; simp only [Prod.ext_iff] at heq; obtain ⟨rfl, rfl⟩ := heq))) <;> simp [OnlyTally]
@[simp] theorem Hw.unitChange_frame (h : Hw) (u : Fin 18) (f : TallyUnit → TallyUnit) :
    OnlyTally h (Hw.unitChange h u f) := by
  unfold Hw.unitChange
  (try dsimp only [Hw.when, Hw.dkRx, Hw.latRx, Hw.calBus, Hw.request, Hw.chFree, Hw.dmaCtrl])
  (repeat' (split <;> try (rename_i heq; simp only [Prod.ext_iff] at heq; obtain ⟨rfl, rfl⟩ := heq))) <;> simp [OnlyTally]
@[simp] theorem Hw.tallyTake_frame (h : Hw) (k : Key) (v : SVal) :
    OnlyNoteMywiTally h (Hw.tallyTake h k v) := by
  unfold Hw.tallyTake
  (try dsimp only [Hw.when, Hw.dkRx, Hw.latRx, Hw.calBus, Hw.request, Hw.chFree, Hw.dmaCtrl])
  (repeat' (split <;> try (rename_i heq; simp only [Prod.ext_iff] at heq; obtain ⟨rfl, rfl⟩ := heq))) <;> simp [OnlyNoteMywiTally]
@[simp] theorem Hw.timerArm_frame (h : Hw) :
    OnlyPwr h (Hw.timerArm h) := by
  unfold Hw.timerArm
  (try dsimp only [Hw.when, Hw.dkRx, Hw.latRx, Hw.calBus, Hw.request, Hw.chFree, Hw.dmaCtrl])
  (repeat' (split <;> try (rename_i heq; simp only [Prod.ext_iff] at heq; obtain ⟨rfl, rfl⟩ := heq))) <;> simp [OnlyPwr]
@[simp] theorem Hw.updDma_frame (h : Hw) (n : Fin 16) (f : DmaCh → DmaCh) :
    OnlyDma h (Hw.updDma h n f) := by
  unfold Hw.updDma
  (try dsimp only [Hw.when, Hw.dkRx, Hw.latRx, Hw.calBus, Hw.request, Hw.chFree, Hw.dmaCtrl])
  (repeat' (split <;> try (rename_i heq; simp only [Prod.ext_iff] at heq; obtain ⟨rfl, rfl⟩ := heq))) <;> simp [OnlyDma]
@[simp] theorem Hw.bookOn_frame (h : Hw) (l : Fin 16) (b : Booking) :
    OnlyPort h (Hw.bookOn h l b) := by
  unfold Hw.bookOn
  (try dsimp only [Hw.when, Hw.dkRx, Hw.latRx, Hw.calBus, Hw.request, Hw.chFree, Hw.dmaCtrl])
  (repeat' (split <;> try (rename_i heq; simp only [Prod.ext_iff] at heq; obtain ⟨rfl, rfl⟩ := heq))) <;> simp [OnlyPort]
@[simp] theorem Hw.send_frame (h : Hw) (lp : Nat) (t : Nat) (m : Msg) :
    OnlyNoteMywiPortTally h (Hw.send h lp t m) := by
  unfold Hw.send
  (try dsimp only [Hw.when, Hw.dkRx, Hw.latRx, Hw.calBus, Hw.request, Hw.chFree, Hw.dmaCtrl])
  (repeat' (split <;> try (rename_i heq; simp only [Prod.ext_iff] at heq; obtain ⟨rfl, rfl⟩ := heq))) <;> simp [OnlyNoteMywiPortTally]
@[simp] theorem Hw.drainPlain_frame (h : Hw) (l : Fin 16) (k_ : Nat) :
    OnlyNoteMywiPortTally h (Hw.drainPlain h l k_) := by
  induction k_ generalizing h with
  | zero => simp [Hw.drainPlain, OnlyNoteMywiPortTally]
  | succ k ih => dsimp only [OnlyNoteMywiPortTally] at ih; unfold Hw.drainPlain; (try dsimp only [Hw.when, Hw.dkRx, Hw.latRx, Hw.calBus, Hw.request, Hw.chFree, Hw.dmaCtrl]); (repeat' (split <;> try (rename_i heq; simp only [Prod.ext_iff] at heq; obtain ⟨rfl, rfl⟩ := heq))) <;> simp (disch := (intros; first | rfl | ((try dsimp only [Hw.when, Hw.dkRx, Hw.latRx, Hw.calBus, Hw.request, Hw.chFree, Hw.dmaCtrl]); first | rfl | ((repeat' (split <;> try (rename_i heq; simp only [Prod.ext_iff] at heq; obtain ⟨rfl, rfl⟩ := heq))) <;> first | rfl | (try simp))))) [OnlyNoteMywiPortTally, ih, foldl_time, foldl_sys, foldl_wave, foldl_note, foldl_mywi, foldl_txn, foldl_sett, foldl_ref, foldl_steer, foldl_sealU, foldl_store, foldl_keep, foldl_keepSeed, foldl_evt, foldl_port, foldl_prong, foldl_pwr, foldl_cal, foldl_out, foldl_lat, foldl_deck, foldl_ibex, foldl_dma, foldl_tally, foldl_img, foldl_free]
@[simp] theorem Hw.sendPlain_frame (h : Hw) (l : Fin 16) (len : Nat) (m : Msg) :
    OnlyNoteMywiPortTally h (Hw.sendPlain h l len m) := by
  unfold Hw.sendPlain
  (try dsimp only [Hw.when, Hw.dkRx, Hw.latRx, Hw.calBus, Hw.request, Hw.chFree, Hw.dmaCtrl])
  (repeat' (split <;> try (rename_i heq; simp only [Prod.ext_iff] at heq; obtain ⟨rfl, rfl⟩ := heq))) <;> simp [OnlyNoteMywiPortTally]
@[simp] theorem Hw.latSend_frame (h : Hw) (n : Fin 4) (type : Fin 4) (at_ : Option Nat) (payload : List Byte) :
    OnlyNoteMywiPortLatTally h (Hw.latSend h n type at_ payload) := by
  unfold Hw.latSend
  (try dsimp only [Hw.when, Hw.dkRx, Hw.latRx, Hw.calBus, Hw.request, Hw.chFree, Hw.dmaCtrl])
  (repeat' (split <;> try (rename_i heq; simp only [Prod.ext_iff] at heq; obtain ⟨rfl, rfl⟩ := heq))) <;> simp [OnlyNoteMywiPortLatTally]
@[simp] theorem Hw.latLeave_frame (h : Hw) (n : Fin 4) (reason : Nat) :
    OnlyNoteMywiPortLatTally h (Hw.latLeave h n reason) := by
  unfold Hw.latLeave
  (try dsimp only [Hw.when, Hw.dkRx, Hw.latRx, Hw.calBus, Hw.request, Hw.chFree, Hw.dmaCtrl])
  (repeat' (split <;> try (rename_i heq; simp only [Prod.ext_iff] at heq; obtain ⟨rfl, rfl⟩ := heq))) <;> simp [OnlyNoteMywiPortLatTally]
@[simp] theorem Hw.latOut_frame (h : Hw) (n : Fin 4) (reason : Nat) :
    OnlyNoteMywiRefPortLatTally h (Hw.latOut h n reason) := by
  unfold Hw.latOut
  (try dsimp only [Hw.when, Hw.dkRx, Hw.latRx, Hw.calBus, Hw.request, Hw.chFree, Hw.dmaCtrl])
  (repeat' (split <;> try (rename_i heq; simp only [Prod.ext_iff] at heq; obtain ⟨rfl, rfl⟩ := heq))) <;> simp [OnlyNoteMywiRefPortLatTally]
@[simp] theorem Hw.followLat_frame (old : Hw) (h : Hw) (k : Key) :
    OnlySysNoteMywiRefPortLatTally h (Hw.followLat old h k) := by
  unfold Hw.followLat
  (try dsimp only [Hw.when, Hw.dkRx, Hw.latRx, Hw.calBus, Hw.request, Hw.chFree, Hw.dmaCtrl])
  (repeat' (split <;> try (rename_i heq; simp only [Prod.ext_iff] at heq; obtain ⟨rfl, rfl⟩ := heq))) <;> simp (disch := (intros; first | rfl | ((try dsimp only [Hw.when, Hw.dkRx, Hw.latRx, Hw.calBus, Hw.request, Hw.chFree, Hw.dmaCtrl]); first | rfl | ((repeat' (split <;> try (rename_i heq; simp only [Prod.ext_iff] at heq; obtain ⟨rfl, rfl⟩ := heq))) <;> first | rfl | (try simp))))) [OnlySysNoteMywiRefPortLatTally, foldl_time, foldl_sys, foldl_wave, foldl_note, foldl_mywi, foldl_txn, foldl_sett, foldl_ref, foldl_steer, foldl_sealU, foldl_store, foldl_keep, foldl_keepSeed, foldl_evt, foldl_port, foldl_prong, foldl_pwr, foldl_cal, foldl_out, foldl_lat, foldl_deck, foldl_ibex, foldl_dma, foldl_tally, foldl_img, foldl_free]
@[simp] theorem Hw.setPState_frame (h : Hw) (p : PState) :
    OnlyNoteMywiPwr h (Hw.setPState h p) := by
  unfold Hw.setPState
  (try dsimp only [Hw.when, Hw.dkRx, Hw.latRx, Hw.calBus, Hw.request, Hw.chFree, Hw.dmaCtrl])
  (repeat' (split <;> try (rename_i heq; simp only [Prod.ext_iff] at heq; obtain ⟨rfl, rfl⟩ := heq))) <;> simp [OnlyNoteMywiPwr]
@[simp] theorem Hw.settleState_frame (h : Hw) :
    OnlyNoteMywiPwr h (Hw.settleState h) := by
  unfold Hw.settleState
  (try dsimp only [Hw.when, Hw.dkRx, Hw.latRx, Hw.calBus, Hw.request, Hw.chFree, Hw.dmaCtrl])
  (repeat' (split <;> try (rename_i heq; simp only [Prod.ext_iff] at heq; obtain ⟨rfl, rfl⟩ := heq))) <;> simp [OnlyNoteMywiPwr]
@[simp] theorem Hw.writePart_frame (h : Hw) (w : SlotWrite) :
    OnlyFree h (Hw.writePart h w).2 := by
  unfold Hw.writePart
  (try dsimp only [Hw.when, Hw.dkRx, Hw.latRx, Hw.calBus, Hw.request, Hw.chFree, Hw.dmaCtrl])
  (repeat' (split <;> try (rename_i heq; simp only [Prod.ext_iff] at heq; obtain ⟨rfl, rfl⟩ := heq))) <;> simp [OnlyFree]
@[simp] theorem Hw.imageAbandon_frame (h : Hw) :
    OnlyNoteImgFree h (Hw.imageAbandon h) := by
  unfold Hw.imageAbandon
  (try dsimp only [Hw.when, Hw.dkRx, Hw.latRx, Hw.calBus, Hw.request, Hw.chFree, Hw.dmaCtrl])
  (repeat' (split <;> try (rename_i heq; simp only [Prod.ext_iff] at heq; obtain ⟨rfl, rfl⟩ := heq))) <;> simp [OnlyNoteImgFree]
@[simp] theorem Hw.setMbx_frame (h : Hw) (b : Nat) :
    OnlyNoteMywi h (Hw.setMbx h b) := by
  unfold Hw.setMbx
  (try dsimp only [Hw.when, Hw.dkRx, Hw.latRx, Hw.calBus, Hw.request, Hw.chFree, Hw.dmaCtrl])
  (repeat' (split <;> try (rename_i heq; simp only [Prod.ext_iff] at heq; obtain ⟨rfl, rfl⟩ := heq))) <;> simp [OnlyNoteMywi]
@[simp] theorem Hw.mbxPump_frame (h : Hw) (k_ : Nat) :
    OnlyNoteMywiTally h (Hw.mbxPump h k_) := by
  induction k_ generalizing h with
  | zero => simp [Hw.mbxPump, OnlyNoteMywiTally]
  | succ k ih => dsimp only [OnlyNoteMywiTally] at ih; unfold Hw.mbxPump; (try dsimp only [Hw.when, Hw.dkRx, Hw.latRx, Hw.calBus, Hw.request, Hw.chFree, Hw.dmaCtrl]); (repeat' (split <;> try (rename_i heq; simp only [Prod.ext_iff] at heq; obtain ⟨rfl, rfl⟩ := heq))) <;> simp (disch := (intros; first | rfl | ((try dsimp only [Hw.when, Hw.dkRx, Hw.latRx, Hw.calBus, Hw.request, Hw.chFree, Hw.dmaCtrl]); first | rfl | ((repeat' (split <;> try (rename_i heq; simp only [Prod.ext_iff] at heq; obtain ⟨rfl, rfl⟩ := heq))) <;> first | rfl | (try simp))))) [OnlyNoteMywiTally, ih, foldl_time, foldl_sys, foldl_wave, foldl_note, foldl_mywi, foldl_txn, foldl_sett, foldl_ref, foldl_steer, foldl_sealU, foldl_store, foldl_keep, foldl_keepSeed, foldl_evt, foldl_port, foldl_prong, foldl_pwr, foldl_cal, foldl_out, foldl_lat, foldl_deck, foldl_ibex, foldl_dma, foldl_tally, foldl_img, foldl_free]
@[simp] theorem Hw.pump_frame (h : Hw) (ses : Fin 11) :
    OnlyNoteMywiTally h (Hw.pump h ses) := by
  unfold Hw.pump
  (try dsimp only [Hw.when, Hw.dkRx, Hw.latRx, Hw.calBus, Hw.request, Hw.chFree, Hw.dmaCtrl])
  (repeat' (split <;> try (rename_i heq; simp only [Prod.ext_iff] at heq; obtain ⟨rfl, rfl⟩ := heq))) <;> simp [OnlyNoteMywiTally]
@[simp] theorem Hw.startSes_frame (h : Hw) (ses : Fin 11) :
    OnlyNoteMywiTally h (Hw.startSes h ses) := by
  unfold Hw.startSes
  (try dsimp only [Hw.when, Hw.dkRx, Hw.latRx, Hw.calBus, Hw.request, Hw.chFree, Hw.dmaCtrl])
  (repeat' (split <;> try (rename_i heq; simp only [Prod.ext_iff] at heq; obtain ⟨rfl, rfl⟩ := heq))) <;> simp [OnlyNoteMywiTally]
@[simp] theorem Hw.openMywi_frame (h : Hw) :
    OnlyNoteMywiTally h (Hw.openMywi h) := by
  unfold Hw.openMywi
  (try dsimp only [Hw.when, Hw.dkRx, Hw.latRx, Hw.calBus, Hw.request, Hw.chFree, Hw.dmaCtrl])
  (repeat' (split <;> try (rename_i heq; simp only [Prod.ext_iff] at heq; obtain ⟨rfl, rfl⟩ := heq))) <;> simp [OnlyNoteMywiTally]
@[simp] theorem Hw.wardenRestart_frame (h : Hw) :
    OnlyNoteMywiTxnProngTallyImgFree h (Hw.wardenRestart h) := by
  unfold Hw.wardenRestart
  (try dsimp only [Hw.when, Hw.dkRx, Hw.latRx, Hw.calBus, Hw.request, Hw.chFree, Hw.dmaCtrl])
  (repeat' (split <;> try (rename_i heq; simp only [Prod.ext_iff] at heq; obtain ⟨rfl, rfl⟩ := heq))) <;> simp [OnlyNoteMywiTxnProngTallyImgFree]
@[simp] theorem Hw.setDmaEvt_frame (h : Hw) (n : Fin 16) (b : Nat) :
    OnlyNote h (Hw.setDmaEvt h n b) := by
  unfold Hw.setDmaEvt
  (try dsimp only [Hw.when, Hw.dkRx, Hw.latRx, Hw.calBus, Hw.request, Hw.chFree, Hw.dmaCtrl])
  (repeat' (split <;> try (rename_i heq; simp only [Prod.ext_iff] at heq; obtain ⟨rfl, rfl⟩ := heq))) <;> simp [OnlyNote]
@[simp] theorem Hw.dmaEnd_frame (h : Hw) (n : Fin 16) (code : Nat) :
    OnlySysNoteMywiSealUStoreEvtDmaTally h (Hw.dmaEnd h n code) := by
  unfold Hw.dmaEnd
  (try dsimp only [Hw.when, Hw.dkRx, Hw.latRx, Hw.calBus, Hw.request, Hw.chFree, Hw.dmaCtrl])
  (repeat' (split <;> try (rename_i heq; simp only [Prod.ext_iff] at heq; obtain ⟨rfl, rfl⟩ := heq))) <;> simp [OnlySysNoteMywiSealUStoreEvtDmaTally]
@[simp] theorem Hw.dmaReset_frame (h : Hw) :
    OnlySysNoteMywiSealUStoreEvtDmaTally h (Hw.dmaReset h) := by
  unfold Hw.dmaReset
  (try dsimp only [Hw.when, Hw.dkRx, Hw.latRx, Hw.calBus, Hw.request, Hw.chFree, Hw.dmaCtrl])
  (repeat' (split <;> try (rename_i heq; simp only [Prod.ext_iff] at heq; obtain ⟨rfl, rfl⟩ := heq))) <;> simp (disch := (intros; first | rfl | ((try dsimp only [Hw.when, Hw.dkRx, Hw.latRx, Hw.calBus, Hw.request, Hw.chFree, Hw.dmaCtrl]); first | rfl | ((repeat' (split <;> try (rename_i heq; simp only [Prod.ext_iff] at heq; obtain ⟨rfl, rfl⟩ := heq))) <;> first | rfl | (try simp))))) [OnlySysNoteMywiSealUStoreEvtDmaTally, foldl_time, foldl_sys, foldl_wave, foldl_note, foldl_mywi, foldl_txn, foldl_sett, foldl_ref, foldl_steer, foldl_sealU, foldl_store, foldl_keep, foldl_keepSeed, foldl_evt, foldl_port, foldl_prong, foldl_pwr, foldl_cal, foldl_out, foldl_lat, foldl_deck, foldl_ibex, foldl_dma, foldl_tally, foldl_img, foldl_free]
@[simp] theorem Hw.startReload_frame (h : Hw) (g : Fin 4) :
    OnlyProng h (Hw.startReload h g) := by
  unfold Hw.startReload
  (try dsimp only [Hw.when, Hw.dkRx, Hw.latRx, Hw.calBus, Hw.request, Hw.chFree, Hw.dmaCtrl])
  (repeat' (split <;> try (rename_i heq; simp only [Prod.ext_iff] at heq; obtain ⟨rfl, rfl⟩ := heq))) <;> simp [OnlyProng]
@[simp] theorem Hw.tallyConfigure_frame (h : Hw) :
    OnlyNoteMywiTally h (Hw.tallyConfigure h) := by
  unfold Hw.tallyConfigure
  (try dsimp only [Hw.when, Hw.dkRx, Hw.latRx, Hw.calBus, Hw.request, Hw.chFree, Hw.dmaCtrl])
  (repeat' (split <;> try (rename_i heq; simp only [Prod.ext_iff] at heq; obtain ⟨rfl, rfl⟩ := heq))) <;> simp (disch := (intros; first | rfl | ((try dsimp only [Hw.when, Hw.dkRx, Hw.latRx, Hw.calBus, Hw.request, Hw.chFree, Hw.dmaCtrl]); first | rfl | ((repeat' (split <;> try (rename_i heq; simp only [Prod.ext_iff] at heq; obtain ⟨rfl, rfl⟩ := heq))) <;> first | rfl | (try simp))))) [OnlyNoteMywiTally, foldl_time, foldl_sys, foldl_wave, foldl_note, foldl_mywi, foldl_txn, foldl_sett, foldl_ref, foldl_steer, foldl_sealU, foldl_store, foldl_keep, foldl_keepSeed, foldl_evt, foldl_port, foldl_prong, foldl_pwr, foldl_cal, foldl_out, foldl_lat, foldl_deck, foldl_ibex, foldl_dma, foldl_tally, foldl_img, foldl_free]
@[simp] theorem Hw.tallyReset_frame (h : Hw) :
    OnlySysNoteMywiTally h (Hw.tallyReset h) := by
  unfold Hw.tallyReset
  (try dsimp only [Hw.when, Hw.dkRx, Hw.latRx, Hw.calBus, Hw.request, Hw.chFree, Hw.dmaCtrl])
  (repeat' (split <;> try (rename_i heq; simp only [Prod.ext_iff] at heq; obtain ⟨rfl, rfl⟩ := heq))) <;> simp (disch := (intros; first | rfl | ((try dsimp only [Hw.when, Hw.dkRx, Hw.latRx, Hw.calBus, Hw.request, Hw.chFree, Hw.dmaCtrl]); first | rfl | ((repeat' (split <;> try (rename_i heq; simp only [Prod.ext_iff] at heq; obtain ⟨rfl, rfl⟩ := heq))) <;> first | rfl | (try simp))))) [OnlySysNoteMywiTally, foldl_time, foldl_sys, foldl_wave, foldl_note, foldl_mywi, foldl_txn, foldl_sett, foldl_ref, foldl_steer, foldl_sealU, foldl_store, foldl_keep, foldl_keepSeed, foldl_evt, foldl_port, foldl_prong, foldl_pwr, foldl_cal, foldl_out, foldl_lat, foldl_deck, foldl_ibex, foldl_dma, foldl_tally, foldl_img, foldl_free]
@[simp] theorem Hw.dmaConfigure_frame (h : Hw) :
    OnlyDma h (Hw.dmaConfigure h) := by
  unfold Hw.dmaConfigure
  (try dsimp only [Hw.when, Hw.dkRx, Hw.latRx, Hw.calBus, Hw.request, Hw.chFree, Hw.dmaCtrl])
  (repeat' (split <;> try (rename_i heq; simp only [Prod.ext_iff] at heq; obtain ⟨rfl, rfl⟩ := heq))) <;> simp (disch := (intros; first | rfl | ((try dsimp only [Hw.when, Hw.dkRx, Hw.latRx, Hw.calBus, Hw.request, Hw.chFree, Hw.dmaCtrl]); first | rfl | ((repeat' (split <;> try (rename_i heq; simp only [Prod.ext_iff] at heq; obtain ⟨rfl, rfl⟩ := heq))) <;> first | rfl | (try simp))))) [OnlyDma, foldl_time, foldl_sys, foldl_wave, foldl_note, foldl_mywi, foldl_txn, foldl_sett, foldl_ref, foldl_steer, foldl_sealU, foldl_store, foldl_keep, foldl_keepSeed, foldl_evt, foldl_port, foldl_prong, foldl_pwr, foldl_cal, foldl_out, foldl_lat, foldl_deck, foldl_ibex, foldl_dma, foldl_tally, foldl_img, foldl_free]
@[simp] theorem Hw.sendAllVecs_frame (h : Hw) :
    OnlyNote h (Hw.sendAllVecs h) := by
  unfold Hw.sendAllVecs
  (try dsimp only [Hw.when, Hw.dkRx, Hw.latRx, Hw.calBus, Hw.request, Hw.chFree, Hw.dmaCtrl])
  (repeat' (split <;> try (rename_i heq; simp only [Prod.ext_iff] at heq; obtain ⟨rfl, rfl⟩ := heq))) <;> simp (disch := (intros; first | rfl | ((try dsimp only [Hw.when, Hw.dkRx, Hw.latRx, Hw.calBus, Hw.request, Hw.chFree, Hw.dmaCtrl]); first | rfl | ((repeat' (split <;> try (rename_i heq; simp only [Prod.ext_iff] at heq; obtain ⟨rfl, rfl⟩ := heq))) <;> first | rfl | (try simp))))) [OnlyNote, foldl_time, foldl_sys, foldl_wave, foldl_note, foldl_mywi, foldl_txn, foldl_sett, foldl_ref, foldl_steer, foldl_sealU, foldl_store, foldl_keep, foldl_keepSeed, foldl_evt, foldl_port, foldl_prong, foldl_pwr, foldl_cal, foldl_out, foldl_lat, foldl_deck, foldl_ibex, foldl_dma, foldl_tally, foldl_img, foldl_free]
@[simp] theorem Hw.calNotice_frame (h : Hw) (c : Fin 40) (b : Nat) (stem : String) (args : List (String × String)) :
    OnlyNoteMywi h (Hw.calNotice h c b stem args) := by
  unfold Hw.calNotice
  (try dsimp only [Hw.when, Hw.dkRx, Hw.latRx, Hw.calBus, Hw.request, Hw.chFree, Hw.dmaCtrl])
  (repeat' (split <;> try (rename_i heq; simp only [Prod.ext_iff] at heq; obtain ⟨rfl, rfl⟩ := heq))) <;> simp [OnlyNoteMywi]
@[simp] theorem Hw.calMarkTest_frame (h : Hw) (c : Fin 40) :
    OnlyNoteMywiCal h (Hw.calMarkTest h c) := by
  unfold Hw.calMarkTest
  (try dsimp only [Hw.when, Hw.dkRx, Hw.latRx, Hw.calBus, Hw.request, Hw.chFree, Hw.dmaCtrl])
  (repeat' (split <;> try (rename_i heq; simp only [Prod.ext_iff] at heq; obtain ⟨rfl, rfl⟩ := heq))) <;> simp [OnlyNoteMywiCal]
@[simp] theorem Hw.calLose_frame (h : Hw) (c : Fin 40) (n : Nat) :
    OnlyNoteMywiCalTally h (Hw.calLose h c n) := by
  unfold Hw.calLose
  (try dsimp only [Hw.when, Hw.dkRx, Hw.latRx, Hw.calBus, Hw.request, Hw.chFree, Hw.dmaCtrl])
  (repeat' (split <;> try (rename_i heq; simp only [Prod.ext_iff] at heq; obtain ⟨rfl, rfl⟩ := heq))) <;> simp [OnlyNoteMywiCalTally]
@[simp] theorem Hw.calPut_frame (h : Hw) (c : Fin 40) (recs : List CalRec) :
    OnlyNoteMywiCalTally h (Hw.calPut h c recs) := by
  unfold Hw.calPut
  (try dsimp only [Hw.when, Hw.dkRx, Hw.latRx, Hw.calBus, Hw.request, Hw.chFree, Hw.dmaCtrl])
  (repeat' (split <;> try (rename_i heq; simp only [Prod.ext_iff] at heq; obtain ⟨rfl, rfl⟩ := heq))) <;> simp [OnlyNoteMywiCalTally]
@[simp] theorem Hw.calCmp_frame (h : Hw) (c : Fin 40) (v : Option Int) :
    OnlyNoteMywiEvt h (Hw.calCmp h c v) := by
  unfold Hw.calCmp
  (try dsimp only [Hw.when, Hw.dkRx, Hw.latRx, Hw.calBus, Hw.request, Hw.chFree, Hw.dmaCtrl])
  (repeat' (split <;> try (rename_i heq; simp only [Prod.ext_iff] at heq; obtain ⟨rfl, rfl⟩ := heq))) <;> simp [OnlyNoteMywiEvt]
@[simp] theorem Hw.roundRoot_frame (h : Hw) (v n : Nat) : OnlyFree h (Hw.roundRoot h v n).2 := by
  simp [Hw.roundRoot, OnlyFree]
@[simp] theorem Hw.closeBlock_frame (h : Hw) (c : Fin 40) (b : CalBlock) :
    OnlyNoteMywiEvtCalTallyFree h (Hw.closeBlock h c b) := by
  unfold Hw.closeBlock
  (try dsimp only [Hw.when, Hw.dkRx, Hw.latRx, Hw.calBus, Hw.request, Hw.chFree, Hw.dmaCtrl])
  (repeat' (split <;> try (rename_i heq; simp only [Prod.ext_iff] at heq; obtain ⟨rfl, rfl⟩ := heq))) <;> simp (disch := (intros; first | rfl | ((try dsimp only [Hw.when, Hw.dkRx, Hw.latRx, Hw.calBus, Hw.request, Hw.chFree, Hw.dmaCtrl]); first | rfl | ((repeat' (split <;> try (rename_i heq; simp only [Prod.ext_iff] at heq; obtain ⟨rfl, rfl⟩ := heq))) <;> first | rfl | (try simp))))) [OnlyNoteMywiEvtCalTallyFree, foldl_time, foldl_sys, foldl_wave, foldl_note, foldl_mywi, foldl_txn, foldl_sett, foldl_ref, foldl_steer, foldl_sealU, foldl_store, foldl_keep, foldl_keepSeed, foldl_evt, foldl_port, foldl_prong, foldl_pwr, foldl_cal, foldl_out, foldl_lat, foldl_deck, foldl_ibex, foldl_dma, foldl_tally, foldl_img, foldl_free]
@[simp] theorem Hw.statValue_frame (h : Hw) (c : Fin 40) (v : Int) (bad : Bool) (dead : Bool) (uncal : Bool) :
    OnlyNoteMywiEvtCalTallyFree h (Hw.statValue h c v bad dead uncal) := by
  unfold Hw.statValue
  (try dsimp only [Hw.when, Hw.dkRx, Hw.latRx, Hw.calBus, Hw.request, Hw.chFree, Hw.dmaCtrl])
  (repeat' (split <;> try (rename_i heq; simp only [Prod.ext_iff] at heq; obtain ⟨rfl, rfl⟩ := heq))) <;> simp [OnlyNoteMywiEvtCalTallyFree]
@[simp] theorem Hw.intervalResult_frame (h : Hw) (c : Fin 40) (v : Int) (start : CalStamp) (bad : Bool) (subres : Bool) (order : Bool) (timeout : Bool) (dead : Bool) (uncal : Bool) :
    OnlyNoteMywiEvtCalTallyFree h (Hw.intervalResult h c v start bad subres order timeout dead uncal) := by
  unfold Hw.intervalResult
  (try dsimp only [Hw.when, Hw.dkRx, Hw.latRx, Hw.calBus, Hw.request, Hw.chFree, Hw.dmaCtrl])
  (repeat' (split <;> try (rename_i heq; simp only [Prod.ext_iff] at heq; obtain ⟨rfl, rfl⟩ := heq))) <;> simp [OnlyNoteMywiEvtCalTallyFree]
@[simp] theorem Hw.calTake_frame (h : Hw) (c : Fin 40) (t : Nat) :
    OnlyCal h (Hw.calTake h c t) := by
  unfold Hw.calTake
  (try dsimp only [Hw.when, Hw.dkRx, Hw.latRx, Hw.calBus, Hw.request, Hw.chFree, Hw.dmaCtrl])
  (repeat' (split <;> try (rename_i heq; simp only [Prod.ext_iff] at heq; obtain ⟨rfl, rfl⟩ := heq))) <;> simp [OnlyCal]
@[simp] theorem Hw.gateEdge_frame (h : Hw) (c : Fin 40) (s : Option CalStamp) :
    OnlyCal h (Hw.gateEdge h c s) := by
  unfold Hw.gateEdge
  (try dsimp only [Hw.when, Hw.dkRx, Hw.latRx, Hw.calBus, Hw.request, Hw.chFree, Hw.dmaCtrl])
  (repeat' (split <;> try (rename_i heq; simp only [Prod.ext_iff] at heq; obtain ⟨rfl, rfl⟩ := heq))) <;> simp [OnlyCal]
@[simp] theorem Hw.calStamp_frame (h : Hw) (c : Fin 40) (s : CalStamp) :
    OnlyNoteMywiEvtCalTallyFree h (Hw.calStamp h c s) := by
  unfold Hw.calStamp
  (try dsimp only [Hw.when, Hw.dkRx, Hw.latRx, Hw.calBus, Hw.request, Hw.chFree, Hw.dmaCtrl])
  (repeat' (split <;> try (rename_i heq; simp only [Prod.ext_iff] at heq; obtain ⟨rfl, rfl⟩ := heq))) <;> simp [OnlyNoteMywiEvtCalTallyFree]
@[simp] theorem Hw.gateTask_frame (h : Hw) (c : Fin 40) :
    OnlyNoteCal h (Hw.gateTask h c) := by
  unfold Hw.gateTask
  (try dsimp only [Hw.when, Hw.dkRx, Hw.latRx, Hw.calBus, Hw.request, Hw.chFree, Hw.dmaCtrl])
  (repeat' (split <;> try (rename_i heq; simp only [Prod.ext_iff] at heq; obtain ⟨rfl, rfl⟩ := heq))) <;> simp [OnlyNoteCal]
@[simp] theorem Hw.roundDiv_frame (h : Hw) (num : Nat) (den : Nat) :
    OnlyFree h (Hw.roundDiv h num den).2 := by
  unfold Hw.roundDiv
  (try dsimp only [Hw.when, Hw.dkRx, Hw.latRx, Hw.calBus, Hw.request, Hw.chFree, Hw.dmaCtrl])
  (repeat' (split <;> try (rename_i heq; simp only [Prod.ext_iff] at heq; obtain ⟨rfl, rfl⟩ := heq))) <;> simp [OnlyFree]
@[simp] theorem Hw.calCdSel_frame (h : Hw) (line : Nat) :
    OnlyNoteMywiCal h (Hw.calCdSel h line) := by
  unfold Hw.calCdSel
  (try dsimp only [Hw.when, Hw.dkRx, Hw.latRx, Hw.calBus, Hw.request, Hw.chFree, Hw.dmaCtrl])
  (repeat' (split <;> try (rename_i heq; simp only [Prod.ext_iff] at heq; obtain ⟨rfl, rfl⟩ := heq))) <;> simp [OnlyNoteMywiCal]
@[simp] theorem Hw.calPop_frame (h : Hw) (c : Fin 40) :
    OnlyNoteMywiCal h (Hw.calPop h c).2 := by
  unfold Hw.calPop
  (try dsimp only [Hw.when, Hw.dkRx, Hw.latRx, Hw.calBus, Hw.request, Hw.chFree, Hw.dmaCtrl])
  (repeat' (split <;> try (rename_i heq; simp only [Prod.ext_iff] at heq; obtain ⟨rfl, rfl⟩ := heq))) <;> simp [OnlyNoteMywiCal]
@[simp] theorem Hw.baudMark_frame (old : Hw) (h : Hw) (ses : Fin 11) (tag : String) :
    OnlyMywi h (Hw.baudMark old h ses tag) := by
  unfold Hw.baudMark
  (try dsimp only [Hw.when, Hw.dkRx, Hw.latRx, Hw.calBus, Hw.request, Hw.chFree, Hw.dmaCtrl])
  (repeat' (split <;> try (rename_i heq; simp only [Prod.ext_iff] at heq; obtain ⟨rfl, rfl⟩ := heq))) <;> simp [OnlyMywi]
@[simp] theorem Hw.countLine_frame (h : Hw) (code : Nat) :
    OnlyMywi h (Hw.countLine h code) := by
  unfold Hw.countLine
  (try dsimp only [Hw.when, Hw.dkRx, Hw.latRx, Hw.calBus, Hw.request, Hw.chFree, Hw.dmaCtrl])
  (repeat' (split <;> try (rename_i heq; simp only [Prod.ext_iff] at heq; obtain ⟨rfl, rfl⟩ := heq))) <;> simp [OnlyMywi]
@[simp] theorem Hw.respond_frame (h : Hw) (ses : Fin 11) (tag : String) (body : List String) (code : Nat) :
    OnlyNoteMywiTally h (Hw.respond h ses tag body code) := by
  unfold Hw.respond
  (try dsimp only [Hw.when, Hw.dkRx, Hw.latRx, Hw.calBus, Hw.request, Hw.chFree, Hw.dmaCtrl])
  (repeat' (split <;> try (rename_i heq; simp only [Prod.ext_iff] at heq; obtain ⟨rfl, rfl⟩ := heq))) <;> simp [OnlyNoteMywiTally]
@[simp] theorem Hw.rts_frame (h : Hw) :
    OnlyMywi h (Hw.rts h) := by
  unfold Hw.rts
  (try dsimp only [Hw.when, Hw.dkRx, Hw.latRx, Hw.calBus, Hw.request, Hw.chFree, Hw.dmaCtrl])
  (repeat' (split <;> try (rename_i heq; simp only [Prod.ext_iff] at heq; obtain ⟨rfl, rfl⟩ := heq))) <;> simp [OnlyMywi]
@[simp] theorem Hw.takeByte_frame (h : Hw) (ses : Fin 11) (b : Byte) :
    OnlyMywi h (Hw.takeByte h ses b) := by
  unfold Hw.takeByte
  (try dsimp only [Hw.when, Hw.dkRx, Hw.latRx, Hw.calBus, Hw.request, Hw.chFree, Hw.dmaCtrl])
  (repeat' (split <;> try (rename_i heq; simp only [Prod.ext_iff] at heq; obtain ⟨rfl, rfl⟩ := heq))) <;> simp [OnlyMywi]
@[simp] theorem Hw.mbxTake_frame (h : Hw) (k_ : Nat) :
    OnlyNoteMywiTally h (Hw.mbxTake h k_) := by
  induction k_ generalizing h with
  | zero => simp [Hw.mbxTake, OnlyNoteMywiTally]
  | succ k ih => dsimp only [OnlyNoteMywiTally] at ih; unfold Hw.mbxTake; (try dsimp only [Hw.when, Hw.dkRx, Hw.latRx, Hw.calBus, Hw.request, Hw.chFree, Hw.dmaCtrl]); (repeat' (split <;> try (rename_i heq; simp only [Prod.ext_iff] at heq; obtain ⟨rfl, rfl⟩ := heq))) <;> simp (disch := (intros; first | rfl | ((try dsimp only [Hw.when, Hw.dkRx, Hw.latRx, Hw.calBus, Hw.request, Hw.chFree, Hw.dmaCtrl]); first | rfl | ((repeat' (split <;> try (rename_i heq; simp only [Prod.ext_iff] at heq; obtain ⟨rfl, rfl⟩ := heq))) <;> first | rfl | (try simp))))) [OnlyNoteMywiTally, ih, foldl_time, foldl_sys, foldl_wave, foldl_note, foldl_mywi, foldl_txn, foldl_sett, foldl_ref, foldl_steer, foldl_sealU, foldl_store, foldl_keep, foldl_keepSeed, foldl_evt, foldl_port, foldl_prong, foldl_pwr, foldl_cal, foldl_out, foldl_lat, foldl_deck, foldl_ibex, foldl_dma, foldl_tally, foldl_img, foldl_free]
@[simp] theorem Hw.inMoved_frame (h : Hw) (ses : Fin 11) :
    OnlyNoteMywiTally h (Hw.inMoved h ses) := by
  unfold Hw.inMoved
  (try dsimp only [Hw.when, Hw.dkRx, Hw.latRx, Hw.calBus, Hw.request, Hw.chFree, Hw.dmaCtrl])
  (repeat' (split <;> try (rename_i heq; simp only [Prod.ext_iff] at heq; obtain ⟨rfl, rfl⟩ := heq))) <;> simp [OnlyNoteMywiTally]
@[simp] theorem Hw.mgmtDrop_frame (h : Hw) (ses : Fin 11) :
    OnlyMywiTxn h (Hw.mgmtDrop h ses) := by
  unfold Hw.mgmtDrop
  (try dsimp only [Hw.when, Hw.dkRx, Hw.latRx, Hw.calBus, Hw.request, Hw.chFree, Hw.dmaCtrl])
  (repeat' (split <;> try (rename_i heq; simp only [Prod.ext_iff] at heq; obtain ⟨rfl, rfl⟩ := heq))) <;> simp [OnlyMywiTxn]
@[simp] theorem Hw.sendAll_frame (h : Hw) :
    OnlyNoteMywiTally h (Hw.sendAll h) := by
  unfold Hw.sendAll
  (try dsimp only [Hw.when, Hw.dkRx, Hw.latRx, Hw.calBus, Hw.request, Hw.chFree, Hw.dmaCtrl])
  (repeat' (split <;> try (rename_i heq; simp only [Prod.ext_iff] at heq; obtain ⟨rfl, rfl⟩ := heq))) <;> simp (disch := (intros; first | rfl | ((try dsimp only [Hw.when, Hw.dkRx, Hw.latRx, Hw.calBus, Hw.request, Hw.chFree, Hw.dmaCtrl]); first | rfl | ((repeat' (split <;> try (rename_i heq; simp only [Prod.ext_iff] at heq; obtain ⟨rfl, rfl⟩ := heq))) <;> first | rfl | (try simp))))) [OnlyNoteMywiTally, foldl_time, foldl_sys, foldl_wave, foldl_note, foldl_mywi, foldl_txn, foldl_sett, foldl_ref, foldl_steer, foldl_sealU, foldl_store, foldl_keep, foldl_keepSeed, foldl_evt, foldl_port, foldl_prong, foldl_pwr, foldl_cal, foldl_out, foldl_lat, foldl_deck, foldl_ibex, foldl_dma, foldl_tally, foldl_img, foldl_free]
@[simp] theorem Hw.drained_frame (h : Hw) (ses : Fin 11) (n : Nat) :
    OnlyMywi h (Hw.drained h ses n) := by
  unfold Hw.drained
  (try dsimp only [Hw.when, Hw.dkRx, Hw.latRx, Hw.calBus, Hw.request, Hw.chFree, Hw.dmaCtrl])
  (repeat' (split <;> try (rename_i heq; simp only [Prod.ext_iff] at heq; obtain ⟨rfl, rfl⟩ := heq))) <;> simp [OnlyMywi]
@[simp] theorem Hw.hspiIgnored_frame (h : Hw) (n : Nat) :
    OnlyMywi h (Hw.hspiIgnored h n) := by
  unfold Hw.hspiIgnored
  (try dsimp only [Hw.when, Hw.dkRx, Hw.latRx, Hw.calBus, Hw.request, Hw.chFree, Hw.dmaCtrl])
  (repeat' (split <;> try (rename_i heq; simp only [Prod.ext_iff] at heq; obtain ⟨rfl, rfl⟩ := heq))) <;> simp [OnlyMywi]
@[simp] theorem Hw.hspiPut_frame (h : Hw) (data : List Byte) :
    OnlyMywi h (Hw.hspiPut h data) := by
  unfold Hw.hspiPut
  (try dsimp only [Hw.when, Hw.dkRx, Hw.latRx, Hw.calBus, Hw.request, Hw.chFree, Hw.dmaCtrl])
  (repeat' (split <;> try (rename_i heq; simp only [Prod.ext_iff] at heq; obtain ⟨rfl, rfl⟩ := heq))) <;> simp (disch := (intros; first | rfl | ((try dsimp only [Hw.when, Hw.dkRx, Hw.latRx, Hw.calBus, Hw.request, Hw.chFree, Hw.dmaCtrl]); first | rfl | ((repeat' (split <;> try (rename_i heq; simp only [Prod.ext_iff] at heq; obtain ⟨rfl, rfl⟩ := heq))) <;> first | rfl | (try simp))))) [OnlyMywi, foldl_time, foldl_sys, foldl_wave, foldl_note, foldl_mywi, foldl_txn, foldl_sett, foldl_ref, foldl_steer, foldl_sealU, foldl_store, foldl_keep, foldl_keepSeed, foldl_evt, foldl_port, foldl_prong, foldl_pwr, foldl_cal, foldl_out, foldl_lat, foldl_deck, foldl_ibex, foldl_dma, foldl_tally, foldl_img, foldl_free]
@[simp] theorem Hw.deckStep_frame (h : Hw) :
    OnlyDeck h (Hw.deckStep h) := by
  unfold Hw.deckStep
  (try dsimp only [Hw.when, Hw.dkRx, Hw.latRx, Hw.calBus, Hw.request, Hw.chFree, Hw.dmaCtrl])
  (repeat' (split <;> try (rename_i heq; simp only [Prod.ext_iff] at heq; obtain ⟨rfl, rfl⟩ := heq))) <;> simp (disch := (intros; first | rfl | ((try dsimp only [Hw.when, Hw.dkRx, Hw.latRx, Hw.calBus, Hw.request, Hw.chFree, Hw.dmaCtrl]); first | rfl | ((repeat' (split <;> try (rename_i heq; simp only [Prod.ext_iff] at heq; obtain ⟨rfl, rfl⟩ := heq))) <;> first | rfl | (try simp))))) [OnlyDeck, foldl_time, foldl_sys, foldl_wave, foldl_note, foldl_mywi, foldl_txn, foldl_sett, foldl_ref, foldl_steer, foldl_sealU, foldl_store, foldl_keep, foldl_keepSeed, foldl_evt, foldl_port, foldl_prong, foldl_pwr, foldl_cal, foldl_out, foldl_lat, foldl_deck, foldl_ibex, foldl_dma, foldl_tally, foldl_img, foldl_free]
@[simp] theorem Hw.pcount_frame (h : Hw) (g : Fin 4) (k : Fin 18) :
    OnlyNoteMywiProngTally h (Hw.pcount h g k) := by
  unfold Hw.pcount
  (try dsimp only [Hw.when, Hw.dkRx, Hw.latRx, Hw.calBus, Hw.request, Hw.chFree, Hw.dmaCtrl])
  (repeat' (split <;> try (rename_i heq; simp only [Prod.ext_iff] at heq; obtain ⟨rfl, rfl⟩ := heq))) <;> simp [OnlyNoteMywiProngTally]
@[simp] theorem Hw.tallyStep_frame (h : Hw) :
    OnlyTally h (Hw.tallyStep h) := by
  unfold Hw.tallyStep
  (try dsimp only [Hw.when, Hw.dkRx, Hw.latRx, Hw.calBus, Hw.request, Hw.chFree, Hw.dmaCtrl])
  (repeat' (split <;> try (rename_i heq; simp only [Prod.ext_iff] at heq; obtain ⟨rfl, rfl⟩ := heq))) <;> simp [OnlyTally]
@[simp] theorem Hw.book_frame (h : Hw) (o : Int) :
    OnlySteer h (Hw.book h o) := by
  unfold Hw.book
  (try dsimp only [Hw.when, Hw.dkRx, Hw.latRx, Hw.calBus, Hw.request, Hw.chFree, Hw.dmaCtrl])
  (repeat' (split <;> try (rename_i heq; simp only [Prod.ext_iff] at heq; obtain ⟨rfl, rfl⟩ := heq))) <;> simp [OnlySteer]
@[simp] theorem Hw.enterBw_frame (h : Hw) (want : Nat) (step : Nat) :
    OnlyNoteMywiSteer h (Hw.enterBw h want step) := by
  unfold Hw.enterBw
  (try dsimp only [Hw.when, Hw.dkRx, Hw.latRx, Hw.calBus, Hw.request, Hw.chFree, Hw.dmaCtrl])
  (repeat' (split <;> try (rename_i heq; simp only [Prod.ext_iff] at heq; obtain ⟨rfl, rfl⟩ := heq))) <;> simp [OnlyNoteMywiSteer]
@[simp] theorem Hw.rnd_frame (h : Hw) (num : Int) (den : Nat) :
    OnlyFree h (Hw.rnd h num den).2 := by
  unfold Hw.rnd
  (try dsimp only [Hw.when, Hw.dkRx, Hw.latRx, Hw.calBus, Hw.request, Hw.chFree, Hw.dmaCtrl])
  (repeat' (split <;> try (rename_i heq; simp only [Prod.ext_iff] at heq; obtain ⟨rfl, rfl⟩ := heq))) <;> simp [OnlyFree]
@[simp] theorem Hw.yPred_frame (h : Hw) :
    OnlyFree h (Hw.yPred h).2 := by
  unfold Hw.yPred
  (try dsimp only [Hw.when, Hw.dkRx, Hw.latRx, Hw.calBus, Hw.request, Hw.chFree, Hw.dmaCtrl])
  (repeat' (split <;> try (rename_i heq; simp only [Prod.ext_iff] at heq; obtain ⟨rfl, rfl⟩ := heq))) <;> simp [OnlyFree]
@[simp] theorem Hw.yModel_frame (h : Hw) :
    OnlyFree h (Hw.yModel h).2 := by
  unfold Hw.yModel
  (try dsimp only [Hw.when, Hw.dkRx, Hw.latRx, Hw.calBus, Hw.request, Hw.chFree, Hw.dmaCtrl])
  (repeat' (split <;> try (rename_i heq; simp only [Prod.ext_iff] at heq; obtain ⟨rfl, rfl⟩ := heq))) <;> simp [OnlyFree]
@[simp] theorem Hw.startAcquire_frame (h : Hw) :
    OnlyNoteMywiSteerFree h (Hw.startAcquire h) := by
  unfold Hw.startAcquire
  (try dsimp only [Hw.when, Hw.dkRx, Hw.latRx, Hw.calBus, Hw.request, Hw.chFree, Hw.dmaCtrl])
  (repeat' (split <;> try (rename_i heq; simp only [Prod.ext_iff] at heq; obtain ⟨rfl, rfl⟩ := heq))) <;> simp [OnlyNoteMywiSteerFree]
@[simp] theorem Hw.startTrack_frame (h : Hw) (free : Bool) :
    OnlyNoteMywiSteerFree h (Hw.startTrack h free) := by
  unfold Hw.startTrack
  (try dsimp only [Hw.when, Hw.dkRx, Hw.latRx, Hw.calBus, Hw.request, Hw.chFree, Hw.dmaCtrl])
  (repeat' (split <;> try (rename_i heq; simp only [Prod.ext_iff] at heq; obtain ⟨rfl, rfl⟩ := heq))) <;> simp [OnlyNoteMywiSteerFree]
@[simp] theorem Hw.stateNotice_frame (h : Hw) (old : Trust) :
    OnlyNoteMywiEvt h (Hw.stateNotice h old) := by
  unfold Hw.stateNotice
  (try dsimp only [Hw.when, Hw.dkRx, Hw.latRx, Hw.calBus, Hw.request, Hw.chFree, Hw.dmaCtrl])
  (repeat' (split <;> try (rename_i heq; simp only [Prod.ext_iff] at heq; obtain ⟨rfl, rfl⟩ := heq))) <;> simp [OnlyNoteMywiEvt]
@[simp] theorem Hw.integrate_frame (h : Hw) :
    OnlySteer h (Hw.integrate h) := by
  unfold Hw.integrate
  (try dsimp only [Hw.when, Hw.dkRx, Hw.latRx, Hw.calBus, Hw.request, Hw.chFree, Hw.dmaCtrl])
  (repeat' (split <;> try (rename_i heq; simp only [Prod.ext_iff] at heq; obtain ⟨rfl, rfl⟩ := heq))) <;> simp [OnlySteer]
@[simp] theorem Hw.rampTick_frame (h : Hw) :
    OnlySteer h (Hw.rampTick h) := by
  unfold Hw.rampTick
  (try dsimp only [Hw.when, Hw.dkRx, Hw.latRx, Hw.calBus, Hw.request, Hw.chFree, Hw.dmaCtrl])
  (repeat' (split <;> try (rename_i heq; simp only [Prod.ext_iff] at heq; obtain ⟨rfl, rfl⟩ := heq))) <;> simp [OnlySteer]
@[simp] theorem Hw.advance_frame (h : Hw) :
    OnlyTimeNoteMywiSteerEvtTally h (Hw.advance h) := by
  unfold Hw.advance
  (try dsimp only [Hw.when, Hw.dkRx, Hw.latRx, Hw.calBus, Hw.request, Hw.chFree, Hw.dmaCtrl])
  (repeat' (split <;> try (rename_i heq; simp only [Prod.ext_iff] at heq; obtain ⟨rfl, rfl⟩ := heq))) <;> simp [OnlyTimeNoteMywiSteerEvtTally]
@[simp] theorem Hw.signRecord_frame (h : Hw) :
    OnlyNoteMywiSealUStoreTally h (Hw.signRecord h) := by
  unfold Hw.signRecord
  (try dsimp only [Hw.when, Hw.dkRx, Hw.latRx, Hw.calBus, Hw.request, Hw.chFree, Hw.dmaCtrl])
  (repeat' (split <;> try (rename_i heq; simp only [Prod.ext_iff] at heq; obtain ⟨rfl, rfl⟩ := heq))) <;> simp [OnlyNoteMywiSealUStoreTally]
@[simp] theorem Hw.freeze_frame (h : Hw) :
    OnlySteerFree h (Hw.freeze h) := by
  unfold Hw.freeze
  (try dsimp only [Hw.when, Hw.dkRx, Hw.latRx, Hw.calBus, Hw.request, Hw.chFree, Hw.dmaCtrl])
  (repeat' (split <;> try (rename_i heq; simp only [Prod.ext_iff] at heq; obtain ⟨rfl, rfl⟩ := heq))) <;> simp [OnlySteerFree]
@[simp] theorem Hw.markEntry_frame (h : Hw) (old : Trust) (new : Trust) (prev : Nat) :
    OnlyTimeSteerFree h (Hw.markEntry h old new prev) := by
  unfold Hw.markEntry
  (try dsimp only [Hw.when, Hw.dkRx, Hw.latRx, Hw.calBus, Hw.request, Hw.chFree, Hw.dmaCtrl])
  (repeat' (split <;> try (rename_i heq; simp only [Prod.ext_iff] at heq; obtain ⟨rfl, rfl⟩ := heq))) <;> simp [OnlyTimeSteerFree]
@[simp] theorem Hw.tickLimits_frame (h : Hw) :
    OnlyTimeNoteMywiSteer h (Hw.tickLimits h) := by
  unfold Hw.tickLimits
  (try dsimp only [Hw.when, Hw.dkRx, Hw.latRx, Hw.calBus, Hw.request, Hw.chFree, Hw.dmaCtrl])
  (repeat' (split <;> try (rename_i heq; simp only [Prod.ext_iff] at heq; obtain ⟨rfl, rfl⟩ := heq))) <;> simp [OnlyTimeNoteMywiSteer]
@[simp] theorem Hw.doLeap_frame (h : Hw) :
    OnlyTimeNoteMywiRef h (Hw.doLeap h) := by
  unfold Hw.doLeap
  (try dsimp only [Hw.when, Hw.dkRx, Hw.latRx, Hw.calBus, Hw.request, Hw.chFree, Hw.dmaCtrl])
  (repeat' (split <;> try (rename_i heq; simp only [Prod.ext_iff] at heq; obtain ⟨rfl, rfl⟩ := heq))) <;> simp [OnlyTimeNoteMywiRef]
@[simp] theorem Hw.sendEsmc_frame (h : Hw) (p : Fin 4) (event : Bool) :
    OnlyNoteMywiPortTally h (Hw.sendEsmc h p event) := by
  unfold Hw.sendEsmc
  (try dsimp only [Hw.when, Hw.dkRx, Hw.latRx, Hw.calBus, Hw.request, Hw.chFree, Hw.dmaCtrl])
  (repeat' (split <;> try (rename_i heq; simp only [Prod.ext_iff] at heq; obtain ⟨rfl, rfl⟩ := heq))) <;> simp [OnlyNoteMywiPortTally]
@[simp] theorem Hw.esmcEvents_frame (h : Hw) :
    OnlyNoteMywiPortTally h (Hw.esmcEvents h) := by
  unfold Hw.esmcEvents
  (try dsimp only [Hw.when, Hw.dkRx, Hw.latRx, Hw.calBus, Hw.request, Hw.chFree, Hw.dmaCtrl])
  (repeat' (split <;> try (rename_i heq; simp only [Prod.ext_iff] at heq; obtain ⟨rfl, rfl⟩ := heq))) <;> simp (disch := (intros; first | rfl | ((try dsimp only [Hw.when, Hw.dkRx, Hw.latRx, Hw.calBus, Hw.request, Hw.chFree, Hw.dmaCtrl]); first | rfl | ((repeat' (split <;> try (rename_i heq; simp only [Prod.ext_iff] at heq; obtain ⟨rfl, rfl⟩ := heq))) <;> first | rfl | (try simp))))) [OnlyNoteMywiPortTally, foldl_time, foldl_sys, foldl_wave, foldl_note, foldl_mywi, foldl_txn, foldl_sett, foldl_ref, foldl_steer, foldl_sealU, foldl_store, foldl_keep, foldl_keepSeed, foldl_evt, foldl_port, foldl_prong, foldl_pwr, foldl_cal, foldl_out, foldl_lat, foldl_deck, foldl_ibex, foldl_dma, foldl_tally, foldl_img, foldl_free]
@[simp] theorem Hw.loseRef_frame (h : Hw) (i : Fin 20) (c : DownCause) :
    OnlyNoteMywiRef h (Hw.loseRef h i c) := by
  unfold Hw.loseRef
  (try dsimp only [Hw.when, Hw.dkRx, Hw.latRx, Hw.calBus, Hw.request, Hw.chFree, Hw.dmaCtrl])
  (repeat' (split <;> try (rename_i heq; simp only [Prod.ext_iff] at heq; obtain ⟨rfl, rfl⟩ := heq))) <;> simp [OnlyNoteMywiRef]
@[simp] theorem Hw.riseTql_frame (h : Hw) (i : Fin 20) :
    OnlyNoteMywiRef h (Hw.riseTql h i) := by
  unfold Hw.riseTql
  (try dsimp only [Hw.when, Hw.dkRx, Hw.latRx, Hw.calBus, Hw.request, Hw.chFree, Hw.dmaCtrl])
  (repeat' (split <;> try (rename_i heq; simp only [Prod.ext_iff] at heq; obtain ⟨rfl, rfl⟩ := heq))) <;> simp [OnlyNoteMywiRef]
@[simp] theorem Hw.select_frame (h : Hw) (old : Option (Fin 20)) (new : Option (Fin 20)) (lost : Bool) :
    OnlyTimeNoteMywiRef h (Hw.select h old new lost) := by
  unfold Hw.select
  (try dsimp only [Hw.when, Hw.dkRx, Hw.latRx, Hw.calBus, Hw.request, Hw.chFree, Hw.dmaCtrl])
  (repeat' (split <;> try (rename_i heq; simp only [Prod.ext_iff] at heq; obtain ⟨rfl, rfl⟩ := heq))) <;> simp [OnlyTimeNoteMywiRef]
@[simp] theorem Hw.runSelection_frame (h : Hw) (old : Option (Fin 20)) (lost : Bool) :
    OnlyTimeNoteMywiRef h (Hw.runSelection h old lost) := by
  unfold Hw.runSelection
  (try dsimp only [Hw.when, Hw.dkRx, Hw.latRx, Hw.calBus, Hw.request, Hw.chFree, Hw.dmaCtrl])
  (repeat' (split <;> try (rename_i heq; simp only [Prod.ext_iff] at heq; obtain ⟨rfl, rfl⟩ := heq))) <;> simp (disch := (intros; first | rfl | ((try dsimp only [Hw.when, Hw.dkRx, Hw.latRx, Hw.calBus, Hw.request, Hw.chFree, Hw.dmaCtrl]); first | rfl | ((repeat' (split <;> try (rename_i heq; simp only [Prod.ext_iff] at heq; obtain ⟨rfl, rfl⟩ := heq))) <;> first | rfl | (try simp))))) [OnlyTimeNoteMywiRef, foldl_time, foldl_sys, foldl_wave, foldl_note, foldl_mywi, foldl_txn, foldl_sett, foldl_ref, foldl_steer, foldl_sealU, foldl_store, foldl_keep, foldl_keepSeed, foldl_evt, foldl_port, foldl_prong, foldl_pwr, foldl_cal, foldl_out, foldl_lat, foldl_deck, foldl_ibex, foldl_dma, foldl_tally, foldl_img, foldl_free]
@[simp] theorem Hw.loseNow_frame (h : Hw) (i : Fin 20) (c : DownCause) :
    OnlyTimeNoteMywiRef h (Hw.loseNow h i c) := by
  unfold Hw.loseNow
  (try dsimp only [Hw.when, Hw.dkRx, Hw.latRx, Hw.calBus, Hw.request, Hw.chFree, Hw.dmaCtrl])
  (repeat' (split <;> try (rename_i heq; simp only [Prod.ext_iff] at heq; obtain ⟨rfl, rfl⟩ := heq))) <;> simp [OnlyTimeNoteMywiRef]
@[simp] theorem Hw.tickAfter_frame (h : Hw) (old : Trust) :
    OnlyTimeNoteMywiRefSealUStorePortProngTally h (Hw.tickAfter h old) := by
  unfold Hw.tickAfter
  (try dsimp only [Hw.when, Hw.dkRx, Hw.latRx, Hw.calBus, Hw.request, Hw.chFree, Hw.dmaCtrl])
  (repeat' (split <;> try (rename_i heq; simp only [Prod.ext_iff] at heq; obtain ⟨rfl, rfl⟩ := heq))) <;> simp [OnlyTimeNoteMywiRefSealUStorePortProngTally]
@[simp] theorem Hw.axisNow_frame (h : Hw) (sub : Nat) :
    OnlyTime h (Hw.axisNow h sub).2 := by
  unfold Hw.axisNow
  (try dsimp only [Hw.when, Hw.dkRx, Hw.latRx, Hw.calBus, Hw.request, Hw.chFree, Hw.dmaCtrl])
  (repeat' (split <;> try (rename_i heq; simp only [Prod.ext_iff] at heq; obtain ⟨rfl, rfl⟩ := heq))) <;> simp [OnlyTime]
@[simp] theorem Hw.dkCount_frame (h : Hw) (n : Fin 2) (k : Fin 9) :
    OnlyNoteMywiDeckTally h (Hw.dkCount h n k) := by
  unfold Hw.dkCount
  (try dsimp only [Hw.when, Hw.dkRx, Hw.latRx, Hw.calBus, Hw.request, Hw.chFree, Hw.dmaCtrl])
  (repeat' (split <;> try (rename_i heq; simp only [Prod.ext_iff] at heq; obtain ⟨rfl, rfl⟩ := heq))) <;> simp [OnlyNoteMywiDeckTally]
@[simp] theorem Hw.memberNote_frame (h : Hw) (n : Fin 2) (a : Nat) (mid : Nat) (ev : String) :
    OnlyNoteMywi h (Hw.memberNote h n a mid ev) := by
  unfold Hw.memberNote
  (try dsimp only [Hw.when, Hw.dkRx, Hw.latRx, Hw.calBus, Hw.request, Hw.chFree, Hw.dmaCtrl])
  (repeat' (split <;> try (rename_i heq; simp only [Prod.ext_iff] at heq; obtain ⟨rfl, rfl⟩ := heq))) <;> simp [OnlyNoteMywi]
@[simp] theorem Hw.txCheck_frame (h : Hw) (n : Fin 2) (i : Word) :
    OnlySysNoteMywiSealUStoreDeckTally h (Hw.txCheck h n i) := by
  unfold Hw.txCheck
  (try dsimp only [Hw.when, Hw.dkRx, Hw.latRx, Hw.calBus, Hw.request, Hw.chFree, Hw.dmaCtrl])
  (repeat' (split <;> try (rename_i heq; simp only [Prod.ext_iff] at heq; obtain ⟨rfl, rfl⟩ := heq))) <;> simp [OnlySysNoteMywiSealUStoreDeckTally]
@[simp] theorem Hw.txRecheck_frame (h : Hw) (n : Fin 2) :
    OnlySysNoteMywiSealUStoreEvtDeckTally h (Hw.txRecheck h n) := by
  unfold Hw.txRecheck
  (try dsimp only [Hw.when, Hw.dkRx, Hw.latRx, Hw.calBus, Hw.request, Hw.chFree, Hw.dmaCtrl])
  (repeat' (split <;> try (rename_i heq; simp only [Prod.ext_iff] at heq; obtain ⟨rfl, rfl⟩ := heq))) <;> simp (disch := (intros; first | rfl | ((try dsimp only [Hw.when, Hw.dkRx, Hw.latRx, Hw.calBus, Hw.request, Hw.chFree, Hw.dmaCtrl]); first | rfl | ((repeat' (split <;> try (rename_i heq; simp only [Prod.ext_iff] at heq; obtain ⟨rfl, rfl⟩ := heq))) <;> first | rfl | (try simp))))) [OnlySysNoteMywiSealUStoreEvtDeckTally, foldl_time, foldl_sys, foldl_wave, foldl_note, foldl_mywi, foldl_txn, foldl_sett, foldl_ref, foldl_steer, foldl_sealU, foldl_store, foldl_keep, foldl_keepSeed, foldl_evt, foldl_port, foldl_prong, foldl_pwr, foldl_cal, foldl_out, foldl_lat, foldl_deck, foldl_ibex, foldl_dma, foldl_tally, foldl_img, foldl_free]
@[simp] theorem Hw.txTake_frame (h : Hw) (n : Fin 2) :
    OnlySysNoteMywiSealUStoreEvtDeckTally h (Hw.txTake h n) := by
  unfold Hw.txTake
  (try dsimp only [Hw.when, Hw.dkRx, Hw.latRx, Hw.calBus, Hw.request, Hw.chFree, Hw.dmaCtrl])
  (repeat' (split <;> try (rename_i heq; simp only [Prod.ext_iff] at heq; obtain ⟨rfl, rfl⟩ := heq))) <;> simp (disch := (intros; first | rfl | ((try dsimp only [Hw.when, Hw.dkRx, Hw.latRx, Hw.calBus, Hw.request, Hw.chFree, Hw.dmaCtrl]); first | rfl | ((repeat' (split <;> try (rename_i heq; simp only [Prod.ext_iff] at heq; obtain ⟨rfl, rfl⟩ := heq))) <;> first | rfl | (try simp))))) [OnlySysNoteMywiSealUStoreEvtDeckTally, foldl_time, foldl_sys, foldl_wave, foldl_note, foldl_mywi, foldl_txn, foldl_sett, foldl_ref, foldl_steer, foldl_sealU, foldl_store, foldl_keep, foldl_keepSeed, foldl_evt, foldl_port, foldl_prong, foldl_pwr, foldl_cal, foldl_out, foldl_lat, foldl_deck, foldl_ibex, foldl_dma, foldl_tally, foldl_img, foldl_free]
@[simp] theorem Hw.deckTxProd_frame (h : Hw) (n : Fin 2) (v : Word) :
    OnlySysNoteMywiSealUStoreEvtDeckTally h (Hw.deckTxProd h n v) := by
  unfold Hw.deckTxProd
  (try dsimp only [Hw.when, Hw.dkRx, Hw.latRx, Hw.calBus, Hw.request, Hw.chFree, Hw.dmaCtrl])
  (repeat' (split <;> try (rename_i heq; simp only [Prod.ext_iff] at heq; obtain ⟨rfl, rfl⟩ := heq))) <;> simp [OnlySysNoteMywiSealUStoreEvtDeckTally]
@[simp] theorem Hw.rxPut_frame (h : Hw) (n : Fin 2) (f : List Byte) (t : Nat) :
    OnlySysNoteMywiSealUStoreEvtDeckTally h (Hw.rxPut h n f t) := by
  unfold Hw.rxPut
  (try dsimp only [Hw.when, Hw.dkRx, Hw.latRx, Hw.calBus, Hw.request, Hw.chFree, Hw.dmaCtrl])
  (repeat' (split <;> try (rename_i heq; simp only [Prod.ext_iff] at heq; obtain ⟨rfl, rfl⟩ := heq))) <;> simp [OnlySysNoteMywiSealUStoreEvtDeckTally]
@[simp] theorem Hw.echoed_frame (h : Hw) (n : Fin 2) (ns : Nat) :
    OnlyNoteMywiDeck h (Hw.echoed h n ns) := by
  unfold Hw.echoed
  (try dsimp only [Hw.when, Hw.dkRx, Hw.latRx, Hw.calBus, Hw.request, Hw.chFree, Hw.dmaCtrl])
  (repeat' (split <;> try (rename_i heq; simp only [Prod.ext_iff] at heq; obtain ⟨rfl, rfl⟩ := heq))) <;> simp [OnlyNoteMywiDeck]
@[simp] theorem Hw.dkPut_frame (h : Hw) (n : Fin 2) (off : Nat) (f : List Byte) :
    OnlyNoteMywiDeckTally h (Hw.dkPut h n off f) := by
  unfold Hw.dkPut
  (try dsimp only [Hw.when, Hw.dkRx, Hw.latRx, Hw.calBus, Hw.request, Hw.chFree, Hw.dmaCtrl])
  (repeat' (split <;> try (rename_i heq; simp only [Prod.ext_iff] at heq; obtain ⟨rfl, rfl⟩ := heq))) <;> simp [OnlyNoteMywiDeckTally]
@[simp] theorem Hw.dkSent_frame (h : Hw) (n : Fin 2) (x : DkNext) :
    OnlySysNoteMywiSealUStoreEvtDeckTally h (Hw.dkSent h n x) := by
  unfold Hw.dkSent
  (try dsimp only [Hw.when, Hw.dkRx, Hw.latRx, Hw.calBus, Hw.request, Hw.chFree, Hw.dmaCtrl])
  (repeat' (split <;> try (rename_i heq; simp only [Prod.ext_iff] at heq; obtain ⟨rfl, rfl⟩ := heq))) <;> simp [OnlySysNoteMywiSealUStoreEvtDeckTally]
@[simp] theorem Hw.ownUpreq_frame (h : Hw) (n : Fin 2) :
    OnlySysNoteMywiSealUStoreDeckTally h (Hw.ownUpreq h n) := by
  unfold Hw.ownUpreq
  (try dsimp only [Hw.when, Hw.dkRx, Hw.latRx, Hw.calBus, Hw.request, Hw.chFree, Hw.dmaCtrl])
  (repeat' (split <;> try (rename_i heq; simp only [Prod.ext_iff] at heq; obtain ⟨rfl, rfl⟩ := heq))) <;> simp [OnlySysNoteMywiSealUStoreDeckTally]
@[simp] theorem Hw.drawBackoff_frame (h : Hw) (n : Fin 2) (k : Nat) :
    OnlyDeckFree h (Hw.drawBackoff h n k) := by
  unfold Hw.drawBackoff
  (try dsimp only [Hw.when, Hw.dkRx, Hw.latRx, Hw.calBus, Hw.request, Hw.chFree, Hw.dmaCtrl])
  (repeat' (split <;> try (rename_i heq; simp only [Prod.ext_iff] at heq; obtain ⟨rfl, rfl⟩ := heq))) <;> simp [OnlyDeckFree]
@[simp] theorem Hw.nextRate_frame (h : Hw) (n : Fin 2) :
    OnlyNoteMywiDeckTally h (Hw.nextRate h n) := by
  unfold Hw.nextRate
  (try dsimp only [Hw.when, Hw.dkRx, Hw.latRx, Hw.calBus, Hw.request, Hw.chFree, Hw.dmaCtrl])
  (repeat' (split <;> try (rename_i heq; simp only [Prod.ext_iff] at heq; obtain ⟨rfl, rfl⟩ := heq))) <;> simp [OnlyNoteMywiDeckTally]
@[simp] theorem Hw.nextPlan_frame (h : Hw) (n : Fin 2) :
    OnlySysNoteMywiSealUStoreEvtDeckTally h (Hw.nextPlan h n) := by
  unfold Hw.nextPlan
  (try dsimp only [Hw.when, Hw.dkRx, Hw.latRx, Hw.calBus, Hw.request, Hw.chFree, Hw.dmaCtrl])
  (repeat' (split <;> try (rename_i heq; simp only [Prod.ext_iff] at heq; obtain ⟨rfl, rfl⟩ := heq))) <;> simp [OnlySysNoteMywiSealUStoreEvtDeckTally]
@[simp] theorem Hw.sendBeacon_frame (h : Hw) (n : Fin 2) (e : Echo) :
    OnlyNoteMywiDeckTally h (Hw.sendBeacon h n e) := by
  unfold Hw.sendBeacon
  (try dsimp only [Hw.when, Hw.dkRx, Hw.latRx, Hw.calBus, Hw.request, Hw.chFree, Hw.dmaCtrl])
  (repeat' (split <;> try (rename_i heq; simp only [Prod.ext_iff] at heq; obtain ⟨rfl, rfl⟩ := heq))) <;> simp [OnlyNoteMywiDeckTally]
@[simp] theorem Hw.memberFrame_frame (h : Hw) (n : Fin 2) (f : List Byte) (sub : Nat) :
    OnlyNoteMywiDeckTally h (Hw.memberFrame h n f sub) := by
  unfold Hw.memberFrame
  (try dsimp only [Hw.when, Hw.dkRx, Hw.latRx, Hw.calBus, Hw.request, Hw.chFree, Hw.dmaCtrl])
  (repeat' (split <;> try (rename_i heq; simp only [Prod.ext_iff] at heq; obtain ⟨rfl, rfl⟩ := heq))) <;> simp [OnlyNoteMywiDeckTally]
@[simp] theorem Hw.dropMember_frame (h : Hw) (n : Fin 2) (a : Nat) (ev : String) :
    OnlySysNoteMywiSealUStoreEvtDeckTally h (Hw.dropMember h n a ev) := by
  unfold Hw.dropMember
  (try dsimp only [Hw.when, Hw.dkRx, Hw.latRx, Hw.calBus, Hw.request, Hw.chFree, Hw.dmaCtrl])
  (repeat' (split <;> try (rename_i heq; simp only [Prod.ext_iff] at heq; obtain ⟨rfl, rfl⟩ := heq))) <;> simp [OnlySysNoteMywiSealUStoreEvtDeckTally]
@[simp] theorem Hw.lostCoord_frame (h : Hw) (n : Fin 2) :
    OnlyNoteMywiRefDeck h (Hw.lostCoord h n) := by
  unfold Hw.lostCoord
  (try dsimp only [Hw.when, Hw.dkRx, Hw.latRx, Hw.calBus, Hw.request, Hw.chFree, Hw.dmaCtrl])
  (repeat' (split <;> try (rename_i heq; simp only [Prod.ext_iff] at heq; obtain ⟨rfl, rfl⟩ := heq))) <;> simp [OnlyNoteMywiRefDeck]
@[simp] theorem Hw.withdrawLeap_frame (h : Hw) :
    OnlyTimeNoteMywi h (Hw.withdrawLeap h) := by
  unfold Hw.withdrawLeap
  (try dsimp only [Hw.when, Hw.dkRx, Hw.latRx, Hw.calBus, Hw.request, Hw.chFree, Hw.dmaCtrl])
  (repeat' (split <;> try (rename_i heq; simp only [Prod.ext_iff] at heq; obtain ⟨rfl, rfl⟩ := heq))) <;> simp [OnlyTimeNoteMywi]
@[simp] theorem Hw.refLeap_frame (h : Hw) (i : Fin 20) (dir : Nat) (at_ : Option Nat) :
    OnlyTimeNoteMywi h (Hw.refLeap h i dir at_) := by
  unfold Hw.refLeap
  (try dsimp only [Hw.when, Hw.dkRx, Hw.latRx, Hw.calBus, Hw.request, Hw.chFree, Hw.dmaCtrl])
  (repeat' (split <;> try (rename_i heq; simp only [Prod.ext_iff] at heq; obtain ⟨rfl, rfl⟩ := heq))) <;> simp [OnlyTimeNoteMywi]
@[simp] theorem Hw.reportOff_frame (h : Hw) (i : Fin 20) (v : Option Int) :
    OnlyTimeNoteMywiRef h (Hw.reportOff h i v) := by
  unfold Hw.reportOff
  (try dsimp only [Hw.when, Hw.dkRx, Hw.latRx, Hw.calBus, Hw.request, Hw.chFree, Hw.dmaCtrl])
  (repeat' (split <;> try (rename_i heq; simp only [Prod.ext_iff] at heq; obtain ⟨rfl, rfl⟩ := heq))) <;> simp [OnlyTimeNoteMywiRef]
@[simp] theorem Hw.becomeCand_frame (h : Hw) (i : Fin 20) :
    OnlyNoteMywiRef h (Hw.becomeCand h i) := by
  unfold Hw.becomeCand
  (try dsimp only [Hw.when, Hw.dkRx, Hw.latRx, Hw.calBus, Hw.request, Hw.chFree, Hw.dmaCtrl])
  (repeat' (split <;> try (rename_i heq; simp only [Prod.ext_iff] at heq; obtain ⟨rfl, rfl⟩ := heq))) <;> simp [OnlyNoteMywiRef]
@[simp] theorem Hw.tryQualify_frame (h : Hw) (i : Fin 20) :
    OnlyNoteMywiRef h (Hw.tryQualify h i) := by
  unfold Hw.tryQualify
  (try dsimp only [Hw.when, Hw.dkRx, Hw.latRx, Hw.calBus, Hw.request, Hw.chFree, Hw.dmaCtrl])
  (repeat' (split <;> try (rename_i heq; simp only [Prod.ext_iff] at heq; obtain ⟨rfl, rfl⟩ := heq))) <;> simp [OnlyNoteMywiRef]
@[simp] theorem Hw.deckQuality_frame (h : Hw) (n : Fin 2) (p : List Byte) (rate : Nat) :
    OnlyTimeNoteMywiRef h (Hw.deckQuality h n p rate) := by
  unfold Hw.deckQuality
  (try dsimp only [Hw.when, Hw.dkRx, Hw.latRx, Hw.calBus, Hw.request, Hw.chFree, Hw.dmaCtrl])
  (repeat' (split <;> try (rename_i heq; simp only [Prod.ext_iff] at heq; obtain ⟨rfl, rfl⟩ := heq))) <;> simp [OnlyTimeNoteMywiRef]
@[simp] theorem Hw.followBeacon_frame (h : Hw) (n : Fin 2) (p : List Byte) (rate : Nat) (start : Int) :
    OnlySysNoteMywiSealUStoreEvtDeckTally h (Hw.followBeacon h n p rate start) := by
  unfold Hw.followBeacon
  (try dsimp only [Hw.when, Hw.dkRx, Hw.latRx, Hw.calBus, Hw.request, Hw.chFree, Hw.dmaCtrl])
  (repeat' (split <;> try (rename_i heq; simp only [Prod.ext_iff] at heq; obtain ⟨rfl, rfl⟩ := heq))) <;> simp [OnlySysNoteMywiSealUStoreEvtDeckTally]
@[simp] theorem Hw.sealBucket_frame (h : Hw) (n : Fin 2) (a : Nat) :
    OnlyDeck h (Hw.sealBucket h n a).2 := by
  unfold Hw.sealBucket
  (try dsimp only [Hw.when, Hw.dkRx, Hw.latRx, Hw.calBus, Hw.request, Hw.chFree, Hw.dmaCtrl])
  (repeat' (split <;> try (rename_i heq; simp only [Prod.ext_iff] at heq; obtain ⟨rfl, rfl⟩ := heq))) <;> simp [OnlyDeck]
@[simp] theorem Hw.dmaPoint_frame (h : Hw) (n : Fin 16) (which : Fin 2) :
    OnlyNoteMywiEvtDma h (Hw.dmaPoint h n which) := by
  unfold Hw.dmaPoint
  (try dsimp only [Hw.when, Hw.dkRx, Hw.latRx, Hw.calBus, Hw.request, Hw.chFree, Hw.dmaCtrl])
  (repeat' (split <;> try (rename_i heq; simp only [Prod.ext_iff] at heq; obtain ⟨rfl, rfl⟩ := heq))) <;> simp [OnlyNoteMywiEvtDma]
@[simp] theorem Hw.taskArrive_frame (h : Hw) (t : Fin 96) (a : Nat) :
    OnlyNoteMywiEvtTally h (Hw.taskArrive h t a) := by
  unfold Hw.taskArrive
  (try dsimp only [Hw.when, Hw.dkRx, Hw.latRx, Hw.calBus, Hw.request, Hw.chFree, Hw.dmaCtrl])
  (repeat' (split <;> try (rename_i heq; simp only [Prod.ext_iff] at heq; obtain ⟨rfl, rfl⟩ := heq))) <;> simp [OnlyNoteMywiEvtTally]
@[simp] theorem Hw.startIgn_frame (h : Hw) (n : Fin 16) :
    OnlyNote h (Hw.startIgn h n) := by
  unfold Hw.startIgn
  (try dsimp only [Hw.when, Hw.dkRx, Hw.latRx, Hw.calBus, Hw.request, Hw.chFree, Hw.dmaCtrl])
  (repeat' (split <;> try (rename_i heq; simp only [Prod.ext_iff] at heq; obtain ⟨rfl, rfl⟩ := heq))) <;> simp [OnlyNote]
@[simp] theorem Hw.dmaBegin_frame (h : Hw) (n : Fin 16) :
    OnlySysNoteMywiSealUStoreEvtDmaTally h (Hw.dmaBegin h n) := by
  unfold Hw.dmaBegin
  (try dsimp only [Hw.when, Hw.dkRx, Hw.latRx, Hw.calBus, Hw.request, Hw.chFree, Hw.dmaCtrl])
  (repeat' (split <;> try (rename_i heq; simp only [Prod.ext_iff] at heq; obtain ⟨rfl, rfl⟩ := heq))) <;> simp [OnlySysNoteMywiSealUStoreEvtDmaTally]
@[simp] theorem Hw.dmaAbort_frame (h : Hw) (n : Fin 16) :
    OnlySysNoteMywiSealUStoreEvtDmaTally h (Hw.dmaAbort h n) := by
  unfold Hw.dmaAbort
  (try dsimp only [Hw.when, Hw.dkRx, Hw.latRx, Hw.calBus, Hw.request, Hw.chFree, Hw.dmaCtrl])
  (repeat' (split <;> try (rename_i heq; simp only [Prod.ext_iff] at heq; obtain ⟨rfl, rfl⟩ := heq))) <;> simp [OnlySysNoteMywiSealUStoreEvtDmaTally]
@[simp] theorem Hw.dmaPause_frame (h : Hw) (n : Fin 16) :
    OnlyDma h (Hw.dmaPause h n) := by
  unfold Hw.dmaPause
  (try dsimp only [Hw.when, Hw.dkRx, Hw.latRx, Hw.calBus, Hw.request, Hw.chFree, Hw.dmaCtrl])
  (repeat' (split <;> try (rename_i heq; simp only [Prod.ext_iff] at heq; obtain ⟨rfl, rfl⟩ := heq))) <;> simp [OnlyDma]
@[simp] theorem Hw.dmaResume_frame (h : Hw) (n : Fin 16) :
    OnlyDma h (Hw.dmaResume h n) := by
  unfold Hw.dmaResume
  (try dsimp only [Hw.when, Hw.dkRx, Hw.latRx, Hw.calBus, Hw.request, Hw.chFree, Hw.dmaCtrl])
  (repeat' (split <;> try (rename_i heq; simp only [Prod.ext_iff] at heq; obtain ⟨rfl, rfl⟩ := heq))) <;> simp [OnlyDma]
@[simp] theorem Hw.isolatedAccess_frame (h : Hw) (block : Nat) (word : Word) :
    OnlySysNoteMywi h (Hw.isolatedAccess h block word) := by
  unfold Hw.isolatedAccess
  (try dsimp only [Hw.when, Hw.dkRx, Hw.latRx, Hw.calBus, Hw.request, Hw.chFree, Hw.dmaCtrl])
  (repeat' (split <;> try (rename_i heq; simp only [Prod.ext_iff] at heq; obtain ⟨rfl, rfl⟩ := heq))) <;> simp [OnlySysNoteMywi]
@[simp] theorem Hw.isoRecord_frame (h : Hw) (off : Nat) :
    OnlySysNoteMywi h (Hw.isoRecord h off) := by
  unfold Hw.isoRecord
  (try dsimp only [Hw.when, Hw.dkRx, Hw.latRx, Hw.calBus, Hw.request, Hw.chFree, Hw.dmaCtrl])
  (repeat' (split <;> try (rename_i heq; simp only [Prod.ext_iff] at heq; obtain ⟨rfl, rfl⟩ := heq))) <;> simp [OnlySysNoteMywi]
@[simp] theorem Hw.dmaStartNow_frame (h : Hw) (n : Fin 16) :
    OnlySysNoteMywiSealUStoreEvtDmaTally h (Hw.dmaStartNow h n) := by
  unfold Hw.dmaStartNow
  (try dsimp only [Hw.when, Hw.dkRx, Hw.latRx, Hw.calBus, Hw.request, Hw.chFree, Hw.dmaCtrl])
  (repeat' (split <;> try (rename_i heq; simp only [Prod.ext_iff] at heq; obtain ⟨rfl, rfl⟩ := heq))) <;> simp [OnlySysNoteMywiSealUStoreEvtDmaTally]
@[simp] theorem Hw.dmaMark_frame (h : Hw) (n : Fin 16) :
    OnlyNoteMywiDma h (Hw.dmaMark h n) := by
  unfold Hw.dmaMark
  (try dsimp only [Hw.when, Hw.dkRx, Hw.latRx, Hw.calBus, Hw.request, Hw.chFree, Hw.dmaCtrl])
  (repeat' (split <;> try (rename_i heq; simp only [Prod.ext_iff] at heq; obtain ⟨rfl, rfl⟩ := heq))) <;> simp [OnlyNoteMywiDma]
@[simp] theorem Hw.dmaHostPut_frame (h : Hw) (n : Fin 16) (v : Word) :
    OnlyNoteMywiDma h (Hw.dmaHostPut h n v) := by
  unfold Hw.dmaHostPut
  (try dsimp only [Hw.when, Hw.dkRx, Hw.latRx, Hw.calBus, Hw.request, Hw.chFree, Hw.dmaCtrl])
  (repeat' (split <;> try (rename_i heq; simp only [Prod.ext_iff] at heq; obtain ⟨rfl, rfl⟩ := heq))) <;> simp [OnlyNoteMywiDma]
@[simp] theorem Hw.dmaMoved_frame (h : Hw) (n : Fin 16) (len : Nat) :
    OnlyNoteMywiEvtDmaTally h (Hw.dmaMoved h n len) := by
  unfold Hw.dmaMoved
  (try dsimp only [Hw.when, Hw.dkRx, Hw.latRx, Hw.calBus, Hw.request, Hw.chFree, Hw.dmaCtrl])
  (repeat' (split <;> try (rename_i heq; simp only [Prod.ext_iff] at heq; obtain ⟨rfl, rfl⟩ := heq))) <;> simp [OnlyNoteMywiEvtDmaTally]
@[simp] theorem Hw.dmaWrite_frame (h : Hw) (n : Fin 16) (f : DmaCh → DmaCh) :
    OnlyNoteMywiDma h (Hw.dmaWrite h n f) := by
  unfold Hw.dmaWrite
  (try dsimp only [Hw.when, Hw.dkRx, Hw.latRx, Hw.calBus, Hw.request, Hw.chFree, Hw.dmaCtrl])
  (repeat' (split <;> try (rename_i heq; simp only [Prod.ext_iff] at heq; obtain ⟨rfl, rfl⟩ := heq))) <;> simp [OnlyNoteMywiDma]
@[simp] theorem Hw.dmaMarkWrite_frame (h : Hw) (n : Fin 16) (off : Nat) (f : DmaCh → DmaCh) :
    OnlyNoteMywiDma h (Hw.dmaMarkWrite h n off f) := by
  unfold Hw.dmaMarkWrite
  (try dsimp only [Hw.when, Hw.dkRx, Hw.latRx, Hw.calBus, Hw.request, Hw.chFree, Hw.dmaCtrl])
  (repeat' (split <;> try (rename_i heq; simp only [Prod.ext_iff] at heq; obtain ⟨rfl, rfl⟩ := heq))) <;> simp [OnlyNoteMywiDma]
@[simp] theorem Hw.sealSample_frame (h : Hw) (k : Fin 8) :
    OnlyNoteSealU h (Hw.sealSample h k) := by
  unfold Hw.sealSample
  (try dsimp only [Hw.when, Hw.dkRx, Hw.latRx, Hw.calBus, Hw.request, Hw.chFree, Hw.dmaCtrl])
  (repeat' (split <;> try (rename_i heq; simp only [Prod.ext_iff] at heq; obtain ⟨rfl, rfl⟩ := heq))) <;> simp [OnlyNoteSealU]
@[simp] theorem Hw.armTask_frame (h : Hw) (t : Fin 96) :
    KeepsTimeWaveTxnSettRefSteerKeepKeepSeedPortProngOutLatDeckIbexImgFree h (Hw.armTask h t) := by
  unfold Hw.armTask
  (try dsimp only [Hw.when, Hw.dkRx, Hw.latRx, Hw.calBus, Hw.request, Hw.chFree, Hw.dmaCtrl])
  (repeat' (split <;> try (rename_i heq; simp only [Prod.ext_iff] at heq; obtain ⟨rfl, rfl⟩ := heq))) <;> simp [KeepsTimeWaveTxnSettRefSteerKeepKeepSeedPortProngOutLatDeckIbexImgFree]
@[simp] theorem Hw.routeTask_frame (h : Hw) (cyc : List Nat) (t : Fin 96) :
    KeepsTimeWaveTxnSettRefSteerKeepKeepSeedPortProngOutLatDeckIbexImgFree h (Hw.routeTask h cyc t) := by
  unfold Hw.routeTask
  (try dsimp only [Hw.when, Hw.dkRx, Hw.latRx, Hw.calBus, Hw.request, Hw.chFree, Hw.dmaCtrl])
  (repeat' (split <;> try (rename_i heq; simp only [Prod.ext_iff] at heq; obtain ⟨rfl, rfl⟩ := heq))) <;> simp [KeepsTimeWaveTxnSettRefSteerKeepKeepSeedPortProngOutLatDeckIbexImgFree]
@[simp] theorem Hw.evtSoft_frame (h : Hw) (v : Word) :
    OnlyEvt h (Hw.evtSoft h v) := by
  unfold Hw.evtSoft
  (try dsimp only [Hw.when, Hw.dkRx, Hw.latRx, Hw.calBus, Hw.request, Hw.chFree, Hw.dmaCtrl])
  (repeat' (split <;> try (rename_i heq; simp only [Prod.ext_iff] at heq; obtain ⟨rfl, rfl⟩ := heq))) <;> simp (disch := (intros; first | rfl | ((try dsimp only [Hw.when, Hw.dkRx, Hw.latRx, Hw.calBus, Hw.request, Hw.chFree, Hw.dmaCtrl]); first | rfl | ((repeat' (split <;> try (rename_i heq; simp only [Prod.ext_iff] at heq; obtain ⟨rfl, rfl⟩ := heq))) <;> first | rfl | (try simp))))) [OnlyEvt, foldl_time, foldl_sys, foldl_wave, foldl_note, foldl_mywi, foldl_txn, foldl_sett, foldl_ref, foldl_steer, foldl_sealU, foldl_store, foldl_keep, foldl_keepSeed, foldl_evt, foldl_port, foldl_prong, foldl_pwr, foldl_cal, foldl_out, foldl_lat, foldl_deck, foldl_ibex, foldl_dma, foldl_tally, foldl_img, foldl_free]
@[simp] theorem Hw.taskClear_frame (h : Hw) (t : Fin 96) :
    OnlyEvt h (Hw.taskClear h t) := by
  unfold Hw.taskClear
  (try dsimp only [Hw.when, Hw.dkRx, Hw.latRx, Hw.calBus, Hw.request, Hw.chFree, Hw.dmaCtrl])
  (repeat' (split <;> try (rename_i heq; simp only [Prod.ext_iff] at heq; obtain ⟨rfl, rfl⟩ := heq))) <;> simp [OnlyEvt]
@[simp] theorem Hw.w1cEvt_frame (h : Hw) (s : Fin 28) (w : Word) :
    OnlyNote h (Hw.w1cEvt h s w) := by
  unfold Hw.w1cEvt
  (try dsimp only [Hw.when, Hw.dkRx, Hw.latRx, Hw.calBus, Hw.request, Hw.chFree, Hw.dmaCtrl])
  (repeat' (split <;> try (rename_i heq; simp only [Prod.ext_iff] at heq; obtain ⟨rfl, rfl⟩ := heq))) <;> simp [OnlyNote]
@[simp] theorem Hw.ovfClear_frame (h : Hw) (t : Fin 96) :
    OnlyNoteEvt h (Hw.ovfClear h t) := by
  unfold Hw.ovfClear
  (try dsimp only [Hw.when, Hw.dkRx, Hw.latRx, Hw.calBus, Hw.request, Hw.chFree, Hw.dmaCtrl])
  (repeat' (split <;> try (rename_i heq; simp only [Prod.ext_iff] at heq; obtain ⟨rfl, rfl⟩ := heq))) <;> simp [OnlyNoteEvt]
@[simp] theorem Hw.routeWrite_frame (h : Hw) (t : Fin 96) (w : Nat) (v : Word) :
    OnlyNoteMywiEvt h (Hw.routeWrite h t w v) := by
  unfold Hw.routeWrite
  (try dsimp only [Hw.when, Hw.dkRx, Hw.latRx, Hw.calBus, Hw.request, Hw.chFree, Hw.dmaCtrl])
  (repeat' (split <;> try (rename_i heq; simp only [Prod.ext_iff] at heq; obtain ⟨rfl, rfl⟩ := heq))) <;> simp [OnlyNoteMywiEvt]
@[simp] theorem Hw.evtConfigure_frame (h : Hw) :
    OnlyEvt h (Hw.evtConfigure h) := by
  unfold Hw.evtConfigure
  (try dsimp only [Hw.when, Hw.dkRx, Hw.latRx, Hw.calBus, Hw.request, Hw.chFree, Hw.dmaCtrl])
  (repeat' (split <;> try (rename_i heq; simp only [Prod.ext_iff] at heq; obtain ⟨rfl, rfl⟩ := heq))) <;> simp (disch := (intros; first | rfl | ((try dsimp only [Hw.when, Hw.dkRx, Hw.latRx, Hw.calBus, Hw.request, Hw.chFree, Hw.dmaCtrl]); first | rfl | ((repeat' (split <;> try (rename_i heq; simp only [Prod.ext_iff] at heq; obtain ⟨rfl, rfl⟩ := heq))) <;> first | rfl | (try simp))))) [OnlyEvt, foldl_time, foldl_sys, foldl_wave, foldl_note, foldl_mywi, foldl_txn, foldl_sett, foldl_ref, foldl_steer, foldl_sealU, foldl_store, foldl_keep, foldl_keepSeed, foldl_evt, foldl_port, foldl_prong, foldl_pwr, foldl_cal, foldl_out, foldl_lat, foldl_deck, foldl_ibex, foldl_dma, foldl_tally, foldl_img, foldl_free]
@[simp] theorem Hw.setMywi_frame (h : Hw) (k : Key) (v : SVal) :
    OnlySett h (Hw.setMywi h k v) := by
  unfold Hw.setMywi
  (try dsimp only [Hw.when, Hw.dkRx, Hw.latRx, Hw.calBus, Hw.request, Hw.chFree, Hw.dmaCtrl])
  (repeat' (split <;> try (rename_i heq; simp only [Prod.ext_iff] at heq; obtain ⟨rfl, rfl⟩ := heq))) <;> simp [OnlySett]
@[simp] theorem Hw.flushKey_frame (h : Hw) (af : Bool) (key : Nat) :
    OnlyProng h (Hw.flushKey h af key) := by
  unfold Hw.flushKey
  (try dsimp only [Hw.when, Hw.dkRx, Hw.latRx, Hw.calBus, Hw.request, Hw.chFree, Hw.dmaCtrl])
  (repeat' (split <;> try (rename_i heq; simp only [Prod.ext_iff] at heq; obtain ⟨rfl, rfl⟩ := heq))) <;> simp [OnlyProng]
@[simp] theorem Hw.putEntry_frame (h : Hw) (a : Nat) (e : ClientEntry) :
    OnlySysNoteMywiSealUStoreTally h (Hw.putEntry h a e) := by
  unfold Hw.putEntry
  (try dsimp only [Hw.when, Hw.dkRx, Hw.latRx, Hw.calBus, Hw.request, Hw.chFree, Hw.dmaCtrl])
  (repeat' (split <;> try (rename_i heq; simp only [Prod.ext_iff] at heq; obtain ⟨rfl, rfl⟩ := heq))) <;> simp [OnlySysNoteMywiSealUStoreTally]
theorem Hw.clientSet_frame (h : Hw) (f : Nat) (a : Nat) (cls : Nat) (st : Nat) (k_ : Hw) (e_ : Hw.clientSet h f a cls st = .ok k_) :
    OnlySysNoteMywiSealUStoreProngTally h k_ := by
  unfold Hw.clientSet at e_
  revert e_
  (try dsimp only [Hw.when])
  (repeat' (split <;> try (rename_i heq; simp only [Prod.ext_iff] at heq; obtain ⟨rfl, rfl⟩ := heq))) <;> intro e_ <;> first | (injection e_ with e_; subst e_; simp [OnlySysNoteMywiSealUStoreProngTally]) | (exact absurd e_ (by simp)) 
theorem Hw.clientClear_frame (h : Hw) (f : Nat) (a : Nat) (k_ : Hw) (e_ : Hw.clientClear h f a = .ok k_) :
    OnlySysNoteMywiSealUStoreProngTally h k_ := by
  unfold Hw.clientClear at e_
  revert e_
  (try dsimp only [Hw.when])
  (repeat' (split <;> try (rename_i heq; simp only [Prod.ext_iff] at heq; obtain ⟨rfl, rfl⟩ := heq))) <;> intro e_ <;> first | (injection e_ with e_; subst e_; simp [OnlySysNoteMywiSealUStoreProngTally]) | (exact absurd e_ (by simp)) 
@[simp] theorem Hw.flushClass_frame (h : Hw) (c : Option Nat) :
    OnlyProng h (Hw.flushClass h c) := by
  unfold Hw.flushClass
  (try dsimp only [Hw.when, Hw.dkRx, Hw.latRx, Hw.calBus, Hw.request, Hw.chFree, Hw.dmaCtrl])
  (repeat' (split <;> try (rename_i heq; simp only [Prod.ext_iff] at heq; obtain ⟨rfl, rfl⟩ := heq))) <;> simp [OnlyProng]
@[simp] theorem Hw.clientClearAll_frame (h : Hw) :
    OnlySysStoreProng h (Hw.clientClearAll h) := by
  unfold Hw.clientClearAll
  (try dsimp only [Hw.when, Hw.dkRx, Hw.latRx, Hw.calBus, Hw.request, Hw.chFree, Hw.dmaCtrl])
  (repeat' (split <;> try (rename_i heq; simp only [Prod.ext_iff] at heq; obtain ⟨rfl, rfl⟩ := heq))) <;> simp [OnlySysStoreProng]
@[simp] theorem Hw.dmaRun_frame (h : Hw) (n : Fin 16) (w : Nat) :
    OnlySysNoteMywiSealUStoreEvtDmaTally h (Hw.dmaRun h n w) := by
  unfold Hw.dmaRun
  (try dsimp only [Hw.when, Hw.dkRx, Hw.latRx, Hw.calBus, Hw.request, Hw.chFree, Hw.dmaCtrl])
  (repeat' (split <;> try (rename_i heq; simp only [Prod.ext_iff] at heq; obtain ⟨rfl, rfl⟩ := heq))) <;> simp [OnlySysNoteMywiSealUStoreEvtDmaTally]
@[simp] theorem Hw.stagePolicy_frame (h : Hw) (t : Nat) (items : List (Key × SVal)) :
    OnlyProng h (Hw.stagePolicy h t items) := by
  unfold Hw.stagePolicy
  (try dsimp only [Hw.when, Hw.dkRx, Hw.latRx, Hw.calBus, Hw.request, Hw.chFree, Hw.dmaCtrl])
  (repeat' (split <;> try (rename_i heq; simp only [Prod.ext_iff] at heq; obtain ⟨rfl, rfl⟩ := heq))) <;> simp [OnlyProng]
@[simp] theorem Hw.startMode_frame (h : Hw) (p : Fin 4) (m : Nat) :
    OnlyNoteMywiRefPortTally h (Hw.startMode h p m) := by
  unfold Hw.startMode
  (try dsimp only [Hw.when, Hw.dkRx, Hw.latRx, Hw.calBus, Hw.request, Hw.chFree, Hw.dmaCtrl])
  (repeat' (split <;> try (rename_i heq; simp only [Prod.ext_iff] at heq; obtain ⟨rfl, rfl⟩ := heq))) <;> simp (disch := (intros; first | rfl | ((try dsimp only [Hw.when, Hw.dkRx, Hw.latRx, Hw.calBus, Hw.request, Hw.chFree, Hw.dmaCtrl]); first | rfl | ((repeat' (split <;> try (rename_i heq; simp only [Prod.ext_iff] at heq; obtain ⟨rfl, rfl⟩ := heq))) <;> first | rfl | (try simp))))) [OnlyNoteMywiRefPortTally, foldl_time, foldl_sys, foldl_wave, foldl_note, foldl_mywi, foldl_txn, foldl_sett, foldl_ref, foldl_steer, foldl_sealU, foldl_store, foldl_keep, foldl_keepSeed, foldl_evt, foldl_port, foldl_prong, foldl_pwr, foldl_cal, foldl_out, foldl_lat, foldl_deck, foldl_ibex, foldl_dma, foldl_tally, foldl_img, foldl_free]
@[simp] theorem Hw.clearFaults_frame (h : Hw) (mask : BitVec 24) :
    OnlyNoteMywiPwr h (Hw.clearFaults h mask) := by
  unfold Hw.clearFaults
  (try dsimp only [Hw.when, Hw.dkRx, Hw.latRx, Hw.calBus, Hw.request, Hw.chFree, Hw.dmaCtrl])
  (repeat' (split <;> try (rename_i heq; simp only [Prod.ext_iff] at heq; obtain ⟨rfl, rfl⟩ := heq))) <;> simp (disch := (intros; first | rfl | ((try dsimp only [Hw.when, Hw.dkRx, Hw.latRx, Hw.calBus, Hw.request, Hw.chFree, Hw.dmaCtrl]); first | rfl | ((repeat' (split <;> try (rename_i heq; simp only [Prod.ext_iff] at heq; obtain ⟨rfl, rfl⟩ := heq))) <;> first | rfl | (try simp))))) [OnlyNoteMywiPwr, foldl_time, foldl_sys, foldl_wave, foldl_note, foldl_mywi, foldl_txn, foldl_sett, foldl_ref, foldl_steer, foldl_sealU, foldl_store, foldl_keep, foldl_keepSeed, foldl_evt, foldl_port, foldl_prong, foldl_pwr, foldl_cal, foldl_out, foldl_lat, foldl_deck, foldl_ibex, foldl_dma, foldl_tally, foldl_img, foldl_free]
@[simp] theorem Hw.kidFlag_frame (h : Hw) (k : Fin 8) (b : Nat) :
    OnlyNoteMywiIbexTally h (Hw.kidFlag h k b) := by
  unfold Hw.kidFlag
  (try dsimp only [Hw.when, Hw.dkRx, Hw.latRx, Hw.calBus, Hw.request, Hw.chFree, Hw.dmaCtrl])
  (repeat' (split <;> try (rename_i heq; simp only [Prod.ext_iff] at heq; obtain ⟨rfl, rfl⟩ := heq))) <;> simp [OnlyNoteMywiIbexTally]
@[simp] theorem Hw.writePins_frame (h : Hw) (enable : Bool) (base : Nat) (n : Nat) (v : Word) (skip : List Nat) :
    OnlyIbex h (Hw.writePins h enable base n v skip) := by
  unfold Hw.writePins
  (try dsimp only [Hw.when, Hw.dkRx, Hw.latRx, Hw.calBus, Hw.request, Hw.chFree, Hw.dmaCtrl])
  (repeat' (split <;> try (rename_i heq; simp only [Prod.ext_iff] at heq; obtain ⟨rfl, rfl⟩ := heq))) <;> simp (disch := (intros; first | rfl | ((try dsimp only [Hw.when, Hw.dkRx, Hw.latRx, Hw.calBus, Hw.request, Hw.chFree, Hw.dmaCtrl]); first | rfl | ((repeat' (split <;> try (rename_i heq; simp only [Prod.ext_iff] at heq; obtain ⟨rfl, rfl⟩ := heq))) <;> first | rfl | (try simp))))) [OnlyIbex, foldl_time, foldl_sys, foldl_wave, foldl_note, foldl_mywi, foldl_txn, foldl_sett, foldl_ref, foldl_steer, foldl_sealU, foldl_store, foldl_keep, foldl_keepSeed, foldl_evt, foldl_port, foldl_prong, foldl_pwr, foldl_cal, foldl_out, foldl_lat, foldl_deck, foldl_ibex, foldl_dma, foldl_tally, foldl_img, foldl_free]
@[simp] theorem Hw.sideSet_frame (h : Hw) (n : Fin 32) (sd : Nat) :
    OnlyIbex h (Hw.sideSet h n sd) := by
  unfold Hw.sideSet
  (try dsimp only [Hw.when, Hw.dkRx, Hw.latRx, Hw.calBus, Hw.request, Hw.chFree, Hw.dmaCtrl])
  (repeat' (split <;> try (rename_i heq; simp only [Prod.ext_iff] at heq; obtain ⟨rfl, rfl⟩ := heq))) <;> simp [OnlyIbex]
@[simp] theorem Hw.herdBr_frame (h : Hw) (n : Fin 32) (cond : Fin 11) (addr : Fin 512) :
    OnlyIbex h (Hw.herdBr h n cond addr).2 := by
  unfold Hw.herdBr
  (try dsimp only [Hw.when, Hw.dkRx, Hw.latRx, Hw.calBus, Hw.request, Hw.chFree, Hw.dmaCtrl])
  (repeat' (split <;> try (rename_i heq; simp only [Prod.ext_iff] at heq; obtain ⟨rfl, rfl⟩ := heq))) <;> simp [OnlyIbex]
@[simp] theorem Hw.herdStamp_frame (h : Hw) (n : Fin 32) (t : Nat) :
    OnlyNoteMywiIbexTally h (Hw.herdStamp h n t) := by
  unfold Hw.herdStamp
  (try dsimp only [Hw.when, Hw.dkRx, Hw.latRx, Hw.calBus, Hw.request, Hw.chFree, Hw.dmaCtrl])
  (repeat' (split <;> try (rename_i heq; simp only [Prod.ext_iff] at heq; obtain ⟨rfl, rfl⟩ := heq))) <;> simp [OnlyNoteMywiIbexTally]
@[simp] theorem Hw.herdShin_frame (h : Hw) (n : Fin 32) (src : Fin 5) (count : Fin 33) (first : Bool) :
    OnlyNoteMywiIbexTally h (Hw.herdShin h n src count first).2 := by
  unfold Hw.herdShin
  (try dsimp only [Hw.when, Hw.dkRx, Hw.latRx, Hw.calBus, Hw.request, Hw.chFree, Hw.dmaCtrl])
  (repeat' (split <;> try (rename_i heq; simp only [Prod.ext_iff] at heq; obtain ⟨rfl, rfl⟩ := heq))) <;> simp [OnlyNoteMywiIbexTally]
@[simp] theorem Hw.herdShout_frame (h : Hw) (n : Fin 32) (dst : Fin 7) (count : Fin 33) :
    OnlyNoteMywiIbexTally h (Hw.herdShout h n dst count).2 := by
  unfold Hw.herdShout
  (try dsimp only [Hw.when, Hw.dkRx, Hw.latRx, Hw.calBus, Hw.request, Hw.chFree, Hw.dmaCtrl])
  (repeat' (split <;> try (rename_i heq; simp only [Prod.ext_iff] at heq; obtain ⟨rfl, rfl⟩ := heq))) <;> simp [OnlyNoteMywiIbexTally]
@[simp] theorem Hw.herdFetch_frame (h : Hw) (n : Fin 32) (ifEmpty : Bool) (hold : Bool) :
    OnlyNoteMywiIbexTally h (Hw.herdFetch h n ifEmpty hold).2 := by
  unfold Hw.herdFetch
  (try dsimp only [Hw.when, Hw.dkRx, Hw.latRx, Hw.calBus, Hw.request, Hw.chFree, Hw.dmaCtrl])
  (repeat' (split <;> try (rename_i heq; simp only [Prod.ext_iff] at heq; obtain ⟨rfl, rfl⟩ := heq))) <;> simp [OnlyNoteMywiIbexTally]
@[simp] theorem Hw.herdPost_frame (h : Hw) (n : Fin 32) (ifFull : Bool) (hold : Bool) :
    OnlyNoteMywiIbexTally h (Hw.herdPost h n ifFull hold).2 := by
  unfold Hw.herdPost
  (try dsimp only [Hw.when, Hw.dkRx, Hw.latRx, Hw.calBus, Hw.request, Hw.chFree, Hw.dmaCtrl])
  (repeat' (split <;> try (rename_i heq; simp only [Prod.ext_iff] at heq; obtain ⟨rfl, rfl⟩ := heq))) <;> simp [OnlyNoteMywiIbexTally]
@[simp] theorem Hw.herdCopy_frame (h : Hw) (n : Fin 32) (dst : Fin 7) (fn : Fin 5) (src : Fin 8) :
    OnlyIbex h (Hw.herdCopy h n dst fn src).2 := by
  unfold Hw.herdCopy
  (try dsimp only [Hw.when, Hw.dkRx, Hw.latRx, Hw.calBus, Hw.request, Hw.chFree, Hw.dmaCtrl])
  (repeat' (split <;> try (rename_i heq; simp only [Prod.ext_iff] at heq; obtain ⟨rfl, rfl⟩ := heq))) <;> simp [OnlyIbex]
@[simp] theorem Hw.herdLoad_frame (h : Hw) (n : Fin 32) (dst : Fin 5) (data : Fin 256) :
    OnlyEvtIbex h (Hw.herdLoad h n dst data).2 := by
  unfold Hw.herdLoad
  (try dsimp only [Hw.when, Hw.dkRx, Hw.latRx, Hw.calBus, Hw.request, Hw.chFree, Hw.dmaCtrl])
  (repeat' (split <;> try (rename_i heq; simp only [Prod.ext_iff] at heq; obtain ⟨rfl, rfl⟩ := heq))) <;> simp [OnlyEvtIbex]
@[simp] theorem Hw.herdMark_frame (h : Hw) (n : Fin 32) (new : Bool) (word : Fin 4) (t : Nat) :
    OnlyNoteMywiIbexTally h (Hw.herdMark h n new word t).2 := by
  unfold Hw.herdMark
  (try dsimp only [Hw.when, Hw.dkRx, Hw.latRx, Hw.calBus, Hw.request, Hw.chFree, Hw.dmaCtrl])
  (repeat' (split <;> try (rename_i heq; simp only [Prod.ext_iff] at heq; obtain ⟨rfl, rfl⟩ := heq))) <;> simp [OnlyNoteMywiIbexTally]
@[simp] theorem Hw.herdHalt_frame (h : Hw) (n : Fin 32) (cause : Nat) :
    OnlyNoteMywiIbexTally h (Hw.herdHalt h n cause) := by
  unfold Hw.herdHalt
  (try dsimp only [Hw.when, Hw.dkRx, Hw.latRx, Hw.calBus, Hw.request, Hw.chFree, Hw.dmaCtrl])
  (repeat' (split <;> try (rename_i heq; simp only [Prod.ext_iff] at heq; obtain ⟨rfl, rfl⟩ := heq))) <;> simp [OnlyNoteMywiIbexTally]
@[simp] theorem Hw.herdCompare_frame (h : Hw) (n : Fin 32) (t : Nat) :
    OnlyNoteMywiIbexTally h (Hw.herdCompare h n t) := by
  unfold Hw.herdCompare
  (try dsimp only [Hw.when, Hw.dkRx, Hw.latRx, Hw.calBus, Hw.request, Hw.chFree, Hw.dmaCtrl])
  (repeat' (split <;> try (rename_i heq; simp only [Prod.ext_iff] at heq; obtain ⟨rfl, rfl⟩ := heq))) <;> simp [OnlyNoteMywiIbexTally]
@[simp] theorem Hw.herdFinish_frame (h : Hw) (n : Fin 32) (injected : Bool) (sd : Nat) (r : Turn) :
    OnlyNoteMywiIbexTally h (Hw.herdFinish h n injected sd r) := by
  unfold Hw.herdFinish
  (try dsimp only [Hw.when, Hw.dkRx, Hw.latRx, Hw.calBus, Hw.request, Hw.chFree, Hw.dmaCtrl])
  (repeat' (split <;> try (rename_i heq; simp only [Prod.ext_iff] at heq; obtain ⟨rfl, rfl⟩ := heq))) <;> simp [OnlyNoteMywiIbexTally]
@[simp] theorem Hw.txfPut_frame (h : Hw) (n : Fin 32) (v : Word) :
    OnlyNoteMywiIbexTally h (Hw.txfPut h n v) := by
  unfold Hw.txfPut
  (try dsimp only [Hw.when, Hw.dkRx, Hw.latRx, Hw.calBus, Hw.request, Hw.chFree, Hw.dmaCtrl])
  (repeat' (split <;> try (rename_i heq; simp only [Prod.ext_iff] at heq; obtain ⟨rfl, rfl⟩ := heq))) <;> simp [OnlyNoteMywiIbexTally]
@[simp] theorem Hw.rxfTake_frame (h : Hw) (n : Fin 32) :
    OnlyNoteMywiIbexTally h (Hw.rxfTake h n).2 := by
  unfold Hw.rxfTake
  (try dsimp only [Hw.when, Hw.dkRx, Hw.latRx, Hw.calBus, Hw.request, Hw.chFree, Hw.dmaCtrl])
  (repeat' (split <;> try (rename_i heq; simp only [Prod.ext_iff] at heq; obtain ⟨rfl, rfl⟩ := heq))) <;> simp [OnlyNoteMywiIbexTally]
@[simp] theorem Hw.chRestart_frame (h : Hw) (n : Fin 32) :
    OnlyIbex h (Hw.chRestart h n) := by
  unfold Hw.chRestart
  (try dsimp only [Hw.when, Hw.dkRx, Hw.latRx, Hw.calBus, Hw.request, Hw.chFree, Hw.dmaCtrl])
  (repeat' (split <;> try (rename_i heq; simp only [Prod.ext_iff] at heq; obtain ⟨rfl, rfl⟩ := heq))) <;> simp [OnlyIbex]
@[simp] theorem Hw.chFlush_frame (h : Hw) (n : Fin 32) :
    OnlyIbex h (Hw.chFlush h n) := by
  unfold Hw.chFlush
  (try dsimp only [Hw.when, Hw.dkRx, Hw.latRx, Hw.calBus, Hw.request, Hw.chFree, Hw.dmaCtrl])
  (repeat' (split <;> try (rename_i heq; simp only [Prod.ext_iff] at heq; obtain ⟨rfl, rfl⟩ := heq))) <;> simp [OnlyIbex]
@[simp] theorem Hw.ibexBusy_frame (h : Hw) (unit : String) :
    OnlyNoteMywi h (Hw.ibexBusy h unit) := by
  unfold Hw.ibexBusy
  (try dsimp only [Hw.when, Hw.dkRx, Hw.latRx, Hw.calBus, Hw.request, Hw.chFree, Hw.dmaCtrl])
  (repeat' (split <;> try (rename_i heq; simp only [Prod.ext_iff] at heq; obtain ⟨rfl, rfl⟩ := heq))) <;> simp [OnlyNoteMywi]
@[simp] theorem Hw.chCfg_frame (h : Hw) (n : Fin 32) (k : Fin 3) (v : Word) :
    OnlyIbex h (Hw.chCfg h n k v).2 := by
  unfold Hw.chCfg
  (try dsimp only [Hw.when, Hw.dkRx, Hw.latRx, Hw.calBus, Hw.request, Hw.chFree, Hw.dmaCtrl])
  (repeat' (split <;> try (rename_i heq; simp only [Prod.ext_iff] at heq; obtain ⟨rfl, rfl⟩ := heq))) <;> simp [OnlyIbex]
@[simp] theorem Hw.kidCfg_frame (h : Hw) (n : Fin 8) (k : Fin 3) (v : Word) :
    OnlyIbex h (Hw.kidCfg h n k v).2 := by
  unfold Hw.kidCfg
  (try dsimp only [Hw.when, Hw.dkRx, Hw.latRx, Hw.calBus, Hw.request, Hw.chFree, Hw.dmaCtrl])
  (repeat' (split <;> try (rename_i heq; simp only [Prod.ext_iff] at heq; obtain ⟨rfl, rfl⟩ := heq))) <;> simp [OnlyIbex]
@[simp] theorem Hw.chCfgWrite_frame (h : Hw) (n : Fin 32) (k : Fin 3) (v : Word) :
    OnlyNoteMywiIbex h (Hw.chCfgWrite h n k v) := by
  unfold Hw.chCfgWrite
  (try dsimp only [Hw.when, Hw.dkRx, Hw.latRx, Hw.calBus, Hw.request, Hw.chFree, Hw.dmaCtrl])
  (repeat' (split <;> try (rename_i heq; simp only [Prod.ext_iff] at heq; obtain ⟨rfl, rfl⟩ := heq))) <;> simp [OnlyNoteMywiIbex]
@[simp] theorem Hw.kidCfgWrite_frame (h : Hw) (n : Fin 8) (k : Fin 3) (v : Word) :
    OnlyNoteMywiIbex h (Hw.kidCfgWrite h n k v) := by
  unfold Hw.kidCfgWrite
  (try dsimp only [Hw.when, Hw.dkRx, Hw.latRx, Hw.calBus, Hw.request, Hw.chFree, Hw.dmaCtrl])
  (repeat' (split <;> try (rename_i heq; simp only [Prod.ext_iff] at heq; obtain ⟨rfl, rfl⟩ := heq))) <;> simp [OnlyNoteMywiIbex]
@[simp] theorem Hw.storeWrite_frame (h : Hw) (a : Nat) (v : Word) :
    OnlyNoteMywiIbex h (Hw.storeWrite h a v) := by
  unfold Hw.storeWrite
  (try dsimp only [Hw.when, Hw.dkRx, Hw.latRx, Hw.calBus, Hw.request, Hw.chFree, Hw.dmaCtrl])
  (repeat' (split <;> try (rename_i heq; simp only [Prod.ext_iff] at heq; obtain ⟨rfl, rfl⟩ := heq))) <;> simp [OnlyNoteMywiIbex]
@[simp] theorem Hw.kidRecord_frame (h : Hw) (k : Fin 8) (t : Nat) :
    OnlyNoteMywiIbexTally h (Hw.kidRecord h k t) := by
  unfold Hw.kidRecord
  (try dsimp only [Hw.when, Hw.dkRx, Hw.latRx, Hw.calBus, Hw.request, Hw.chFree, Hw.dmaCtrl])
  (repeat' (split <;> try (rename_i heq; simp only [Prod.ext_iff] at heq; obtain ⟨rfl, rfl⟩ := heq))) <;> simp [OnlyNoteMywiIbexTally]
@[simp] theorem Hw.kidNext_frame (h : Hw) (k : Fin 8) :
    OnlyNoteMywiIbexTally h (Hw.kidNext h k) := by
  unfold Hw.kidNext
  (try dsimp only [Hw.when, Hw.dkRx, Hw.latRx, Hw.calBus, Hw.request, Hw.chFree, Hw.dmaCtrl])
  (repeat' (split <;> try (rename_i heq; simp only [Prod.ext_iff] at heq; obtain ⟨rfl, rfl⟩ := heq))) <;> simp [OnlyNoteMywiIbexTally]
@[simp] theorem Hw.kidMatch_frame (h : Hw) (k : Fin 8) (t : Nat) :
    OnlyNoteMywiEvtIbexTally h (Hw.kidMatch h k t) := by
  unfold Hw.kidMatch
  (try dsimp only [Hw.when, Hw.dkRx, Hw.latRx, Hw.calBus, Hw.request, Hw.chFree, Hw.dmaCtrl])
  (repeat' (split <;> try (rename_i heq; simp only [Prod.ext_iff] at heq; obtain ⟨rfl, rfl⟩ := heq))) <;> simp [OnlyNoteMywiEvtIbexTally]
@[simp] theorem Hw.stageDrop_frame (h : Hw) (lo : Nat) (n : Nat) :
    OnlySys h (Hw.stageDrop h lo n) := by
  unfold Hw.stageDrop
  (try dsimp only [Hw.when, Hw.dkRx, Hw.latRx, Hw.calBus, Hw.request, Hw.chFree, Hw.dmaCtrl])
  (repeat' (split <;> try (rename_i heq; simp only [Prod.ext_iff] at heq; obtain ⟨rfl, rfl⟩ := heq))) <;> simp [OnlySys]
@[simp] theorem Hw.kidPair_frame (h : Hw) (k : Fin 8) (v : Word) :
    OnlySysIbex h (Hw.kidPair h k v) := by
  unfold Hw.kidPair
  (try dsimp only [Hw.when, Hw.dkRx, Hw.latRx, Hw.calBus, Hw.request, Hw.chFree, Hw.dmaCtrl])
  (repeat' (split <;> try (rename_i heq; simp only [Prod.ext_iff] at heq; obtain ⟨rfl, rfl⟩ := heq))) <;> simp [OnlySysIbex]
@[simp] theorem Hw.kidLoad_frame (h : Hw) (k : Fin 8) (v : Word) :
    OnlyNoteMywiIbexTally h (Hw.kidLoad h k v) := by
  unfold Hw.kidLoad
  (try dsimp only [Hw.when, Hw.dkRx, Hw.latRx, Hw.calBus, Hw.request, Hw.chFree, Hw.dmaCtrl])
  (repeat' (split <;> try (rename_i heq; simp only [Prod.ext_iff] at heq; obtain ⟨rfl, rfl⟩ := heq))) <;> simp [OnlyNoteMywiIbexTally]
@[simp] theorem Hw.kidCap_frame (h : Hw) (k : Fin 8) :
    OnlyNoteMywiIbexTally h (Hw.kidCap h k).2 := by
  unfold Hw.kidCap
  (try dsimp only [Hw.when, Hw.dkRx, Hw.latRx, Hw.calBus, Hw.request, Hw.chFree, Hw.dmaCtrl])
  (repeat' (split <;> try (rename_i heq; simp only [Prod.ext_iff] at heq; obtain ⟨rfl, rfl⟩ := heq))) <;> simp [OnlyNoteMywiIbexTally]
@[simp] theorem Hw.bootSlot_frame (h : Hw) (slot : String) (cause : String) :
    OnlyNoteMywi h (Hw.bootSlot h slot cause) := by
  unfold Hw.bootSlot
  (try dsimp only [Hw.when, Hw.dkRx, Hw.latRx, Hw.calBus, Hw.request, Hw.chFree, Hw.dmaCtrl])
  (repeat' (split <;> try (rename_i heq; simp only [Prod.ext_iff] at heq; obtain ⟨rfl, rfl⟩ := heq))) <;> simp [OnlyNoteMywi]
@[simp] theorem Hw.trySlot_frame (h : Hw) (s : Fin 2) :
    OnlySysNoteMywiImg h (Hw.trySlot h s).2 := by
  unfold Hw.trySlot
  (try dsimp only [Hw.when, Hw.dkRx, Hw.latRx, Hw.calBus, Hw.request, Hw.chFree, Hw.dmaCtrl])
  (repeat' (split <;> try (rename_i heq; simp only [Prod.ext_iff] at heq; obtain ⟨rfl, rfl⟩ := heq))) <;> simp [OnlySysNoteMywiImg]
theorem Hw.imageStart_frame (h : Hw) (store : Option Nat) (bytes : List Byte) (len : Nat) (k_ : Hw) (e_ : Hw.imageStart h store bytes len = .ok k_) :
    OnlyImg h k_ := by
  unfold Hw.imageStart at e_
  revert e_
  (try dsimp only [Hw.when])
  (repeat' (split <;> try (rename_i heq; simp only [Prod.ext_iff] at heq; obtain ⟨rfl, rfl⟩ := heq))) <;> intro e_ <;> first | (injection e_ with e_; subst e_; simp [OnlyImg]) | (exact absurd e_ (by simp)) 
@[simp] theorem Hw.imageNotice_frame (h : Hw) (bit : Nat) (s : Fin 2) (gen : Nat) (result : String) :
    OnlyNoteMywi h (Hw.imageNotice h bit s gen result) := by
  unfold Hw.imageNotice
  (try dsimp only [Hw.when, Hw.dkRx, Hw.latRx, Hw.calBus, Hw.request, Hw.chFree, Hw.dmaCtrl])
  (repeat' (split <;> try (rename_i heq; simp only [Prod.ext_iff] at heq; obtain ⟨rfl, rfl⟩ := heq))) <;> simp [OnlyNoteMywi]
theorem Hw.imageActivate_frame (h : Hw) (k_ : Hw) (e_ : Hw.imageActivate h = .ok k_) :
    OnlyNoteMywiSealUStoreTallyImg h k_ := by
  unfold Hw.imageActivate at e_
  revert e_
  (try dsimp only [Hw.when])
  (repeat' (split <;> try (rename_i heq; simp only [Prod.ext_iff] at heq; obtain ⟨rfl, rfl⟩ := heq))) <;> intro e_ <;> first | (injection e_ with e_; subst e_; simp [OnlyNoteMywiSealUStoreTallyImg]) | (exact absurd e_ (by simp)) 
@[simp] theorem Hw.otpBurn_frame (h : Hw) (m : ImgSt) (action : Nat) (index : Nat) (value : Nat) :
    OnlyNoteMywiSealUStoreTallyImg h (Hw.otpBurn h m action index value) := by
  unfold Hw.otpBurn
  (try dsimp only [Hw.when, Hw.dkRx, Hw.latRx, Hw.calBus, Hw.request, Hw.chFree, Hw.dmaCtrl])
  (repeat' (split <;> try (rename_i heq; simp only [Prod.ext_iff] at heq; obtain ⟨rfl, rfl⟩ := heq))) <;> simp [OnlyNoteMywiSealUStoreTallyImg]
theorem Hw.ownerEnroll_frame (h : Hw) (s : Fin 2) (k_ : Hw) (e_ : Hw.ownerEnroll h s = .ok k_) :
    OnlyNoteMywiSealUStoreTallyImg h k_ := by
  unfold Hw.ownerEnroll at e_
  revert e_
  (try dsimp only [Hw.when])
  (repeat' (split <;> try (rename_i heq; simp only [Prod.ext_iff] at heq; obtain ⟨rfl, rfl⟩ := heq))) <;> intro e_ <;> first | (injection e_ with e_; subst e_; simp [OnlyNoteMywiSealUStoreTallyImg]) | (exact absurd e_ (by simp)) 
theorem Hw.ownerRevoke_frame (h : Hw) (k : Fin 4) (k_ : Hw) (e_ : Hw.ownerRevoke h k = .ok k_) :
    OnlyNoteMywiSealUStoreTallyImg h k_ := by
  unfold Hw.ownerRevoke at e_
  revert e_
  (try dsimp only [Hw.when])
  (repeat' (split <;> try (rename_i heq; simp only [Prod.ext_iff] at heq; obtain ⟨rfl, rfl⟩ := heq))) <;> intro e_ <;> first | (injection e_ with e_; subst e_; simp [OnlyNoteMywiSealUStoreTallyImg]) | (exact absurd e_ (by simp)) 
theorem Hw.rollbackCommit_frame (h : Hw) (k_ : Hw) (e_ : Hw.rollbackCommit h = .ok k_) :
    OnlyNoteMywiSealUStoreTallyImg h k_ := by
  unfold Hw.rollbackCommit at e_
  revert e_
  (try dsimp only [Hw.when])
  (repeat' (split <;> try (rename_i heq; simp only [Prod.ext_iff] at heq; obtain ⟨rfl, rfl⟩ := heq))) <;> intro e_ <;> first | (injection e_ with e_; subst e_; simp [OnlyNoteMywiSealUStoreTallyImg]) | (exact absurd e_ (by simp)) 
@[simp] theorem Hw.updIsl_frame (h : Hw) (n : Fin 48) (f : Island → Island) :
    OnlyWave h (Hw.updIsl h n f) := by
  unfold Hw.updIsl
  (try dsimp only [Hw.when, Hw.dkRx, Hw.latRx, Hw.calBus, Hw.request, Hw.chFree, Hw.dmaCtrl])
  (repeat' (split <;> try (rename_i heq; simp only [Prod.ext_iff] at heq; obtain ⟨rfl, rfl⟩ := heq))) <;> simp [OnlyWave]
@[simp] theorem Hw.waveSlip_frame (h : Hw) (n : Fin 48) :
    OnlyWaveNoteMywiTally h (Hw.waveSlip h n) := by
  unfold Hw.waveSlip
  (try dsimp only [Hw.when, Hw.dkRx, Hw.latRx, Hw.calBus, Hw.request, Hw.chFree, Hw.dmaCtrl])
  (repeat' (split <;> try (rename_i heq; simp only [Prod.ext_iff] at heq; obtain ⟨rfl, rfl⟩ := heq))) <;> simp [OnlyWaveNoteMywiTally]
@[simp] theorem Hw.ret_frame (h : Hw) (l : List Word) :
    OnlySys h (Hw.ret h l) := by
  unfold Hw.ret
  (try dsimp only [Hw.when, Hw.dkRx, Hw.latRx, Hw.calBus, Hw.request, Hw.chFree, Hw.dmaCtrl])
  (repeat' (split <;> try (rename_i heq; simp only [Prod.ext_iff] at heq; obtain ⟨rfl, rfl⟩ := heq))) <;> simp [OnlySys]
@[simp] theorem Hw.stagePut_frame (h : Hw) (off : Nat) (v : Word) :
    OnlySys h (Hw.stagePut h off v) := by
  unfold Hw.stagePut
  (try dsimp only [Hw.when, Hw.dkRx, Hw.latRx, Hw.calBus, Hw.request, Hw.chFree, Hw.dmaCtrl])
  (repeat' (split <;> try (rename_i heq; simp only [Prod.ext_iff] at heq; obtain ⟨rfl, rfl⟩ := heq))) <;> simp [OnlySys]
@[simp] theorem Hw.takeErrors_frame (h : Hw) (errs : List (Nat × Bool)) :
    OnlySys h (Hw.takeErrors h errs) := by
  unfold Hw.takeErrors
  (try dsimp only [Hw.when, Hw.dkRx, Hw.latRx, Hw.calBus, Hw.request, Hw.chFree, Hw.dmaCtrl])
  (repeat' (split <;> try (rename_i heq; simp only [Prod.ext_iff] at heq; obtain ⟨rfl, rfl⟩ := heq))) <;> simp (disch := (intros; first | rfl | ((try dsimp only [Hw.when, Hw.dkRx, Hw.latRx, Hw.calBus, Hw.request, Hw.chFree, Hw.dmaCtrl]); first | rfl | ((repeat' (split <;> try (rename_i heq; simp only [Prod.ext_iff] at heq; obtain ⟨rfl, rfl⟩ := heq))) <;> first | rfl | (try simp))))) [OnlySys, foldl_time, foldl_sys, foldl_wave, foldl_note, foldl_mywi, foldl_txn, foldl_sett, foldl_ref, foldl_steer, foldl_sealU, foldl_store, foldl_keep, foldl_keepSeed, foldl_evt, foldl_port, foldl_prong, foldl_pwr, foldl_cal, foldl_out, foldl_lat, foldl_deck, foldl_ibex, foldl_dma, foldl_tally, foldl_img, foldl_free]
@[simp] theorem Hw.latCount_frame (h : Hw) (n : Nat) (k : Fin 4) :
    OnlyNoteMywiLatTally h (Hw.latCount h n k) := by
  unfold Hw.latCount
  (try dsimp only [Hw.when, Hw.dkRx, Hw.latRx, Hw.calBus, Hw.request, Hw.chFree, Hw.dmaCtrl])
  (repeat' (split <;> try (rename_i heq; simp only [Prod.ext_iff] at heq; obtain ⟨rfl, rfl⟩ := heq))) <;> simp [OnlyNoteMywiLatTally]
@[simp] theorem Hw.heardHello_frame (h : Hw) (n : Fin 4) (f : List Byte) :
    OnlyNoteMywiRefLat h (Hw.heardHello h n f) := by
  unfold Hw.heardHello
  (try dsimp only [Hw.when, Hw.dkRx, Hw.latRx, Hw.calBus, Hw.request, Hw.chFree, Hw.dmaCtrl])
  (repeat' (split <;> try (rename_i heq; simp only [Prod.ext_iff] at heq; obtain ⟨rfl, rfl⟩ := heq))) <;> simp [OnlyNoteMywiRefLat]
@[simp] theorem Hw.advanceSeq_frame (h : Hw) :
    OnlyLat h (Hw.advanceSeq h) := by
  unfold Hw.advanceSeq
  (try dsimp only [Hw.when, Hw.dkRx, Hw.latRx, Hw.calBus, Hw.request, Hw.chFree, Hw.dmaCtrl])
  (repeat' (split <;> try (rename_i heq; simp only [Prod.ext_iff] at heq; obtain ⟨rfl, rfl⟩ := heq))) <;> simp [OnlyLat]
@[simp] theorem Hw.queueUp_frame (h : Hw) (e : RegEntry) :
    OnlyLat h (Hw.queueUp h e) := by
  unfold Hw.queueUp
  (try dsimp only [Hw.when, Hw.dkRx, Hw.latRx, Hw.calBus, Hw.request, Hw.chFree, Hw.dmaCtrl])
  (repeat' (split <;> try (rename_i heq; simp only [Prod.ext_iff] at heq; obtain ⟨rfl, rfl⟩ := heq))) <;> simp [OnlyLat]
@[simp] theorem Hw.queueDown_frame (h : Hw) (e : RegEntry) :
    OnlyLat h (Hw.queueDown h e) := by
  unfold Hw.queueDown
  (try dsimp only [Hw.when, Hw.dkRx, Hw.latRx, Hw.calBus, Hw.request, Hw.chFree, Hw.dmaCtrl])
  (repeat' (split <;> try (rename_i heq; simp only [Prod.ext_iff] at heq; obtain ⟨rfl, rfl⟩ := heq))) <;> simp (disch := (intros; first | rfl | ((try dsimp only [Hw.when, Hw.dkRx, Hw.latRx, Hw.calBus, Hw.request, Hw.chFree, Hw.dmaCtrl]); first | rfl | ((repeat' (split <;> try (rename_i heq; simp only [Prod.ext_iff] at heq; obtain ⟨rfl, rfl⟩ := heq))) <;> first | rfl | (try simp))))) [OnlyLat, foldl_time, foldl_sys, foldl_wave, foldl_note, foldl_mywi, foldl_txn, foldl_sett, foldl_ref, foldl_steer, foldl_sealU, foldl_store, foldl_keep, foldl_keepSeed, foldl_evt, foldl_port, foldl_prong, foldl_pwr, foldl_cal, foldl_out, foldl_lat, foldl_deck, foldl_ibex, foldl_dma, foldl_tally, foldl_img, foldl_free]
@[simp] theorem Hw.actOn_frame (h : Hw) (e : RegEntry) :
    OnlyNoteMywiLat h (Hw.actOn h e) := by
  unfold Hw.actOn
  (try dsimp only [Hw.when, Hw.dkRx, Hw.latRx, Hw.calBus, Hw.request, Hw.chFree, Hw.dmaCtrl])
  (repeat' (split <;> try (rename_i heq; simp only [Prod.ext_iff] at heq; obtain ⟨rfl, rfl⟩ := heq))) <;> simp [OnlyNoteMywiLat]
@[simp] theorem Hw.answer_frame (h : Hw) (e : RegEntry) :
    OnlyNoteMywiLat h (Hw.answer h e) := by
  unfold Hw.answer
  (try dsimp only [Hw.when, Hw.dkRx, Hw.latRx, Hw.calBus, Hw.request, Hw.chFree, Hw.dmaCtrl])
  (repeat' (split <;> try (rename_i heq; simp only [Prod.ext_iff] at heq; obtain ⟨rfl, rfl⟩ := heq))) <;> simp [OnlyNoteMywiLat]
@[simp] theorem Hw.enrol_frame (h : Hw) (e : Nat) (node : Nat) (fixed : Bool) :
    OnlyLat h (Hw.enrol h e node fixed) := by
  unfold Hw.enrol
  (try dsimp only [Hw.when, Hw.dkRx, Hw.latRx, Hw.calBus, Hw.request, Hw.chFree, Hw.dmaCtrl])
  (repeat' (split <;> try (rename_i heq; simp only [Prod.ext_iff] at heq; obtain ⟨rfl, rfl⟩ := heq))) <;> simp [OnlyLat]
@[simp] theorem Hw.giveFree_frame (h : Hw) (node : Nat) (kind : Nat) :
    OnlyNoteMywiLat h (Hw.giveFree h node kind) := by
  unfold Hw.giveFree
  (try dsimp only [Hw.when, Hw.dkRx, Hw.latRx, Hw.calBus, Hw.request, Hw.chFree, Hw.dmaCtrl])
  (repeat' (split <;> try (rename_i heq; simp only [Prod.ext_iff] at heq; obtain ⟨rfl, rfl⟩ := heq))) <;> simp [OnlyNoteMywiLat]
@[simp] theorem Hw.registry_frame (h : Hw) (e : RegEntry) :
    OnlyNoteMywiLat h (Hw.registry h e) := by
  unfold Hw.registry
  (try dsimp only [Hw.when, Hw.dkRx, Hw.latRx, Hw.calBus, Hw.request, Hw.chFree, Hw.dmaCtrl])
  (repeat' (split <;> try (rename_i heq; simp only [Prod.ext_iff] at heq; obtain ⟨rfl, rfl⟩ := heq))) <;> simp [OnlyNoteMywiLat]
@[simp] theorem Hw.register_frame (h : Hw) :
    OnlyNoteMywiLat h (Hw.register h) := by
  unfold Hw.register
  (try dsimp only [Hw.when, Hw.dkRx, Hw.latRx, Hw.calBus, Hw.request, Hw.chFree, Hw.dmaCtrl])
  (repeat' (split <;> try (rename_i heq; simp only [Prod.ext_iff] at heq; obtain ⟨rfl, rfl⟩ := heq))) <;> simp [OnlyNoteMywiLat]
@[simp] theorem Hw.latQuality_frame (h : Hw) (n : Fin 4) (f : List Byte) :
    OnlyTimeNoteMywiRef h (Hw.latQuality h n f) := by
  unfold Hw.latQuality
  (try dsimp only [Hw.when, Hw.dkRx, Hw.latRx, Hw.calBus, Hw.request, Hw.chFree, Hw.dmaCtrl])
  (repeat' (split <;> try (rename_i heq; simp only [Prod.ext_iff] at heq; obtain ⟨rfl, rfl⟩ := heq))) <;> simp [OnlyTimeNoteMywiRef]
@[simp] theorem Hw.takeEntries_frame (h : Hw) (n : Fin 4) (up : Bool) (f : List Byte) :
    OnlyNoteMywiLat h (Hw.takeEntries h n up f) := by
  unfold Hw.takeEntries
  (try dsimp only [Hw.when, Hw.dkRx, Hw.latRx, Hw.calBus, Hw.request, Hw.chFree, Hw.dmaCtrl])
  (repeat' (split <;> try (rename_i heq; simp only [Prod.ext_iff] at heq; obtain ⟨rfl, rfl⟩ := heq))) <;> simp (disch := (intros; first | rfl | ((try dsimp only [Hw.when, Hw.dkRx, Hw.latRx, Hw.calBus, Hw.request, Hw.chFree, Hw.dmaCtrl]); first | rfl | ((repeat' (split <;> try (rename_i heq; simp only [Prod.ext_iff] at heq; obtain ⟨rfl, rfl⟩ := heq))) <;> first | rfl | (try simp))))) [OnlyNoteMywiLat, foldl_time, foldl_sys, foldl_wave, foldl_note, foldl_mywi, foldl_txn, foldl_sett, foldl_ref, foldl_steer, foldl_sealU, foldl_store, foldl_keep, foldl_keepSeed, foldl_evt, foldl_port, foldl_prong, foldl_pwr, foldl_cal, foldl_out, foldl_lat, foldl_deck, foldl_ibex, foldl_dma, foldl_tally, foldl_img, foldl_free]
@[simp] theorem Hw.deliverOffset_frame (h : Hw) (i : Fin 20) (o : Int) :
    OnlyNoteMywiRef h (Hw.deliverOffset h i o) := by
  unfold Hw.deliverOffset
  (try dsimp only [Hw.when, Hw.dkRx, Hw.latRx, Hw.calBus, Hw.request, Hw.chFree, Hw.dmaCtrl])
  (repeat' (split <;> try (rename_i heq; simp only [Prod.ext_iff] at heq; obtain ⟨rfl, rfl⟩ := heq))) <;> simp [OnlyNoteMywiRef]
@[simp] theorem Hw.latDeliver_frame (h : Hw) (n : Fin 4) (d : Int) (theta : Int) :
    OnlyNoteMywiRefLat h (Hw.latDeliver h n d theta) := by
  unfold Hw.latDeliver
  (try dsimp only [Hw.when, Hw.dkRx, Hw.latRx, Hw.calBus, Hw.request, Hw.chFree, Hw.dmaCtrl])
  (repeat' (split <;> try (rename_i heq; simp only [Prod.ext_iff] at heq; obtain ⟨rfl, rfl⟩ := heq))) <;> simp (disch := (intros; first | rfl | ((try dsimp only [Hw.when, Hw.dkRx, Hw.latRx, Hw.calBus, Hw.request, Hw.chFree, Hw.dmaCtrl]); first | rfl | ((repeat' (split <;> try (rename_i heq; simp only [Prod.ext_iff] at heq; obtain ⟨rfl, rfl⟩ := heq))) <;> first | rfl | (try simp))))) [OnlyNoteMywiRefLat, foldl_time, foldl_sys, foldl_wave, foldl_note, foldl_mywi, foldl_txn, foldl_sett, foldl_ref, foldl_steer, foldl_sealU, foldl_store, foldl_keep, foldl_keepSeed, foldl_evt, foldl_port, foldl_prong, foldl_pwr, foldl_cal, foldl_out, foldl_lat, foldl_deck, foldl_ibex, foldl_dma, foldl_tally, foldl_img, foldl_free]
@[simp] theorem Hw.latAccept_frame (h : Hw) (n : Fin 4) (d : Int) (theta : Int) :
    OnlyNoteMywiRefLatTally h (Hw.latAccept h n d theta) := by
  unfold Hw.latAccept
  (try dsimp only [Hw.when, Hw.dkRx, Hw.latRx, Hw.calBus, Hw.request, Hw.chFree, Hw.dmaCtrl])
  (repeat' (split <;> try (rename_i heq; simp only [Prod.ext_iff] at heq; obtain ⟨rfl, rfl⟩ := heq))) <;> simp [OnlyNoteMywiRefLatTally]
@[simp] theorem Hw.applyEid_frame (h : Hw) :
    OnlyLat h (Hw.applyEid h) := by
  unfold Hw.applyEid
  (try dsimp only [Hw.when, Hw.dkRx, Hw.latRx, Hw.calBus, Hw.request, Hw.chFree, Hw.dmaCtrl])
  (repeat' (split <;> try (rename_i heq; simp only [Prod.ext_iff] at heq; obtain ⟨rfl, rfl⟩ := heq))) <;> simp [OnlyLat]
@[simp] theorem Hw.restartBy_frame (h : Hw) (ses : Fin 11) (kind : RestartKind) (mode : Nat) :
    OnlySysMywiTxnSealU h (Hw.restartBy h ses kind mode) := by
  unfold Hw.restartBy
  (try dsimp only [Hw.when, Hw.dkRx, Hw.latRx, Hw.calBus, Hw.request, Hw.chFree, Hw.dmaCtrl])
  (repeat' (split <;> try (rename_i heq; simp only [Prod.ext_iff] at heq; obtain ⟨rfl, rfl⟩ := heq))) <;> simp [OnlySysMywiTxnSealU]
@[simp] theorem Hw.giveQueued_frame (h : Hw) (ses : Fin 11) :
    OnlyNoteMywi h (Hw.giveQueued h ses) := by
  unfold Hw.giveQueued
  (try dsimp only [Hw.when, Hw.dkRx, Hw.latRx, Hw.calBus, Hw.request, Hw.chFree, Hw.dmaCtrl])
  (repeat' (split <;> try (rename_i heq; simp only [Prod.ext_iff] at heq; obtain ⟨rfl, rfl⟩ := heq))) <;> simp (disch := (intros; first | rfl | ((try dsimp only [Hw.when, Hw.dkRx, Hw.latRx, Hw.calBus, Hw.request, Hw.chFree, Hw.dmaCtrl]); first | rfl | ((repeat' (split <;> try (rename_i heq; simp only [Prod.ext_iff] at heq; obtain ⟨rfl, rfl⟩ := heq))) <;> first | rfl | (try simp))))) [OnlyNoteMywi, foldl_time, foldl_sys, foldl_wave, foldl_note, foldl_mywi, foldl_txn, foldl_sett, foldl_ref, foldl_steer, foldl_sealU, foldl_store, foldl_keep, foldl_keepSeed, foldl_evt, foldl_port, foldl_prong, foldl_pwr, foldl_cal, foldl_out, foldl_lat, foldl_deck, foldl_ibex, foldl_dma, foldl_tally, foldl_img, foldl_free]
@[simp] theorem Hw.takeRoleSes_frame (h : Hw) (ses : Fin 11) (role : Nat) (account : Option String) :
    OnlyNoteMywi h (Hw.takeRoleSes h ses role account) := by
  unfold Hw.takeRoleSes
  (try dsimp only [Hw.when, Hw.dkRx, Hw.latRx, Hw.calBus, Hw.request, Hw.chFree, Hw.dmaCtrl])
  (repeat' (split <;> try (rename_i heq; simp only [Prod.ext_iff] at heq; obtain ⟨rfl, rfl⟩ := heq))) <;> simp [OnlyNoteMywi]
theorem Hw.login_frame (h : Hw) (ses : Fin 11) (role : Nat) (account : String) (k_ : Hw) (e_ : Hw.login h ses role account = .ok k_) :
    OnlyNoteMywiSealUStoreTally h k_ := by
  unfold Hw.login at e_
  revert e_
  (try dsimp only [Hw.when])
  (repeat' (split <;> try (rename_i heq; simp only [Prod.ext_iff] at heq; obtain ⟨rfl, rfl⟩ := heq))) <;> intro e_ <;> first | (injection e_ with e_; subst e_; simp [OnlyNoteMywiSealUStoreTally]) | (exact absurd e_ (by simp)) 
@[simp] theorem Hw.authFail_frame (h : Hw) (ses : Fin 11) (name : String) :
    OnlyNoteMywi h (Hw.authFail h ses name) := by
  unfold Hw.authFail
  (try dsimp only [Hw.when, Hw.dkRx, Hw.latRx, Hw.calBus, Hw.request, Hw.chFree, Hw.dmaCtrl])
  (repeat' (split <;> try (rename_i heq; simp only [Prod.ext_iff] at heq; obtain ⟨rfl, rfl⟩ := heq))) <;> simp [OnlyNoteMywi]
@[simp] theorem Hw.note0_frame (h : Hw) (s : Fin 28) (b : Nat) (stem : String) :
    OnlyNoteMywi h (Hw.note0 h s b stem) := by
  unfold Hw.note0
  (try dsimp only [Hw.when, Hw.dkRx, Hw.latRx, Hw.calBus, Hw.request, Hw.chFree, Hw.dmaCtrl])
  (repeat' (split <;> try (rename_i heq; simp only [Prod.ext_iff] at heq; obtain ⟨rfl, rfl⟩ := heq))) <;> simp [OnlyNoteMywi]
@[simp] theorem Hw.squelchNotice_frame (h : Hw) (o : Nat) (t : Nat) :
    OnlyNoteMywi h (Hw.squelchNotice h o t) := by
  unfold Hw.squelchNotice
  (try dsimp only [Hw.when, Hw.dkRx, Hw.latRx, Hw.calBus, Hw.request, Hw.chFree, Hw.dmaCtrl])
  (repeat' (split <;> try (rename_i heq; simp only [Prod.ext_iff] at heq; obtain ⟨rfl, rfl⟩ := heq))) <;> simp [OnlyNoteMywi]
@[simp] theorem Hw.pulseTake_frame (h : Hw) (n : Fin 4) :
    OnlyOut h (Hw.pulseTake h n) := by
  unfold Hw.pulseTake
  (try dsimp only [Hw.when, Hw.dkRx, Hw.latRx, Hw.calBus, Hw.request, Hw.chFree, Hw.dmaCtrl])
  (repeat' (split <;> try (rename_i heq; simp only [Prod.ext_iff] at heq; obtain ⟨rfl, rfl⟩ := heq))) <;> simp [OnlyOut]
@[simp] theorem Hw.startRest_frame (h : Hw) :
    OnlyTimeSysPwr h (Hw.startRest h) := by
  unfold Hw.startRest
  (try dsimp only [Hw.when, Hw.dkRx, Hw.latRx, Hw.calBus, Hw.request, Hw.chFree, Hw.dmaCtrl])
  (repeat' (split <;> try (rename_i heq; simp only [Prod.ext_iff] at heq; obtain ⟨rfl, rfl⟩ := heq))) <;> simp [OnlyTimeSysPwr]
@[simp] theorem Hw.askBack_frame (h : Hw) :
    OnlyPwr h (Hw.askBack h) := by
  unfold Hw.askBack
  (try dsimp only [Hw.when, Hw.dkRx, Hw.latRx, Hw.calBus, Hw.request, Hw.chFree, Hw.dmaCtrl])
  (repeat' (split <;> try (rename_i heq; simp only [Prod.ext_iff] at heq; obtain ⟨rfl, rfl⟩ := heq))) <;> simp [OnlyPwr]
@[simp] theorem Hw.sayWake_frame (h : Hw) (w : Nat × Option Nat) :
    OnlyNoteMywi h (Hw.sayWake h w) := by
  unfold Hw.sayWake
  (try dsimp only [Hw.when, Hw.dkRx, Hw.latRx, Hw.calBus, Hw.request, Hw.chFree, Hw.dmaCtrl])
  (repeat' (split <;> try (rename_i heq; simp only [Prod.ext_iff] at heq; obtain ⟨rfl, rfl⟩ := heq))) <;> simp [OnlyNoteMywi]
@[simp] theorem Hw.sayWakes_frame (h : Hw) :
    OnlyNoteMywiPwr h (Hw.sayWakes h) := by
  unfold Hw.sayWakes
  (try dsimp only [Hw.when, Hw.dkRx, Hw.latRx, Hw.calBus, Hw.request, Hw.chFree, Hw.dmaCtrl])
  (repeat' (split <;> try (rename_i heq; simp only [Prod.ext_iff] at heq; obtain ⟨rfl, rfl⟩ := heq))) <;> simp (disch := (intros; first | rfl | ((try dsimp only [Hw.when, Hw.dkRx, Hw.latRx, Hw.calBus, Hw.request, Hw.chFree, Hw.dmaCtrl]); first | rfl | ((repeat' (split <;> try (rename_i heq; simp only [Prod.ext_iff] at heq; obtain ⟨rfl, rfl⟩ := heq))) <;> first | rfl | (try simp))))) [OnlyNoteMywiPwr, foldl_time, foldl_sys, foldl_wave, foldl_note, foldl_mywi, foldl_txn, foldl_sett, foldl_ref, foldl_steer, foldl_sealU, foldl_store, foldl_keep, foldl_keepSeed, foldl_evt, foldl_port, foldl_prong, foldl_pwr, foldl_cal, foldl_out, foldl_lat, foldl_deck, foldl_ibex, foldl_dma, foldl_tally, foldl_img, foldl_free]
@[simp] theorem Hw.startReturn_frame (h : Hw) (p : PState) :
    OnlySysPwr h (Hw.startReturn h p) := by
  unfold Hw.startReturn
  (try dsimp only [Hw.when, Hw.dkRx, Hw.latRx, Hw.calBus, Hw.request, Hw.chFree, Hw.dmaCtrl])
  (repeat' (split <;> try (rename_i heq; simp only [Prod.ext_iff] at heq; obtain ⟨rfl, rfl⟩ := heq))) <;> simp [OnlySysPwr]
@[simp] theorem Hw.mergeWake_frame (h : Hw) (c : Nat) :
    OnlyPwr h (Hw.mergeWake h c) := by
  unfold Hw.mergeWake
  (try dsimp only [Hw.when, Hw.dkRx, Hw.latRx, Hw.calBus, Hw.request, Hw.chFree, Hw.dmaCtrl])
  (repeat' (split <;> try (rename_i heq; simp only [Prod.ext_iff] at heq; obtain ⟨rfl, rfl⟩ := heq))) <;> simp [OnlyPwr]
@[simp] theorem Hw.endEntry_frame (h : Hw) :
    OnlySealUPwr h (Hw.endEntry h) := by
  unfold Hw.endEntry
  (try dsimp only [Hw.when, Hw.dkRx, Hw.latRx, Hw.calBus, Hw.request, Hw.chFree, Hw.dmaCtrl])
  (repeat' (split <;> try (rename_i heq; simp only [Prod.ext_iff] at heq; obtain ⟨rfl, rfl⟩ := heq))) <;> simp [OnlySealUPwr]
@[simp] theorem Hw.abandon_frame (h : Hw) (point : Nat) (cause : String) :
    OnlySysNoteMywiSealUPwr h (Hw.abandon h point cause) := by
  unfold Hw.abandon
  (try dsimp only [Hw.when, Hw.dkRx, Hw.latRx, Hw.calBus, Hw.request, Hw.chFree, Hw.dmaCtrl])
  (repeat' (split <;> try (rename_i heq; simp only [Prod.ext_iff] at heq; obtain ⟨rfl, rfl⟩ := heq))) <;> simp (disch := (intros; first | rfl | ((try dsimp only [Hw.when, Hw.dkRx, Hw.latRx, Hw.calBus, Hw.request, Hw.chFree, Hw.dmaCtrl]); first | rfl | ((repeat' (split <;> try (rename_i heq; simp only [Prod.ext_iff] at heq; obtain ⟨rfl, rfl⟩ := heq))) <;> first | rfl | (try simp))))) [OnlySysNoteMywiSealUPwr, foldl_time, foldl_sys, foldl_wave, foldl_note, foldl_mywi, foldl_txn, foldl_sett, foldl_ref, foldl_steer, foldl_sealU, foldl_store, foldl_keep, foldl_keepSeed, foldl_evt, foldl_port, foldl_prong, foldl_pwr, foldl_cal, foldl_out, foldl_lat, foldl_deck, foldl_ibex, foldl_dma, foldl_tally, foldl_img, foldl_free]
@[simp] theorem Hw.startEntry_frame (h : Hw) (target : PState) :
    OnlySealUPwr h (Hw.startEntry h target) := by
  unfold Hw.startEntry
  (try dsimp only [Hw.when, Hw.dkRx, Hw.latRx, Hw.calBus, Hw.request, Hw.chFree, Hw.dmaCtrl])
  (repeat' (split <;> try (rename_i heq; simp only [Prod.ext_iff] at heq; obtain ⟨rfl, rfl⟩ := heq))) <;> simp [OnlySealUPwr]
theorem Hw.powerOffStart_frame (h : Hw) (force : Bool) (k_ : Hw) (e_ : Hw.powerOffStart h force = .ok k_) :
    OnlySealUPwr h k_ := by
  unfold Hw.powerOffStart at e_
  revert e_
  (try dsimp only [Hw.when])
  (repeat' (split <;> try (rename_i heq; simp only [Prod.ext_iff] at heq; obtain ⟨rfl, rfl⟩ := heq))) <;> intro e_ <;> first | (injection e_ with e_; subst e_; simp [OnlySealUPwr]) | (exact absurd e_ (by simp)) 
@[simp] theorem Hw.loseBank_frame (h : Hw) (b : Fin 16) :
    OnlyKeepKeepSeedFree h (Hw.loseBank h b) := by
  unfold Hw.loseBank
  (try dsimp only [Hw.when, Hw.dkRx, Hw.latRx, Hw.calBus, Hw.request, Hw.chFree, Hw.dmaCtrl])
  (repeat' (split <;> try (rename_i heq; simp only [Prod.ext_iff] at heq; obtain ⟨rfl, rfl⟩ := heq))) <;> simp [OnlyKeepKeepSeedFree]
@[simp] theorem Hw.returnTest_frame (h : Hw) :
    OnlyNoteMywiPwr h (Hw.returnTest h) := by
  unfold Hw.returnTest
  (try dsimp only [Hw.when, Hw.dkRx, Hw.latRx, Hw.calBus, Hw.request, Hw.chFree, Hw.dmaCtrl])
  (repeat' (split <;> try (rename_i heq; simp only [Prod.ext_iff] at heq; obtain ⟨rfl, rfl⟩ := heq))) <;> simp [OnlyNoteMywiPwr]
@[simp] theorem Hw.busFault_frame (h : Hw) (bus : Fin 3) :
    OnlyNoteMywiPwr h (Hw.busFault h bus) := by
  unfold Hw.busFault
  (try dsimp only [Hw.when, Hw.dkRx, Hw.latRx, Hw.calBus, Hw.request, Hw.chFree, Hw.dmaCtrl])
  (repeat' (split <;> try (rename_i heq; simp only [Prod.ext_iff] at heq; obtain ⟨rfl, rfl⟩ := heq))) <;> simp [OnlyNoteMywiPwr]
@[simp] theorem Hw.gstepBound_frame (h : Hw) (t1 : Int) (t2 : Int) (g : Nat) :
    OnlyTimeSteerFree h (Hw.gstepBound h t1 t2 g) := by
  unfold Hw.gstepBound
  (try dsimp only [Hw.when, Hw.dkRx, Hw.latRx, Hw.calBus, Hw.request, Hw.chFree, Hw.dmaCtrl])
  (repeat' (split <;> try (rename_i heq; simp only [Prod.ext_iff] at heq; obtain ⟨rfl, rfl⟩ := heq))) <;> simp [OnlyTimeSteerFree]
@[simp] theorem Hw.emptyWindow_frame (h : Hw) :
    OnlyNoteMywiSteer h (Hw.emptyWindow h) := by
  unfold Hw.emptyWindow
  (try dsimp only [Hw.when, Hw.dkRx, Hw.latRx, Hw.calBus, Hw.request, Hw.chFree, Hw.dmaCtrl])
  (repeat' (split <;> try (rename_i heq; simp only [Prod.ext_iff] at heq; obtain ⟨rfl, rfl⟩ := heq))) <;> simp [OnlyNoteMywiSteer]
@[simp] theorem Hw.readTemp_frame (h : Hw) (die : Int) (pmb : Option Int) :
    OnlyNoteMywiSteer h (Hw.readTemp h die pmb) := by
  unfold Hw.readTemp
  (try dsimp only [Hw.when, Hw.dkRx, Hw.latRx, Hw.calBus, Hw.request, Hw.chFree, Hw.dmaCtrl])
  (repeat' (split <;> try (rename_i heq; simp only [Prod.ext_iff] at heq; obtain ⟨rfl, rfl⟩ := heq))) <;> simp [OnlyNoteMywiSteer]
@[simp] theorem Hw.stepTemp_frame (h : Hw) (graze : Bool) (run : Bool) (temp : Int) :
    OnlyTimeNoteMywiSteerPwrFree h (Hw.stepTemp h graze run temp).2 := by
  unfold Hw.stepTemp
  (try dsimp only [Hw.when, Hw.dkRx, Hw.latRx, Hw.calBus, Hw.request, Hw.chFree, Hw.dmaCtrl])
  (repeat' (split <;> try (rename_i heq; simp only [Prod.ext_iff] at heq; obtain ⟨rfl, rfl⟩ := heq))) <;> simp [OnlyTimeNoteMywiSteerPwrFree]
@[simp] theorem Hw.loopUnlock_frame (h : Hw) (cause : String) :
    OnlyTimeNoteMywiSteer h (Hw.loopUnlock h cause) := by
  unfold Hw.loopUnlock
  (try dsimp only [Hw.when, Hw.dkRx, Hw.latRx, Hw.calBus, Hw.request, Hw.chFree, Hw.dmaCtrl])
  (repeat' (split <;> try (rename_i heq; simp only [Prod.ext_iff] at heq; obtain ⟨rfl, rfl⟩ := heq))) <;> simp [OnlyTimeNoteMywiSteer]
@[simp] theorem Hw.pull_frame (h : Hw) (y : Int) :
    OnlyTimeNoteMywiSteer h (Hw.pull h y).2 := by
  unfold Hw.pull
  (try dsimp only [Hw.when, Hw.dkRx, Hw.latRx, Hw.calBus, Hw.request, Hw.chFree, Hw.dmaCtrl])
  (repeat' (split <;> try (rename_i heq; simp only [Prod.ext_iff] at heq; obtain ⟨rfl, rfl⟩ := heq))) <;> simp [OnlyTimeNoteMywiSteer]
@[simp] theorem Hw.stepPredict_frame (h : Hw) (graze : Bool) :
    OnlyTimeNoteMywiSteerFree h (Hw.stepPredict h graze).2 := by
  unfold Hw.stepPredict
  (try dsimp only [Hw.when, Hw.dkRx, Hw.latRx, Hw.calBus, Hw.request, Hw.chFree, Hw.dmaCtrl])
  (repeat' (split <;> try (rename_i heq; simp only [Prod.ext_iff] at heq; obtain ⟨rfl, rfl⟩ := heq))) <;> simp [OnlyTimeNoteMywiSteerFree]
@[simp] theorem Hw.stepKeepcal_frame (h : Hw) (run : Bool) (keepErr : Int) (fx : Int) (dwell : Nat) :
    OnlyPwr h (Hw.stepKeepcal h run keepErr fx dwell).2 := by
  unfold Hw.stepKeepcal
  (try dsimp only [Hw.when, Hw.dkRx, Hw.latRx, Hw.calBus, Hw.request, Hw.chFree, Hw.dmaCtrl])
  (repeat' (split <;> try (rename_i heq; simp only [Prod.ext_iff] at heq; obtain ⟨rfl, rfl⟩ := heq))) <;> simp [OnlyPwr]
@[simp] theorem Hw.stepActions_frame (h : Hw) (graze : Bool) (run : Bool) (b : Nat) (dwell : Nat) (temp : Int) (keepErr : Int) (fx : Int) (refSeen : Bool) (cmpHit : Bool) :
    OnlyTimeNoteMywiSteerPwrFree h (Hw.stepActions h graze run b dwell temp keepErr fx refSeen cmpHit).2 := by
  unfold Hw.stepActions
  (try dsimp only [Hw.when, Hw.dkRx, Hw.latRx, Hw.calBus, Hw.request, Hw.chFree, Hw.dmaCtrl])
  (repeat' (split <;> try (rename_i heq; simp only [Prod.ext_iff] at heq; obtain ⟨rfl, rfl⟩ := heq))) <;> simp [OnlyTimeNoteMywiSteerPwrFree]
@[simp] theorem Hw.wakeArgSay_frame (h : Hw) (b : Byte) :
    OnlyNoteMywiPwr h (Hw.wakeArgSay h b) := by
  unfold Hw.wakeArgSay
  (try dsimp only [Hw.when, Hw.dkRx, Hw.latRx, Hw.calBus, Hw.request, Hw.chFree, Hw.dmaCtrl])
  (repeat' (split <;> try (rename_i heq; simp only [Prod.ext_iff] at heq; obtain ⟨rfl, rfl⟩ := heq))) <;> simp [OnlyNoteMywiPwr]
@[simp] theorem Hw.lookup_frame (h : Hw) (q : Fin 16) (t : Nat) (a : Addr) :
    OnlyNoteMywiProngTally h (Hw.lookup h q t a).2 := by
  unfold Hw.lookup
  (try dsimp only [Hw.when, Hw.dkRx, Hw.latRx, Hw.calBus, Hw.request, Hw.chFree, Hw.dmaCtrl])
  (repeat' (split <;> try (rename_i heq; simp only [Prod.ext_iff] at heq; obtain ⟨rfl, rfl⟩ := heq))) <;> simp [OnlyNoteMywiProngTally]
@[simp] theorem Hw.rateUpdate_frame (h : Hw) (g : Fin 4) (t : Nat) (a : Addr) (c : Nat) :
    OnlySysNoteMywiSealUStoreProngTally h (Hw.rateUpdate h g t a c).2 := by
  unfold Hw.rateUpdate
  (try dsimp only [Hw.when, Hw.dkRx, Hw.latRx, Hw.calBus, Hw.request, Hw.chFree, Hw.dmaCtrl])
  (repeat' (split <;> try (rename_i heq; simp only [Prod.ext_iff] at heq; obtain ⟨rfl, rfl⟩ := heq))) <;> simp [OnlySysNoteMywiSealUStoreProngTally]
@[simp] theorem Hw.cacheNew_frame (h : Hw) (q : Fin 16) (t : Nat) (a : Addr) :
    OnlyProng h (Hw.cacheNew h q t a) := by
  unfold Hw.cacheNew
  (try dsimp only [Hw.when, Hw.dkRx, Hw.latRx, Hw.calBus, Hw.request, Hw.chFree, Hw.dmaCtrl])
  (repeat' (split <;> try (rename_i heq; simp only [Prod.ext_iff] at heq; obtain ⟨rfl, rfl⟩ := heq))) <;> simp [OnlyProng]
@[simp] theorem Hw.bookReply_frame (h : Hw) (l : Fin 16) (q : Fin 16) (rx : Nat) (e : Nat) (len : Nat) (handAt : Nat) (urgent : Bool) (m : Nat → Msg) :
    OnlyPort h (Hw.bookReply h l q rx e len handAt urgent m) := by
  unfold Hw.bookReply
  (try dsimp only [Hw.when, Hw.dkRx, Hw.latRx, Hw.calBus, Hw.request, Hw.chFree, Hw.dmaCtrl])
  (repeat' (split <;> try (rename_i heq; simp only [Prod.ext_iff] at heq; obtain ⟨rfl, rfl⟩ := heq))) <;> simp [OnlyPort]
@[simp] theorem Hw.noteUrgent_frame (h : Hw) (l : Fin 16) (rx : Nat) (at_ : Nat) (len : Nat) (deep : Bool) :
    OnlyPort h (Hw.noteUrgent h l rx at_ len deep) := by
  unfold Hw.noteUrgent
  (try dsimp only [Hw.when, Hw.dkRx, Hw.latRx, Hw.calBus, Hw.request, Hw.chFree, Hw.dmaCtrl])
  (repeat' (split <;> try (rename_i heq; simp only [Prod.ext_iff] at heq; obtain ⟨rfl, rfl⟩ := heq))) <;> simp [OnlyPort]
@[simp] theorem Hw.urgentSlot_frame (h : Hw) (l : Fin 16) (q : Fin 16) (rx : Nat) :
    OnlyProng h (Hw.urgentSlot h l q rx).2.2 := by
  unfold Hw.urgentSlot
  (try dsimp only [Hw.when, Hw.dkRx, Hw.latRx, Hw.calBus, Hw.request, Hw.chFree, Hw.dmaCtrl])
  (repeat' (split <;> try (rename_i heq; simp only [Prod.ext_iff] at heq; obtain ⟨rfl, rfl⟩ := heq))) <;> simp [OnlyProng]
@[simp] theorem Hw.takeWork_frame (h : Hw) (l : Fin 16) (q : Fin 16) (rx : Nat) (cost : Nat) :
    OnlyProng h (Hw.takeWork h l q rx cost) := by
  unfold Hw.takeWork
  (try dsimp only [Hw.when, Hw.dkRx, Hw.latRx, Hw.calBus, Hw.request, Hw.chFree, Hw.dmaCtrl])
  (repeat' (split <;> try (rename_i heq; simp only [Prod.ext_iff] at heq; obtain ⟨rfl, rfl⟩ := heq))) <;> simp [OnlyProng]
@[simp] theorem Hw.serveOn_frame (h : Hw) (l : Fin 16) (q : Fin 16) (rx : Nat) (cost : Nat) (len : Nat) (urgent : Bool) (build : Hw → Nat → Msg) :
    OnlyNoteMywiPortProngPwrTally h (Hw.serveOn h l q rx cost len urgent build) := by
  unfold Hw.serveOn
  (try dsimp only [Hw.when, Hw.dkRx, Hw.latRx, Hw.calBus, Hw.request, Hw.chFree, Hw.dmaCtrl])
  (repeat' (split <;> try (rename_i heq; simp only [Prod.ext_iff] at heq; obtain ⟨rfl, rfl⟩ := heq))) <;> simp [OnlyNoteMywiPortProngPwrTally]
@[simp] theorem Hw.timeRequest_frame (h : Hw) (l : Fin 16) (q : Fin 16) (r : NtpReq) (nts : Option NtsPart) :
    OnlySysNoteMywiSealUStorePortProngPwrTally h (Hw.timeRequest h l q r nts) := by
  unfold Hw.timeRequest
  (try dsimp only [Hw.when, Hw.dkRx, Hw.latRx, Hw.calBus, Hw.request, Hw.chFree, Hw.dmaCtrl])
  (repeat' (split <;> try (rename_i heq; simp only [Prod.ext_iff] at heq; obtain ⟨rfl, rfl⟩ := heq))) <;> simp [OnlySysNoteMywiSealUStorePortProngPwrTally]
@[simp] theorem Hw.ptpRequest_frame (h : Hw) (l : Fin 16) (r : PtpReq) (build : Nat → Nat → Msg) :
    OnlyNoteMywiPortProngPwrTally h (Hw.ptpRequest h l r build) := by
  unfold Hw.ptpRequest
  (try dsimp only [Hw.when, Hw.dkRx, Hw.latRx, Hw.calBus, Hw.request, Hw.chFree, Hw.dmaCtrl])
  (repeat' (split <;> try (rename_i heq; simp only [Prod.ext_iff] at heq; obtain ⟨rfl, rfl⟩ := heq))) <;> simp [OnlyNoteMywiPortProngPwrTally]
@[simp] theorem Hw.lateDrop_frame (h : Hw) (l : Fin 16) (b : Booking) :
    OnlyNoteMywiProngTally h (Hw.lateDrop h l b) := by
  unfold Hw.lateDrop
  (try dsimp only [Hw.when, Hw.dkRx, Hw.latRx, Hw.calBus, Hw.request, Hw.chFree, Hw.dmaCtrl])
  (repeat' (split <;> try (rename_i heq; simp only [Prod.ext_iff] at heq; obtain ⟨rfl, rfl⟩ := heq))) <;> simp [OnlyNoteMywiProngTally]
@[simp] theorem Hw.crossed_frame (h : Hw) (l : Fin 16) (b : Booking) :
    OnlyNoteMywiPortProngTally h (Hw.crossed h l b) := by
  unfold Hw.crossed
  (try dsimp only [Hw.when, Hw.dkRx, Hw.latRx, Hw.calBus, Hw.request, Hw.chFree, Hw.dmaCtrl])
  (repeat' (split <;> try (rename_i heq; simp only [Prod.ext_iff] at heq; obtain ⟨rfl, rfl⟩ := heq))) <;> simp [OnlyNoteMywiPortProngTally]
@[simp] theorem Hw.released_frame (h : Hw) (l : Fin 16) (b : Booking) :
    OnlyNoteMywiTally h (Hw.released h l b) := by
  unfold Hw.released
  (try dsimp only [Hw.when, Hw.dkRx, Hw.latRx, Hw.calBus, Hw.request, Hw.chFree, Hw.dmaCtrl])
  (repeat' (split <;> try (rename_i heq; simp only [Prod.ext_iff] at heq; obtain ⟨rfl, rfl⟩ := heq))) <;> simp [OnlyNoteMywiTally]
@[simp] theorem Hw.hashGo_frame (h : Hw) (af : Bool) :
    OnlyProng h (Hw.hashGo h af) := by
  unfold Hw.hashGo
  (try dsimp only [Hw.when, Hw.dkRx, Hw.latRx, Hw.calBus, Hw.request, Hw.chFree, Hw.dmaCtrl])
  (repeat' (split <;> try (rename_i heq; simp only [Prod.ext_iff] at heq; obtain ⟨rfl, rfl⟩ := heq))) <;> simp [OnlyProng]
@[simp] theorem Hw.freshRing_frame (h : Hw) :
    OnlyProngFree h (Hw.freshRing h) := by
  unfold Hw.freshRing
  (try dsimp only [Hw.when, Hw.dkRx, Hw.latRx, Hw.calBus, Hw.request, Hw.chFree, Hw.dmaCtrl])
  (repeat' (split <;> try (rename_i heq; simp only [Prod.ext_iff] at heq; obtain ⟨rfl, rfl⟩ := heq))) <;> simp [OnlyProngFree]
@[simp] theorem Hw.bankSwitch_frame (h : Hw) :
    OnlyNoteMywiSettProng h (Hw.bankSwitch h) := by
  unfold Hw.bankSwitch
  (try dsimp only [Hw.when, Hw.dkRx, Hw.latRx, Hw.calBus, Hw.request, Hw.chFree, Hw.dmaCtrl])
  (repeat' (split <;> try (rename_i heq; simp only [Prod.ext_iff] at heq; obtain ⟨rfl, rfl⟩ := heq))) <;> simp (disch := (intros; first | rfl | ((try dsimp only [Hw.when, Hw.dkRx, Hw.latRx, Hw.calBus, Hw.request, Hw.chFree, Hw.dmaCtrl]); first | rfl | ((repeat' (split <;> try (rename_i heq; simp only [Prod.ext_iff] at heq; obtain ⟨rfl, rfl⟩ := heq))) <;> first | rfl | (try simp))))) [OnlyNoteMywiSettProng, foldl_time, foldl_sys, foldl_wave, foldl_note, foldl_mywi, foldl_txn, foldl_sett, foldl_ref, foldl_steer, foldl_sealU, foldl_store, foldl_keep, foldl_keepSeed, foldl_evt, foldl_port, foldl_prong, foldl_pwr, foldl_cal, foldl_out, foldl_lat, foldl_deck, foldl_ibex, foldl_dma, foldl_tally, foldl_img, foldl_free]
@[simp] theorem Hw.countEdge_frame (h : Hw) (i : Fin 20) (now : Nat) :
    OnlyRef h (Hw.countEdge h i now) := by
  unfold Hw.countEdge
  (try dsimp only [Hw.when, Hw.dkRx, Hw.latRx, Hw.calBus, Hw.request, Hw.chFree, Hw.dmaCtrl])
  (repeat' (split <;> try (rename_i heq; simp only [Prod.ext_iff] at heq; obtain ⟨rfl, rfl⟩ := heq))) <;> simp [OnlyRef]
@[simp] theorem Hw.remapGnss_frame (h : Hw) (i : Fin 4) :
    OnlyRef h (Hw.remapGnss h i) := by
  unfold Hw.remapGnss
  (try dsimp only [Hw.when, Hw.dkRx, Hw.latRx, Hw.calBus, Hw.request, Hw.chFree, Hw.dmaCtrl])
  (repeat' (split <;> try (rename_i heq; simp only [Prod.ext_iff] at heq; obtain ⟨rfl, rfl⟩ := heq))) <;> simp [OnlyRef]
@[simp] theorem Hw.labelled_frame (h : Hw) (i : Fin 4) (now : Nat) (stamp : Nat) (utc : Nat) :
    OnlyNoteMywiRef h (Hw.labelled h i now stamp utc) := by
  unfold Hw.labelled
  (try dsimp only [Hw.when, Hw.dkRx, Hw.latRx, Hw.calBus, Hw.request, Hw.chFree, Hw.dmaCtrl])
  (repeat' (split <;> try (rename_i heq; simp only [Prod.ext_iff] at heq; obtain ⟨rfl, rfl⟩ := heq))) <;> simp [OnlyNoteMywiRef]
@[simp] theorem Hw.demote_frame (h : Hw) (i : Fin 20) (reason : Nat) (winner : String) (nomajority : Bool) :
    OnlyNoteMywiRef h (Hw.demote h i reason winner nomajority) := by
  unfold Hw.demote
  (try dsimp only [Hw.when, Hw.dkRx, Hw.latRx, Hw.calBus, Hw.request, Hw.chFree, Hw.dmaCtrl])
  (repeat' (split <;> try (rename_i heq; simp only [Prod.ext_iff] at heq; obtain ⟨rfl, rfl⟩ := heq))) <;> simp [OnlyNoteMywiRef]
@[simp] theorem Hw.phaseDemotions_frame (h : Hw) :
    OnlyNoteMywiRef h (Hw.phaseDemotions h) := by
  unfold Hw.phaseDemotions
  (try dsimp only [Hw.when, Hw.dkRx, Hw.latRx, Hw.calBus, Hw.request, Hw.chFree, Hw.dmaCtrl])
  (repeat' (split <;> try (rename_i heq; simp only [Prod.ext_iff] at heq; obtain ⟨rfl, rfl⟩ := heq))) <;> simp (disch := (intros; first | rfl | ((try dsimp only [Hw.when, Hw.dkRx, Hw.latRx, Hw.calBus, Hw.request, Hw.chFree, Hw.dmaCtrl]); first | rfl | ((repeat' (split <;> try (rename_i heq; simp only [Prod.ext_iff] at heq; obtain ⟨rfl, rfl⟩ := heq))) <;> first | rfl | (try simp))))) [OnlyNoteMywiRef, foldl_time, foldl_sys, foldl_wave, foldl_note, foldl_mywi, foldl_txn, foldl_sett, foldl_ref, foldl_steer, foldl_sealU, foldl_store, foldl_keep, foldl_keepSeed, foldl_evt, foldl_port, foldl_prong, foldl_pwr, foldl_cal, foldl_out, foldl_lat, foldl_deck, foldl_ibex, foldl_dma, foldl_tally, foldl_img, foldl_free]
@[simp] theorem Hw.atomQuality_frame (h : Hw) (i : Fin 2) :
    OnlyNoteMywiRef h (Hw.atomQuality h i) := by
  unfold Hw.atomQuality
  (try dsimp only [Hw.when, Hw.dkRx, Hw.latRx, Hw.calBus, Hw.request, Hw.chFree, Hw.dmaCtrl])
  (repeat' (split <;> try (rename_i heq; simp only [Prod.ext_iff] at heq; obtain ⟨rfl, rfl⟩ := heq))) <;> simp [OnlyNoteMywiRef]
@[simp] theorem Hw.noteFreq_frame (h : Hw) :
    OnlySteer h (Hw.noteFreq h) := by
  unfold Hw.noteFreq
  (try dsimp only [Hw.when, Hw.dkRx, Hw.latRx, Hw.calBus, Hw.request, Hw.chFree, Hw.dmaCtrl])
  (repeat' (split <;> try (rename_i heq; simp only [Prod.ext_iff] at heq; obtain ⟨rfl, rfl⟩ := heq))) <;> simp [OnlySteer]
@[simp] theorem Hw.freqDemotions_frame (h : Hw) (synce : List (Option Int)) :
    OnlyNoteMywiRefFree h (Hw.freqDemotions h synce) := by
  unfold Hw.freqDemotions
  (try dsimp only [Hw.when, Hw.dkRx, Hw.latRx, Hw.calBus, Hw.request, Hw.chFree, Hw.dmaCtrl])
  (repeat' (split <;> try (rename_i heq; simp only [Prod.ext_iff] at heq; obtain ⟨rfl, rfl⟩ := heq))) <;> simp (disch := (intros; first | rfl | ((try dsimp only [Hw.when, Hw.dkRx, Hw.latRx, Hw.calBus, Hw.request, Hw.chFree, Hw.dmaCtrl]); first | rfl | ((repeat' (split <;> try (rename_i heq; simp only [Prod.ext_iff] at heq; obtain ⟨rfl, rfl⟩ := heq))) <;> first | rfl | (try simp))))) [OnlyNoteMywiRefFree, foldl_time, foldl_sys, foldl_wave, foldl_note, foldl_mywi, foldl_txn, foldl_sett, foldl_ref, foldl_steer, foldl_sealU, foldl_store, foldl_keep, foldl_keepSeed, foldl_evt, foldl_port, foldl_prong, foldl_pwr, foldl_cal, foldl_out, foldl_lat, foldl_deck, foldl_ibex, foldl_dma, foldl_tally, foldl_img, foldl_free]
@[simp] theorem Hw.secondsDemotions_frame (h : Hw) :
    OnlyNoteMywiRef h (Hw.secondsDemotions h) := by
  unfold Hw.secondsDemotions
  (try dsimp only [Hw.when, Hw.dkRx, Hw.latRx, Hw.calBus, Hw.request, Hw.chFree, Hw.dmaCtrl])
  (repeat' (split <;> try (rename_i heq; simp only [Prod.ext_iff] at heq; obtain ⟨rfl, rfl⟩ := heq))) <;> simp (disch := (intros; first | rfl | ((try dsimp only [Hw.when, Hw.dkRx, Hw.latRx, Hw.calBus, Hw.request, Hw.chFree, Hw.dmaCtrl]); first | rfl | ((repeat' (split <;> try (rename_i heq; simp only [Prod.ext_iff] at heq; obtain ⟨rfl, rfl⟩ := heq))) <;> first | rfl | (try simp))))) [OnlyNoteMywiRef, foldl_time, foldl_sys, foldl_wave, foldl_note, foldl_mywi, foldl_txn, foldl_sett, foldl_ref, foldl_steer, foldl_sealU, foldl_store, foldl_keep, foldl_keepSeed, foldl_evt, foldl_port, foldl_prong, foldl_pwr, foldl_cal, foldl_out, foldl_lat, foldl_deck, foldl_ibex, foldl_dma, foldl_tally, foldl_img, foldl_free]
@[simp] theorem Hw.dropDisallowed_frame (h : Hw) :
    OnlyNoteMywiRef h (Hw.dropDisallowed h) := by
  unfold Hw.dropDisallowed
  (try dsimp only [Hw.when, Hw.dkRx, Hw.latRx, Hw.calBus, Hw.request, Hw.chFree, Hw.dmaCtrl])
  (repeat' (split <;> try (rename_i heq; simp only [Prod.ext_iff] at heq; obtain ⟨rfl, rfl⟩ := heq))) <;> simp (disch := (intros; first | rfl | ((try dsimp only [Hw.when, Hw.dkRx, Hw.latRx, Hw.calBus, Hw.request, Hw.chFree, Hw.dmaCtrl]); first | rfl | ((repeat' (split <;> try (rename_i heq; simp only [Prod.ext_iff] at heq; obtain ⟨rfl, rfl⟩ := heq))) <;> first | rfl | (try simp))))) [OnlyNoteMywiRef, foldl_time, foldl_sys, foldl_wave, foldl_note, foldl_mywi, foldl_txn, foldl_sett, foldl_ref, foldl_steer, foldl_sealU, foldl_store, foldl_keep, foldl_keepSeed, foldl_evt, foldl_port, foldl_prong, foldl_pwr, foldl_cal, foldl_out, foldl_lat, foldl_deck, foldl_ibex, foldl_dma, foldl_tally, foldl_img, foldl_free]
@[simp] theorem Hw.rcBlocks_frame (h : Hw) (o : Nat) :
    OnlyRefSealUPortProngCalLatDeck h (Hw.rcBlocks h o) := by
  unfold Hw.rcBlocks
  (try dsimp only [Hw.when, Hw.dkRx, Hw.latRx, Hw.calBus, Hw.request, Hw.chFree, Hw.dmaCtrl])
  (repeat' (split <;> try (rename_i heq; simp only [Prod.ext_iff] at heq; obtain ⟨rfl, rfl⟩ := heq))) <;> simp [OnlyRefSealUPortProngCalLatDeck]
@[simp] theorem Hw.pinsRead_frame (h : Hw) :
    OnlyFree h (Hw.pinsRead h).2 := by
  unfold Hw.pinsRead
  (try dsimp only [Hw.when, Hw.dkRx, Hw.latRx, Hw.calBus, Hw.request, Hw.chFree, Hw.dmaCtrl])
  (repeat' (split <;> try (rename_i heq; simp only [Prod.ext_iff] at heq; obtain ⟨rfl, rfl⟩ := heq))) <;> simp [OnlyFree]
@[simp] theorem Hw.axisRead_frame (h : Hw) (o : Nat) :
    OnlyTimeSys h (Hw.axisRead h o).2 := by
  unfold Hw.axisRead
  (try dsimp only [Hw.when, Hw.dkRx, Hw.latRx, Hw.calBus, Hw.request, Hw.chFree, Hw.dmaCtrl])
  (repeat' (split <;> try (rename_i heq; simp only [Prod.ext_iff] at heq; obtain ⟨rfl, rfl⟩ := heq))) <;> simp [OnlyTimeSys]
@[simp] theorem Hw.wideRead_frame (h : Hw) (w : Wide) (o : Nat) :
    OnlySys h (Hw.wideRead h w o).2 := by
  unfold Hw.wideRead
  (try dsimp only [Hw.when, Hw.dkRx, Hw.latRx, Hw.calBus, Hw.request, Hw.chFree, Hw.dmaCtrl])
  (repeat' (split <;> try (rename_i heq; simp only [Prod.ext_iff] at heq; obtain ⟨rfl, rfl⟩ := heq))) <;> simp (disch := (intros; first | rfl | ((try dsimp only [Hw.when, Hw.dkRx, Hw.latRx, Hw.calBus, Hw.request, Hw.chFree, Hw.dmaCtrl]); first | rfl | ((repeat' (split <;> try (rename_i heq; simp only [Prod.ext_iff] at heq; obtain ⟨rfl, rfl⟩ := heq))) <;> first | rfl | (try simp))))) [OnlySys, foldl_time, foldl_sys, foldl_wave, foldl_note, foldl_mywi, foldl_txn, foldl_sett, foldl_ref, foldl_steer, foldl_sealU, foldl_store, foldl_keep, foldl_keepSeed, foldl_evt, foldl_port, foldl_prong, foldl_pwr, foldl_cal, foldl_out, foldl_lat, foldl_deck, foldl_ibex, foldl_dma, foldl_tally, foldl_img, foldl_free]
@[simp] theorem Hw.mbxInPut_frame (h : Hw) (v : Word) :
    OnlyNoteMywiTally h (Hw.mbxInPut h v) := by
  unfold Hw.mbxInPut
  (try dsimp only [Hw.when, Hw.dkRx, Hw.latRx, Hw.calBus, Hw.request, Hw.chFree, Hw.dmaCtrl])
  (repeat' (split <;> try (rename_i heq; simp only [Prod.ext_iff] at heq; obtain ⟨rfl, rfl⟩ := heq))) <;> simp [OnlyNoteMywiTally]
@[simp] theorem Hw.mbxResetNow_frame (h : Hw) :
    OnlyMywiTxn h (Hw.mbxResetNow h) := by
  unfold Hw.mbxResetNow
  (try dsimp only [Hw.when, Hw.dkRx, Hw.latRx, Hw.calBus, Hw.request, Hw.chFree, Hw.dmaCtrl])
  (repeat' (split <;> try (rename_i heq; simp only [Prod.ext_iff] at heq; obtain ⟨rfl, rfl⟩ := heq))) <;> simp [OnlyMywiTxn]
@[simp] theorem Hw.wrProng_frame (h : Hw) (o : Nat) (v : Word) :
    OnlyProng h (Hw.wrProng h o v) := by
  unfold Hw.wrProng
  (try dsimp only [Hw.when, Hw.dkRx, Hw.latRx, Hw.calBus, Hw.request, Hw.chFree, Hw.dmaCtrl])
  (repeat' (split <;> try (rename_i heq; simp only [Prod.ext_iff] at heq; obtain ⟨rfl, rfl⟩ := heq))) <;> simp [OnlyProng]
@[simp] theorem Hw.updQ_frame (h : Hw) (q : Fin 8) (f : SealQ → SealQ) :
    OnlySealU h (Hw.updQ h q f) := by
  unfold Hw.updQ
  (try dsimp only [Hw.when, Hw.dkRx, Hw.latRx, Hw.calBus, Hw.request, Hw.chFree, Hw.dmaCtrl])
  (repeat' (split <;> try (rename_i heq; simp only [Prod.ext_iff] at heq; obtain ⟨rfl, rfl⟩ := heq))) <;> simp [OnlySealU]
@[simp] theorem Hw.sealQProd_frame (h : Hw) (q : Fin 8) (v : Word) :
    OnlyNoteMywiSealU h (Hw.sealQProd h q v) := by
  unfold Hw.sealQProd
  (try dsimp only [Hw.when, Hw.dkRx, Hw.latRx, Hw.calBus, Hw.request, Hw.chFree, Hw.dmaCtrl])
  (repeat' (split <;> try (rename_i heq; simp only [Prod.ext_iff] at heq; obtain ⟨rfl, rfl⟩ := heq))) <;> simp [OnlyNoteMywiSealU]
@[simp] theorem Hw.wrSeal_frame (h : Hw) (o : Nat) (v : Word) :
    OnlyNoteMywiSealU h (Hw.wrSeal h o v) := by
  unfold Hw.wrSeal
  (try dsimp only [Hw.when, Hw.dkRx, Hw.latRx, Hw.calBus, Hw.request, Hw.chFree, Hw.dmaCtrl])
  (repeat' (split <;> try (rename_i heq; simp only [Prod.ext_iff] at heq; obtain ⟨rfl, rfl⟩ := heq))) <;> simp [OnlyNoteMywiSealU]
@[simp] theorem Hw.wrDk_frame (h : Hw) (n : Fin 2) (x : Nat) (v : Word) :
    OnlySysNoteMywiSealUStoreEvtDeckTally h (Hw.wrDk h n x v) := by
  unfold Hw.wrDk
  (try dsimp only [Hw.when, Hw.dkRx, Hw.latRx, Hw.calBus, Hw.request, Hw.chFree, Hw.dmaCtrl])
  (repeat' (split <;> try (rename_i heq; simp only [Prod.ext_iff] at heq; obtain ⟨rfl, rfl⟩ := heq))) <;> simp [OnlySysNoteMywiSealUStoreEvtDeckTally]
@[simp] theorem Hw.wrDeck_frame (h : Hw) (o : Nat) (v : Word) :
    OnlySysNoteMywiSealUStoreEvtDeckTally h (Hw.wrDeck h o v) := by
  unfold Hw.wrDeck
  (try dsimp only [Hw.when, Hw.dkRx, Hw.latRx, Hw.calBus, Hw.request, Hw.chFree, Hw.dmaCtrl])
  (repeat' (split <;> try (rename_i heq; simp only [Prod.ext_iff] at heq; obtain ⟨rfl, rfl⟩ := heq))) <;> simp [OnlySysNoteMywiSealUStoreEvtDeckTally]
@[simp] theorem Hw.wrCh_frame (h : Hw) (n : Fin 32) (x : Nat) (v : Word) :
    OnlyNoteMywiIbexTally h (Hw.wrCh h n x v) := by
  unfold Hw.wrCh
  (try dsimp only [Hw.when, Hw.dkRx, Hw.latRx, Hw.calBus, Hw.request, Hw.chFree, Hw.dmaCtrl])
  (repeat' (split <;> try (rename_i heq; simp only [Prod.ext_iff] at heq; obtain ⟨rfl, rfl⟩ := heq))) <;> simp [OnlyNoteMywiIbexTally]
@[simp] theorem Hw.wrKid_frame (h : Hw) (k : Fin 8) (x : Nat) (v : Word) :
    OnlySysNoteMywiIbexTally h (Hw.wrKid h k x v) := by
  unfold Hw.wrKid
  (try dsimp only [Hw.when, Hw.dkRx, Hw.latRx, Hw.calBus, Hw.request, Hw.chFree, Hw.dmaCtrl])
  (repeat' (split <;> try (rename_i heq; simp only [Prod.ext_iff] at heq; obtain ⟨rfl, rfl⟩ := heq))) <;> simp [OnlySysNoteMywiIbexTally]
@[simp] theorem Hw.dmaCtrlBits_frame (h : Hw) (n : Fin 16) (v : Word) :
    OnlySysNoteMywiSealUStoreEvtDmaTally h (Hw.dmaCtrlBits h n v) := by
  unfold Hw.dmaCtrlBits
  (try dsimp only [Hw.when, Hw.dkRx, Hw.latRx, Hw.calBus, Hw.request, Hw.chFree, Hw.dmaCtrl])
  (repeat' (split <;> try (rename_i heq; simp only [Prod.ext_iff] at heq; obtain ⟨rfl, rfl⟩ := heq))) <;> simp [OnlySysNoteMywiSealUStoreEvtDmaTally]
@[simp] theorem Hw.wrDmaCh_frame (h : Hw) (n : Fin 16) (off : Nat) (x : Nat) (v : Word) :
    OnlySysNoteMywiSealUStoreEvtDmaTally h (Hw.wrDmaCh h n off x v) := by
  unfold Hw.wrDmaCh
  (try dsimp only [Hw.when, Hw.dkRx, Hw.latRx, Hw.calBus, Hw.request, Hw.chFree, Hw.dmaCtrl])
  (repeat' (split <;> try (rename_i heq; simp only [Prod.ext_iff] at heq; obtain ⟨rfl, rfl⟩ := heq))) <;> simp [OnlySysNoteMywiSealUStoreEvtDmaTally]
@[simp] theorem Hw.wrDma_frame (h : Hw) (o : Nat) (v : Word) :
    OnlySysNoteMywiSealUStoreEvtDmaTally h (Hw.wrDma h o v) := by
  unfold Hw.wrDma
  (try dsimp only [Hw.when, Hw.dkRx, Hw.latRx, Hw.calBus, Hw.request, Hw.chFree, Hw.dmaCtrl])
  (repeat' (split <;> try (rename_i heq; simp only [Prod.ext_iff] at heq; obtain ⟨rfl, rfl⟩ := heq))) <;> simp [OnlySysNoteMywiSealUStoreEvtDmaTally]
@[simp] theorem Hw.wrEvt_frame (h : Hw) (o : Nat) (v : Word) :
    OnlyNoteMywiEvt h (Hw.wrEvt h o v) := by
  unfold Hw.wrEvt
  (try dsimp only [Hw.when, Hw.dkRx, Hw.latRx, Hw.calBus, Hw.request, Hw.chFree, Hw.dmaCtrl])
  (repeat' (split <;> try (rename_i heq; simp only [Prod.ext_iff] at heq; obtain ⟨rfl, rfl⟩ := heq))) <;> simp [OnlyNoteMywiEvt]
@[simp] theorem Hw.tallyRingPut_frame (h : Hw) (off : Nat) (ring : Nat) (log2 : Nat) :
    OnlyNoteMywiSettTally h (Hw.tallyRingPut h off ring log2) := by
  unfold Hw.tallyRingPut
  (try dsimp only [Hw.when, Hw.dkRx, Hw.latRx, Hw.calBus, Hw.request, Hw.chFree, Hw.dmaCtrl])
  (repeat' (split <;> try (rename_i heq; simp only [Prod.ext_iff] at heq; obtain ⟨rfl, rfl⟩ := heq))) <;> simp [OnlyNoteMywiSettTally]
@[simp] theorem Hw.tallyMarkPut_frame (h : Hw) (off : Nat) (f : TallySt → TallySt) :
    OnlyNoteMywiSettTally h (Hw.tallyMarkPut h off f) := by
  unfold Hw.tallyMarkPut
  (try dsimp only [Hw.when, Hw.dkRx, Hw.latRx, Hw.calBus, Hw.request, Hw.chFree, Hw.dmaCtrl])
  (repeat' (split <;> try (rename_i heq; simp only [Prod.ext_iff] at heq; obtain ⟨rfl, rfl⟩ := heq))) <;> simp [OnlyNoteMywiSettTally]
@[simp] theorem Hw.wrUnit_frame (h : Hw) (u : Fin 18) (off : Nat) (x : Nat) (v : Word) :
    OnlyNoteMywiTally h (Hw.wrUnit h u off x v) := by
  unfold Hw.wrUnit
  (try dsimp only [Hw.when, Hw.dkRx, Hw.latRx, Hw.calBus, Hw.request, Hw.chFree, Hw.dmaCtrl])
  (repeat' (split <;> try (rename_i heq; simp only [Prod.ext_iff] at heq; obtain ⟨rfl, rfl⟩ := heq))) <;> simp (disch := (intros; first | rfl | ((try dsimp only [Hw.when, Hw.dkRx, Hw.latRx, Hw.calBus, Hw.request, Hw.chFree, Hw.dmaCtrl]); first | rfl | ((repeat' (split <;> try (rename_i heq; simp only [Prod.ext_iff] at heq; obtain ⟨rfl, rfl⟩ := heq))) <;> first | rfl | (try simp))))) [OnlyNoteMywiTally, foldl_time, foldl_sys, foldl_wave, foldl_note, foldl_mywi, foldl_txn, foldl_sett, foldl_ref, foldl_steer, foldl_sealU, foldl_store, foldl_keep, foldl_keepSeed, foldl_evt, foldl_port, foldl_prong, foldl_pwr, foldl_cal, foldl_out, foldl_lat, foldl_deck, foldl_ibex, foldl_dma, foldl_tally, foldl_img, foldl_free]
@[simp] theorem Hw.wrTally_frame (h : Hw) (o : Nat) (v : Word) :
    OnlyNoteMywiSettTally h (Hw.wrTally h o v) := by
  unfold Hw.wrTally
  (try dsimp only [Hw.when, Hw.dkRx, Hw.latRx, Hw.calBus, Hw.request, Hw.chFree, Hw.dmaCtrl])
  (repeat' (split <;> try (rename_i heq; simp only [Prod.ext_iff] at heq; obtain ⟨rfl, rfl⟩ := heq))) <;> simp [OnlyNoteMywiSettTally]
@[simp] theorem Hw.wrNote_frame (h : Hw) (o : Nat) (v : Word) :
    OnlyNoteMywiSettPwr h (Hw.wrNote h o v) := by
  unfold Hw.wrNote
  (try dsimp only [Hw.when, Hw.dkRx, Hw.latRx, Hw.calBus, Hw.request, Hw.chFree, Hw.dmaCtrl])
  (repeat' (split <;> try (rename_i heq; simp only [Prod.ext_iff] at heq; obtain ⟨rfl, rfl⟩ := heq))) <;> simp [OnlyNoteMywiSettPwr]
@[simp] theorem Hw.w1cSource_frame (h : Hw) (s : Fin 28) (v : Word) :
    OnlyNoteMywiSealUTally h (Hw.w1cSource h s v) := by
  unfold Hw.w1cSource
  (try dsimp only [Hw.when, Hw.dkRx, Hw.latRx, Hw.calBus, Hw.request, Hw.chFree, Hw.dmaCtrl])
  (repeat' (split <;> try (rename_i heq; simp only [Prod.ext_iff] at heq; obtain ⟨rfl, rfl⟩ := heq))) <;> simp [OnlyNoteMywiSealUTally]
@[simp] theorem Hw.keepPut_frame (h : Hw) (o : Nat) (v : Word) :
    OnlyKeep h (Hw.keepPut h o v) := by
  unfold Hw.keepPut
  (try dsimp only [Hw.when, Hw.dkRx, Hw.latRx, Hw.calBus, Hw.request, Hw.chFree, Hw.dmaCtrl])
  (repeat' (split <;> try (rename_i heq; simp only [Prod.ext_iff] at heq; obtain ⟨rfl, rfl⟩ := heq))) <;> simp [OnlyKeep]
@[simp] theorem Hw.msixPut_frame (h : Hw) (o : Nat) (v : Word) :
    OnlySysNote h (Hw.msixPut h o v) := by
  unfold Hw.msixPut
  (try dsimp only [Hw.when, Hw.dkRx, Hw.latRx, Hw.calBus, Hw.request, Hw.chFree, Hw.dmaCtrl])
  (repeat' (split <;> try (rename_i heq; simp only [Prod.ext_iff] at heq; obtain ⟨rfl, rfl⟩ := heq))) <;> simp [OnlySysNote]
@[simp] theorem Hw.flushCpl_frame (h : Hw) (q : Fin 8) (k_ : Nat) :
    OnlySysNoteMywiSealUStoreEvtTally h (Hw.flushCpl h q k_) := by
  induction k_ generalizing h with
  | zero => simp [Hw.flushCpl, OnlySysNoteMywiSealUStoreEvtTally]
  | succ k ih => dsimp only [OnlySysNoteMywiSealUStoreEvtTally] at ih; unfold Hw.flushCpl; (try dsimp only [Hw.when, Hw.dkRx, Hw.latRx, Hw.calBus, Hw.request, Hw.chFree, Hw.dmaCtrl]); (repeat' (split <;> try (rename_i heq; simp only [Prod.ext_iff] at heq; obtain ⟨rfl, rfl⟩ := heq))) <;> simp (disch := (intros; first | rfl | ((try dsimp only [Hw.when, Hw.dkRx, Hw.latRx, Hw.calBus, Hw.request, Hw.chFree, Hw.dmaCtrl]); first | rfl | ((repeat' (split <;> try (rename_i heq; simp only [Prod.ext_iff] at heq; obtain ⟨rfl, rfl⟩ := heq))) <;> first | rfl | (try simp))))) [OnlySysNoteMywiSealUStoreEvtTally, ih, foldl_time, foldl_sys, foldl_wave, foldl_note, foldl_mywi, foldl_txn, foldl_sett, foldl_ref, foldl_steer, foldl_sealU, foldl_store, foldl_keep, foldl_keepSeed, foldl_evt, foldl_port, foldl_prong, foldl_pwr, foldl_cal, foldl_out, foldl_lat, foldl_deck, foldl_ibex, foldl_dma, foldl_tally, foldl_img, foldl_free]
@[simp] theorem Hw.sealCount_frame (h : Hw) (k : Nat) :
    OnlySealU h (Hw.sealCount h k) := by
  unfold Hw.sealCount
  (try dsimp only [Hw.when, Hw.dkRx, Hw.latRx, Hw.calBus, Hw.request, Hw.chFree, Hw.dmaCtrl])
  (repeat' (split <;> try (rename_i heq; simp only [Prod.ext_iff] at heq; obtain ⟨rfl, rfl⟩ := heq))) <;> simp [OnlySealU]
@[simp] theorem Hw.releaseReply_frame (h : Hw) (r : SealReply) :
    OnlySysNoteMywiSealUStoreEvtPortTally h (Hw.releaseReply h r) := by
  unfold Hw.releaseReply
  (try dsimp only [Hw.when, Hw.dkRx, Hw.latRx, Hw.calBus, Hw.request, Hw.chFree, Hw.dmaCtrl])
  (repeat' (split <;> try (rename_i heq; simp only [Prod.ext_iff] at heq; obtain ⟨rfl, rfl⟩ := heq))) <;> simp [OnlySysNoteMywiSealUStoreEvtPortTally]
@[simp] theorem Hw.sealRefuse_frame (h : Hw) (r : SealReq) (status : Nat) :
    OnlySysNoteMywiSealUStoreEvtPortTally h (Hw.sealRefuse h r status) := by
  unfold Hw.sealRefuse
  (try dsimp only [Hw.when, Hw.dkRx, Hw.latRx, Hw.calBus, Hw.request, Hw.chFree, Hw.dmaCtrl])
  (repeat' (split <;> try (rename_i heq; simp only [Prod.ext_iff] at heq; obtain ⟨rfl, rfl⟩ := heq))) <;> simp [OnlySysNoteMywiSealUStoreEvtPortTally]
@[simp] theorem Hw.deckSeal_frame (h : Hw) (seg : Nat) (addr : Nat) (mid : Nat) (cid : List Byte) (f : List Byte) (sample : Sample) (limit : Option Nat) :
    OnlySysNoteMywiSealUStoreEvtPortTally h (Hw.deckSeal h seg addr mid cid f sample limit) := by
  unfold Hw.deckSeal
  (try dsimp only [Hw.when, Hw.dkRx, Hw.latRx, Hw.calBus, Hw.request, Hw.chFree, Hw.dmaCtrl])
  (repeat' (split <;> try (rename_i heq; simp only [Prod.ext_iff] at heq; obtain ⟨rfl, rfl⟩ := heq))) <;> simp [OnlySysNoteMywiSealUStoreEvtPortTally]
@[simp] theorem Hw.admit_frame (h : Hw) (r : SealReq) (slot : Fin 8) :
    OnlyNoteMywiSealUPwrTally h (Hw.admitReq h r slot) := by
  unfold Hw.admitReq
  (try dsimp only [Hw.when, Hw.dkRx, Hw.latRx, Hw.calBus, Hw.request, Hw.chFree, Hw.dmaCtrl])
  (repeat' (split <;> try (rename_i heq; simp only [Prod.ext_iff] at heq; obtain ⟨rfl, rfl⟩ := heq))) <;> simp [OnlyNoteMywiSealUPwrTally]
@[simp] theorem Hw.tryAdmit_frame (h : Hw) (r : SealReq) :
    OnlySysNoteMywiSealUStoreEvtPortPwrTally h (Hw.tryAdmit h r) := by
  unfold Hw.tryAdmit
  (try dsimp only [Hw.when, Hw.dkRx, Hw.latRx, Hw.calBus, Hw.request, Hw.chFree, Hw.dmaCtrl])
  (repeat' (split <;> try (rename_i heq; simp only [Prod.ext_iff] at heq; obtain ⟨rfl, rfl⟩ := heq))) <;> simp [OnlySysNoteMywiSealUStoreEvtPortPwrTally]
@[simp] theorem Hw.admitDesc_frame (h : Hw) (q : Fin 8) (sub : Nat) :
    OnlySysNoteMywiSealUStoreEvtPortPwrTally h (Hw.admitDesc h q sub) := by
  unfold Hw.admitDesc
  (try dsimp only [Hw.when, Hw.dkRx, Hw.latRx, Hw.calBus, Hw.request, Hw.chFree, Hw.dmaCtrl])
  (repeat' (split <;> try (rename_i heq; simp only [Prod.ext_iff] at heq; obtain ⟨rfl, rfl⟩ := heq))) <;> simp [OnlySysNoteMywiSealUStoreEvtPortPwrTally]
@[simp] theorem Hw.flushSys_frame (h : Hw) (k_ : Nat) :
    OnlyNoteMywiSealUStoreTally h (Hw.flushSys h k_) := by
  induction k_ generalizing h with
  | zero => simp [Hw.flushSys, OnlyNoteMywiSealUStoreTally]
  | succ k ih => dsimp only [OnlyNoteMywiSealUStoreTally] at ih; unfold Hw.flushSys; (try dsimp only [Hw.when, Hw.dkRx, Hw.latRx, Hw.calBus, Hw.request, Hw.chFree, Hw.dmaCtrl]); (repeat' (split <;> try (rename_i heq; simp only [Prod.ext_iff] at heq; obtain ⟨rfl, rfl⟩ := heq))) <;> simp (disch := (intros; first | rfl | ((try dsimp only [Hw.when, Hw.dkRx, Hw.latRx, Hw.calBus, Hw.request, Hw.chFree, Hw.dmaCtrl]); first | rfl | ((repeat' (split <;> try (rename_i heq; simp only [Prod.ext_iff] at heq; obtain ⟨rfl, rfl⟩ := heq))) <;> first | rfl | (try simp))))) [OnlyNoteMywiSealUStoreTally, ih, foldl_time, foldl_sys, foldl_wave, foldl_note, foldl_mywi, foldl_txn, foldl_sett, foldl_ref, foldl_steer, foldl_sealU, foldl_store, foldl_keep, foldl_keepSeed, foldl_evt, foldl_port, foldl_prong, foldl_pwr, foldl_cal, foldl_out, foldl_lat, foldl_deck, foldl_ibex, foldl_dma, foldl_tally, foldl_img, foldl_free]
@[simp] theorem Hw.sign_frame (h : Hw) (p : Pending) :
    OnlySysNoteMywiSealUStoreEvtPortTallyFree h (Hw.sign h p) := by
  unfold Hw.sign
  (try dsimp only [Hw.when, Hw.dkRx, Hw.latRx, Hw.calBus, Hw.request, Hw.chFree, Hw.dmaCtrl])
  (repeat' (split <;> try (rename_i heq; simp only [Prod.ext_iff] at heq; obtain ⟨rfl, rfl⟩ := heq))) <;> simp [OnlySysNoteMywiSealUStoreEvtPortTallyFree]
@[simp] theorem Hw.updKey_frame (h : Hw) (n : Fin 8) (f : KeySlot → KeySlot) :
    OnlySealU h (Hw.updKey h n f) := by
  unfold Hw.updKey
  (try dsimp only [Hw.when, Hw.dkRx, Hw.latRx, Hw.calBus, Hw.request, Hw.chFree, Hw.dmaCtrl])
  (repeat' (split <;> try (rename_i heq; simp only [Prod.ext_iff] at heq; obtain ⟨rfl, rfl⟩ := heq))) <;> simp [OnlySealU]
theorem Hw.journalReleaseTo_frame (h : Hw) (v : Nat) (k_ : Hw) (e_ : Hw.journalReleaseTo h v = .ok k_) :
    OnlyNoteMywiSealUStoreTally h k_ := by
  unfold Hw.journalReleaseTo at e_
  revert e_
  (try dsimp only [Hw.when])
  (repeat' (split <;> try (rename_i heq; simp only [Prod.ext_iff] at heq; obtain ⟨rfl, rfl⟩ := heq))) <;> intro e_ <;> first | (injection e_ with e_; subst e_; simp [OnlyNoteMywiSealUStoreTally]) | (exact absurd e_ (by simp)) 
@[simp] theorem Hw.sealAck_frame (h : Hw) (v : Nat) :
    OnlyNoteMywiSealU h (Hw.sealAck h v) := by
  unfold Hw.sealAck
  (try dsimp only [Hw.when, Hw.dkRx, Hw.latRx, Hw.calBus, Hw.request, Hw.chFree, Hw.dmaCtrl])
  (repeat' (split <;> try (rename_i heq; simp only [Prod.ext_iff] at heq; obtain ⟨rfl, rfl⟩ := heq))) <;> simp [OnlyNoteMywiSealU]
@[simp] theorem Hw.noteErr_frame (h : Hw) (e : Nat) :
    OnlySteer h (Hw.noteErr h e) := by
  unfold Hw.noteErr
  (try dsimp only [Hw.when, Hw.dkRx, Hw.latRx, Hw.calBus, Hw.request, Hw.chFree, Hw.dmaCtrl])
  (repeat' (split <;> try (rename_i heq; simp only [Prod.ext_iff] at heq; obtain ⟨rfl, rfl⟩ := heq))) <;> simp (disch := (intros; first | rfl | ((try dsimp only [Hw.when, Hw.dkRx, Hw.latRx, Hw.calBus, Hw.request, Hw.chFree, Hw.dmaCtrl]); first | rfl | ((repeat' (split <;> try (rename_i heq; simp only [Prod.ext_iff] at heq; obtain ⟨rfl, rfl⟩ := heq))) <;> first | rfl | (try simp))))) [OnlySteer, foldl_time, foldl_sys, foldl_wave, foldl_note, foldl_mywi, foldl_txn, foldl_sett, foldl_ref, foldl_steer, foldl_sealU, foldl_store, foldl_keep, foldl_keepSeed, foldl_evt, foldl_port, foldl_prong, foldl_pwr, foldl_cal, foldl_out, foldl_lat, foldl_deck, foldl_ibex, foldl_dma, foldl_tally, foldl_img, foldl_free]
@[simp] theorem Hw.lockTest_frame (h : Hw) :
    OnlyNoteMywiSteer h (Hw.lockTest h) := by
  unfold Hw.lockTest
  (try dsimp only [Hw.when, Hw.dkRx, Hw.latRx, Hw.calBus, Hw.request, Hw.chFree, Hw.dmaCtrl])
  (repeat' (split <;> try (rename_i heq; simp only [Prod.ext_iff] at heq; obtain ⟨rfl, rfl⟩ := heq))) <;> simp [OnlyNoteMywiSteer]
@[simp] theorem Hw.loopStep_frame (h : Hw) (e : Int) (dt : Nat) (fdiff : Int) :
    OnlyTimeNoteMywiSteerTallyFree h (Hw.loopStep h e dt fdiff) := by
  unfold Hw.loopStep
  (try dsimp only [Hw.when, Hw.dkRx, Hw.latRx, Hw.calBus, Hw.request, Hw.chFree, Hw.dmaCtrl])
  (repeat' (split <;> try (rename_i heq; simp only [Prod.ext_iff] at heq; obtain ⟨rfl, rfl⟩ := heq))) <;> simp [OnlyTimeNoteMywiSteerTallyFree]
@[simp] theorem Hw.rndSqrt_frame (h : Hw) (num den : Int) : OnlyFree h (Hw.rndSqrt h num den).2 := by
  unfold Hw.rndSqrt
  dsimp only
  split <;> simp [OnlyFree]
@[simp] theorem Hw.fitWindow_frame (h : Hw) (l : List TSample) (constT : Bool) :
    OnlyFree h (Hw.fitWindow h l constT).2 := by
  unfold Hw.fitWindow
  (try dsimp only [Hw.when, Hw.dkRx, Hw.latRx, Hw.calBus, Hw.request, Hw.chFree, Hw.dmaCtrl])
  (repeat' (split <;> try (rename_i heq; simp only [Prod.ext_iff] at heq; obtain ⟨rfl, rfl⟩ := heq))) <;> simp (disch := (intros; first | rfl | ((try dsimp only [Hw.when, Hw.dkRx, Hw.latRx, Hw.calBus, Hw.request, Hw.chFree, Hw.dmaCtrl]); first | rfl | ((repeat' (split <;> try (rename_i heq; simp only [Prod.ext_iff] at heq; obtain ⟨rfl, rfl⟩ := heq))) <;> first | rfl | (try simp))))) [OnlyFree, foldl_time, foldl_sys, foldl_wave, foldl_note, foldl_mywi, foldl_txn, foldl_sett, foldl_ref, foldl_steer, foldl_sealU, foldl_store, foldl_keep, foldl_keepSeed, foldl_evt, foldl_port, foldl_prong, foldl_pwr, foldl_cal, foldl_out, foldl_lat, foldl_deck, foldl_ibex, foldl_dma, foldl_tally, foldl_img, foldl_free]
@[simp] theorem Hw.tangentAccum_frame (h : Hw) :
    OnlySteer h (Hw.tangentAccum h) := by
  unfold Hw.tangentAccum
  (try dsimp only [Hw.when, Hw.dkRx, Hw.latRx, Hw.calBus, Hw.request, Hw.chFree, Hw.dmaCtrl])
  (repeat' (split <;> try (rename_i heq; simp only [Prod.ext_iff] at heq; obtain ⟨rfl, rfl⟩ := heq))) <;> simp [OnlySteer]
@[simp] theorem Hw.tallyMiss_frame (h : Hw) (bit : Nat) :
    OnlyNoteMywiTally h (Hw.tallyMiss h bit) := by
  unfold Hw.tallyMiss
  (try dsimp only [Hw.when, Hw.dkRx, Hw.latRx, Hw.calBus, Hw.request, Hw.chFree, Hw.dmaCtrl])
  (repeat' (split <;> try (rename_i heq; simp only [Prod.ext_iff] at heq; obtain ⟨rfl, rfl⟩ := heq))) <;> simp [OnlyNoteMywiTally]
@[simp] theorem Hw.capture_frame (h : Hw) (u : Fin 18) :
    OnlyTally h (Hw.capture h u) := by
  unfold Hw.capture
  (try dsimp only [Hw.when, Hw.dkRx, Hw.latRx, Hw.calBus, Hw.request, Hw.chFree, Hw.dmaCtrl])
  (repeat' (split <;> try (rename_i heq; simp only [Prod.ext_iff] at heq; obtain ⟨rfl, rfl⟩ := heq))) <;> simp [OnlyTally]
@[simp] theorem Hw.tallySnap_frame (h : Hw) (inst : Nat) (periodMs : Nat) :
    OnlySysNoteMywiSealUStoreTally h (Hw.tallySnap h inst periodMs) := by
  unfold Hw.tallySnap
  (try dsimp only [Hw.when, Hw.dkRx, Hw.latRx, Hw.calBus, Hw.request, Hw.chFree, Hw.dmaCtrl])
  (repeat' (split <;> try (rename_i heq; simp only [Prod.ext_iff] at heq; obtain ⟨rfl, rfl⟩ := heq))) <;> simp (disch := (intros; first | rfl | ((try dsimp only [Hw.when, Hw.dkRx, Hw.latRx, Hw.calBus, Hw.request, Hw.chFree, Hw.dmaCtrl]); first | rfl | ((repeat' (split <;> try (rename_i heq; simp only [Prod.ext_iff] at heq; obtain ⟨rfl, rfl⟩ := heq))) <;> first | rfl | (try simp))))) [OnlySysNoteMywiSealUStoreTally, foldl_time, foldl_sys, foldl_wave, foldl_note, foldl_mywi, foldl_txn, foldl_sett, foldl_ref, foldl_steer, foldl_sealU, foldl_store, foldl_keep, foldl_keepSeed, foldl_evt, foldl_port, foldl_prong, foldl_pwr, foldl_cal, foldl_out, foldl_lat, foldl_deck, foldl_ibex, foldl_dma, foldl_tally, foldl_img, foldl_free]
@[simp] theorem Hw.overlay_frame (h : Hw) (k : Key) (v : SVal) :
    OnlySettEvt h (Hw.overlay h k v) := by
  unfold Hw.overlay
  (try dsimp only [Hw.when, Hw.dkRx, Hw.latRx, Hw.calBus, Hw.request, Hw.chFree, Hw.dmaCtrl])
  (repeat' (split <;> try (rename_i heq; simp only [Prod.ext_iff] at heq; obtain ⟨rfl, rfl⟩ := heq))) <;> simp [OnlySettEvt]
@[simp] theorem Hw.commitStart_frame (h : Hw) (ses : Fin 11) (t : Nat) (l : List (Key × SVal)) :
    OnlyNoteMywiTxnProng h (Hw.commitStart h ses t l) := by
  unfold Hw.commitStart
  (try dsimp only [Hw.when, Hw.dkRx, Hw.latRx, Hw.calBus, Hw.request, Hw.chFree, Hw.dmaCtrl])
  (repeat' (split <;> try (rename_i heq; simp only [Prod.ext_iff] at heq; obtain ⟨rfl, rfl⟩ := heq))) <;> simp [OnlyNoteMywiTxnProng]
@[simp] theorem Hw.commitEnd_frame (h : Hw) (c : Commit) :
    OnlyNoteMywiTxnTally h (Hw.commitEnd h c) := by
  unfold Hw.commitEnd
  (try dsimp only [Hw.when, Hw.dkRx, Hw.latRx, Hw.calBus, Hw.request, Hw.chFree, Hw.dmaCtrl])
  (repeat' (split <;> try (rename_i heq; simp only [Prod.ext_iff] at heq; obtain ⟨rfl, rfl⟩ := heq))) <;> simp [OnlyNoteMywiTxnTally]
@[simp] theorem Hw.putCommit_frame (h : Hw) (c : Commit) :
    OnlyNoteMywiTxnTally h (Hw.putCommit h c) := by
  unfold Hw.putCommit
  (try dsimp only [Hw.when, Hw.dkRx, Hw.latRx, Hw.calBus, Hw.request, Hw.chFree, Hw.dmaCtrl])
  (repeat' (split <;> try (rename_i heq; simp only [Prod.ext_iff] at heq; obtain ⟨rfl, rfl⟩ := heq))) <;> simp [OnlyNoteMywiTxnTally]
@[simp] theorem Hw.idleTick_frame (h : Hw) :
    OnlyPwr h (Hw.idleTick h) := by
  unfold Hw.idleTick
  (try dsimp only [Hw.when, Hw.dkRx, Hw.latRx, Hw.calBus, Hw.request, Hw.chFree, Hw.dmaCtrl])
  (repeat' (split <;> try (rename_i heq; simp only [Prod.ext_iff] at heq; obtain ⟨rfl, rfl⟩ := heq))) <;> simp [OnlyPwr]



end Sys2Proof.Machine
end

