-- ==== Sys2Proof/Laws/Memory.lean ====
section
/-!
SUPPORT. The laws of the sparse memories: a read after a write, the canonical form, and that every operation over Store keeps
it.
-/
set_option autoImplicit false

namespace Sys2Proof

section Sparse
variable {α : Type} [DecidableEq α]

/-- The canonical form, cell by cell: no default entry, and the first address below all others. -/
theorem sparseWf_cons (d : α) (a : Nat) (w : α) (r : List (Nat × α)) :
    sparseWf d ((a, w) :: r) = true ↔ w ≠ d ∧ (∀ x ∈ r, a < x.1) ∧ sparseWf d r = true := by
  induction r generalizing a w with
  | nil => simp [sparseWf]
  | cons x r ih =>
    obtain ⟨b, y⟩ := x
    have hb := ih b y
    simp only [sparseWf, Bool.and_eq_true, decide_eq_true_eq, List.mem_cons]
    constructor
    · rintro ⟨⟨hw, hab⟩, hr⟩
      refine ⟨hw, ?_, hr⟩
      rintro z (rfl | hz)
      · exact hab
      · exact lt_trans hab ((hb.1 hr).2.1 z hz)
    · rintro ⟨hw, hall, hr⟩
      exact ⟨⟨hw, hall (b, y) (.inl rfl)⟩, hr⟩

/-- The addresses after a write are the old ones and the one written. -/
theorem sparseSet_mem (d : α) (k : Nat) (v : α) (l : List (Nat × α)) (x : Nat × α) (hx : x ∈ sparseSet d k v l) :
    x = (k, v) ∨ x ∈ l := by
  induction l with
  | nil =>
    simp only [sparseSet] at hx
    split at hx
    · cases hx
    · exact .inl (by simpa using hx)
  | cons c r ih =>
    obtain ⟨a, w⟩ := c
    simp only [sparseSet] at hx
    split at hx
    · rcases List.mem_cons.1 hx with h | h
      · exact .inr (by simp [h])
      · rcases ih h with h | h
        · exact .inl h
        · exact .inr (List.mem_cons_of_mem _ h)
    · split at hx
      · split at hx
        · exact .inr (List.mem_cons_of_mem _ hx)
        · rcases List.mem_cons.1 hx with h | h
          · exact .inl h
          · exact .inr (List.mem_cons_of_mem _ h)
      · split at hx
        · exact .inr hx
        · rcases List.mem_cons.1 hx with h | h
          · exact .inl h
          · exact .inr h

/-- A write keeps the canonical form. -/
theorem sparseSet_wf (d : α) (k : Nat) (v : α) (l : List (Nat × α)) (h : sparseWf d l = true) :
    sparseWf d (sparseSet d k v l) = true := by
  induction l with
  | nil =>
    simp only [sparseSet]
    split <;> simp_all [sparseWf]
  | cons c r ih =>
    obtain ⟨a, w⟩ := c
    obtain ⟨hw, hall, hr⟩ := (sparseWf_cons d a w r).1 h
    simp only [sparseSet]
    split
    · rename_i hak
      refine (sparseWf_cons d a w _).2 ⟨hw, fun x hx => ?_, ih hr⟩
      rcases sparseSet_mem d k v r x hx with rfl | hx
      · exact hak
      · exact hall x hx
    · split
      · rename_i hak
        split
        · exact hr
        · rename_i hv
          exact (sparseWf_cons d k v r).2 ⟨hv, fun x hx => hak ▸ hall x hx, hr⟩
      · rename_i h1 h2
        split
        · exact h
        · rename_i hv
          refine (sparseWf_cons d k v _).2 ⟨hv, fun x hx => ?_, h⟩
          rcases List.mem_cons.1 hx with rfl | hx
          · show k < a; omega
          · have := hall x hx; omega

omit [DecidableEq α] in
/-- Below the first address, and between addresses, a cell reads as the default. -/
theorem sparseGet_absent (d : α) (k : Nat) (l : List (Nat × α)) (h : ∀ x ∈ l, x.1 ≠ k) : sparseGet d k l = d := by
  induction l with
  | nil => rfl
  | cons c r ih =>
    obtain ⟨a, w⟩ := c
    have ha : a ≠ k := h (a, w) (by simp)
    simp only [sparseGet, if_neg ha]
    exact ih (fun x hx => h x (List.mem_cons_of_mem _ hx))

/-- A read of the cell written gives the value written. -/
theorem sparseGet_set (d : α) (k : Nat) (v : α) (l : List (Nat × α)) (h : sparseWf d l = true) :
    sparseGet d k (sparseSet d k v l) = v := by
  induction l with
  | nil =>
    simp only [sparseSet]
    split <;> simp_all [sparseGet]
  | cons c r ih =>
    obtain ⟨a, w⟩ := c
    obtain ⟨hw, hall, hr⟩ := (sparseWf_cons d a w r).1 h
    simp only [sparseSet]
    split
    · rename_i hak
      simp only [sparseGet, if_neg (Nat.ne_of_lt hak)]
      exact ih hr
    · split
      · rename_i hak
        split
        · rename_i hv
          rw [hv]
          exact sparseGet_absent d k r (fun x hx => by have := hall x hx; omega)
        · simp [sparseGet]
      · split
        · rename_i h1 h2 hv
          rw [hv]
          refine sparseGet_absent d k _ (fun x hx => ?_)
          rcases List.mem_cons.1 hx with rfl | hx
          · exact h2
          · have := hall x hx; omega
        · simp [sparseGet]

/-- A write leaves every other cell as it was. -/
theorem sparseGet_set_ne (d : α) (j k : Nat) (v : α) (l : List (Nat × α)) (hj : j ≠ k) :
    sparseGet d j (sparseSet d k v l) = sparseGet d j l := by
  induction l with
  | nil =>
    simp only [sparseSet]
    split <;> simp [sparseGet, Ne.symm hj]
  | cons c r ih =>
    obtain ⟨a, w⟩ := c
    simp only [sparseSet]
    split
    · simp only [sparseGet, ih]
    · split
      · rename_i hak
        have : a ≠ j := fun e => hj (by rw [← e, hak])
        split <;> simp [sparseGet, this, Ne.symm hj]
      · split
        · rfl
        · simp [sparseGet, Ne.symm hj]

/-- Leaving out entries keeps the canonical form. -/
theorem sparseWf_filter (d : α) (p : Nat × α → Bool) (l : List (Nat × α)) (h : sparseWf d l = true) :
    sparseWf d (l.filter p) = true := by
  induction l with
  | nil => rfl
  | cons c r ih =>
    obtain ⟨a, w⟩ := c
    obtain ⟨hw, hall, hr⟩ := (sparseWf_cons d a w r).1 h
    rw [List.filter_cons]
    split
    · exact (sparseWf_cons d a w _).2 ⟨hw, fun x hx => hall x (List.mem_of_mem_filter hx), ih hr⟩
    · exact ih hr

end Sparse

namespace Machine

/-- Writing bytes one after another keeps the canonical form. -/
theorem pokeList_wf (m : List (Nat × Byte)) (a : Nat) (l : List Byte) (h : sparseWf (0 : Byte) m = true) :
    sparseWf (0 : Byte) (pokeList m a l) = true := by
  induction l generalizing m a with
  | nil => exact h
  | cons b r ih => exact ih _ _ (sparseSet_wf 0 a b m h)

/-- A read outside the bytes written gives what it gave. -/
theorem pokeList_outside (m : List (Nat × Byte)) (a x : Nat) (l : List Byte) (hx : x < a ∨ a + l.length ≤ x) :
    sparseGet (0 : Byte) x (pokeList m a l) = sparseGet 0 x m := by
  induction l generalizing m a with
  | nil => rfl
  | cons b r ih =>
    simp only [List.length_cons] at hx
    rw [pokeList, ih _ _ (by omega), sparseGet_set_ne _ _ _ _ _ (by omega)]

/-- A read of a byte written gives that byte. -/
theorem pokeList_inside (m : List (Nat × Byte)) (a i : Nat) (l : List Byte) (h : sparseWf (0 : Byte) m = true)
    (hi : i < l.length) : sparseGet (0 : Byte) (a + i) (pokeList m a l) = l[i] := by
  induction l generalizing m a i with
  | nil => simp at hi
  | cons b r ih =>
    cases i with
    | zero =>
      rw [pokeList, pokeList_outside _ _ _ _ (by omega)]
      exact sparseGet_set 0 a b m h
    | succ i =>
      have := ih (sparseSet 0 a b m) (a + 1) i (sparseSet_wf 0 a b m h) (by simpa using hi)
      rw [pokeList, show a + (i + 1) = a + 1 + i by omega, this]
      rfl

/-- Every operation that writes Store keeps its canonical form: a write of bytes, the clear of Store, and the clear of the
client table. -/
theorem Hw.poke_wf (h : Hw) (a : Nat) (l : List Byte) (hw : Memory.wf h = true) : Memory.wf (h.poke a l) = true :=
  pokeList_wf h.store a l hw
theorem Hw.storeClear_wf (h : Hw) : Memory.wf h.storeClear = true := rfl
theorem storeFilter_wf (h : Hw) (p : Nat × Byte → Bool) (hw : Memory.wf h = true) :
    sparseWf (0 : Byte) (h.store.filter p) = true := sparseWf_filter 0 p h.store hw
theorem reset_memory_wf : Memory.wf State.reset.hw = true := rfl

/-- Reads after `poke`. -/
theorem Hw.peek_poke_outside (h : Hw) (a x : Nat) (l : List Byte) (hx : x < a ∨ a + l.length ≤ x) :
    (h.poke a l).peek x = h.peek x := pokeList_outside h.store a x l hx
theorem Hw.peek_poke_inside (h : Hw) (a i : Nat) (l : List Byte) (hw : Memory.wf h = true) (hi : i < l.length) :
    (h.poke a l).peek (a + i) = l[i] := pokeList_inside h.store a i l hw hi

end Machine

end Sys2Proof
end

