-- ==== Sys2Proof/Laws/Notices.lean ====
section
/-!
SUPPORT. What a notice, a fault and a counted signal leave in the event registers: the bit set, and every other bit as it was.
-/
set_option autoImplicit false
set_option maxRecDepth 4000

namespace Sys2Proof.Machine

@[simp] theorem Hw.sendVec_evt (h : Hw) (v : Nat) : (h.sendVec v).note.evt = h.note.evt := by
  unfold Hw.sendVec; split <;> [rfl; (split <;> rfl)]
@[simp] theorem Hw.sendSrc_evt (h : Hw) (s : Fin 28) : (h.sendSrc s).note.evt = h.note.evt := by
  unfold Hw.sendSrc; split <;> [(split <;> simp); rfl]
@[simp] theorem Hw.putEvt_evt (h : Hw) (s : Fin 28) (w : Word) : (h.putEvt s w).note.evt = h.note.evt.set s w := by
  unfold Hw.putEvt; dsimp only; split <;> simp
@[simp] theorem Hw.setEvt_evt (h : Hw) (s : Fin 28) (b : Nat) :
    (h.setEvt s b).note.evt = h.note.evt.set s (h.note.evt[s] ||| fld b 1) := by
  simp [Hw.setEvt]
@[simp] theorem Hw.notice_evt (h : Hw) (s : Fin 28) (b : Nat) (st : String) (a : List (String × String)) :
    (h.notice s b st a).note.evt = h.note.evt.set s (h.note.evt[s] ||| fld b 1) := by
  simp [Hw.notice, Hw.deliver]
@[simp] theorem Hw.noticeKeep_evt (h : Hw) (s : Fin 28) (b : Nat) (st : String) (a : List (String × String)) :
    (h.noticeKeep s b st a).note.evt = h.note.evt.set s (h.note.evt[s] ||| fld b 1) := by
  unfold Hw.noticeKeep; split <;> simp
@[simp] theorem Hw.say_evt (h : Hw) (st : String) (a : List (String × String)) : (h.say st a).note.evt = h.note.evt := by
  unfold Hw.say; split <;> simp [Hw.deliver]
theorem fld_bit (b : Nat) (hb : b < 32) : (fld b 1).getLsbD b = true := by
  simp [fld, hb]
theorem fld_one_bit : ∀ (i : Fin 24) (j : Fin 32), (fld i.val 1)[j.val] = true → j.val = i.val := by decide
theorem Hw.faultFrom_evt (h : Hw) (i : Fin 24) (src : String) :
    (h.faultFrom i src).note.evt = h.note.evt.set 27 (h.note.evt[(27 : Fin 28)] ||| fld i 1) := by
  unfold Hw.faultFrom
  dsimp only
  split
  · rename_i hl
    have : h.note.evt[(27 : Fin 28)] ||| fld i 1 = h.note.evt[(27 : Fin 28)] := by
      simp only [Hw.latched, Hw.noteFault] at hl
      ext j hj
      simp only [BitVec.getElem_or, Bool.or_eq_left_iff_imp]
      intro hx
      have hji : j = i.val := by
        revert hx
        exact fld_one_bit i ⟨j, hj⟩
      subst hji
      simpa [← BitVec.getLsbD_eq_getElem] using hl
    simp only [this]
    simp
  · simp
theorem Hw.fault_evt (h : Hw) (i : Fin 24) :
    (h.fault i).note.evt = h.note.evt.set 27 (h.note.evt[(27 : Fin 28)] ||| fld i 1) := Hw.faultFrom_evt h i _
theorem Hw.fault_latched (h : Hw) (i : Fin 24) : (h.fault i).latched i = true := by
  simp only [Hw.latched, Hw.noteFault, Hw.fault_evt]
  simp
  right
  exact fld_bit i (by omega)
@[simp] theorem Hw.putUnit_evt (h : Hw) (u : Fin 18) (x : TallyUnit) (n : Nat) (hn : n < 28) (hs : n ≠ 25) :
    (h.putUnit u x).note.evt[n] = h.note.evt[n] := by
  unfold Hw.putUnit; dsimp only; split
  · simp [Ne.symm hs]
  · rfl
@[simp] theorem Hw.tcount_evt (h : Hw) (u : Fin 18) (code w : Nat) (n : Nat) (hn : n < 28) (hs : n ≠ 25) :
    (h.tcount u code w).note.evt[n] = h.note.evt[n] := by
  unfold Hw.tcount; dsimp only; split <;> simp [hs]
end Sys2Proof.Machine
end

