-- ==== Sys2Proof/Laws/State.lean ====
section
/-!
SUPPORT. The updates of one unit: what each leaves of every other part (by rfl), and what it leaves of its own: the unit it
changes holds the new value, the others theirs. `State.on` and `Hw.when`: the shapes every meaning has.
-/
set_option autoImplicit false

namespace Sys2Proof.Machine

/-! ## The shapes of a meaning -/

theorem State.on_next (s : State) (f : Hw → Hw) : s.on f = .next { s with hw := f s.hw } := rfl
@[simp] theorem Hw.when_true (h : Hw) (f : Hw → Hw) : h.when true f = f h := rfl
@[simp] theorem Hw.when_false (h : Hw) (f : Hw → Hw) : h.when false f = h := rfl

/-! ## One unit -/

/-! `updSes` -/
@[simp] theorem Hw.updSes_time (h : Hw) (i : Fin 11) (f : Session → Session) : (h.updSes i f).time = h.time := rfl
@[simp] theorem Hw.updSes_sys (h : Hw) (i : Fin 11) (f : Session → Session) : (h.updSes i f).sys = h.sys := rfl
@[simp] theorem Hw.updSes_wave (h : Hw) (i : Fin 11) (f : Session → Session) : (h.updSes i f).wave = h.wave := rfl
@[simp] theorem Hw.updSes_note (h : Hw) (i : Fin 11) (f : Session → Session) : (h.updSes i f).note = h.note := rfl
@[simp] theorem Hw.updSes_txn (h : Hw) (i : Fin 11) (f : Session → Session) : (h.updSes i f).txn = h.txn := rfl
@[simp] theorem Hw.updSes_sett (h : Hw) (i : Fin 11) (f : Session → Session) : (h.updSes i f).sett = h.sett := rfl
@[simp] theorem Hw.updSes_ref (h : Hw) (i : Fin 11) (f : Session → Session) : (h.updSes i f).ref = h.ref := rfl
@[simp] theorem Hw.updSes_steer (h : Hw) (i : Fin 11) (f : Session → Session) : (h.updSes i f).steer = h.steer := rfl
@[simp] theorem Hw.updSes_sealU (h : Hw) (i : Fin 11) (f : Session → Session) : (h.updSes i f).sealU = h.sealU := rfl
@[simp] theorem Hw.updSes_store (h : Hw) (i : Fin 11) (f : Session → Session) : (h.updSes i f).store = h.store := rfl
@[simp] theorem Hw.updSes_keep (h : Hw) (i : Fin 11) (f : Session → Session) : (h.updSes i f).keep = h.keep := rfl
@[simp] theorem Hw.updSes_keepSeed (h : Hw) (i : Fin 11) (f : Session → Session) : (h.updSes i f).keepSeed = h.keepSeed := rfl
@[simp] theorem Hw.updSes_evt (h : Hw) (i : Fin 11) (f : Session → Session) : (h.updSes i f).evt = h.evt := rfl
@[simp] theorem Hw.updSes_port (h : Hw) (i : Fin 11) (f : Session → Session) : (h.updSes i f).port = h.port := rfl
@[simp] theorem Hw.updSes_prong (h : Hw) (i : Fin 11) (f : Session → Session) : (h.updSes i f).prong = h.prong := rfl
@[simp] theorem Hw.updSes_pwr (h : Hw) (i : Fin 11) (f : Session → Session) : (h.updSes i f).pwr = h.pwr := rfl
@[simp] theorem Hw.updSes_cal (h : Hw) (i : Fin 11) (f : Session → Session) : (h.updSes i f).cal = h.cal := rfl
@[simp] theorem Hw.updSes_out (h : Hw) (i : Fin 11) (f : Session → Session) : (h.updSes i f).out = h.out := rfl
@[simp] theorem Hw.updSes_lat (h : Hw) (i : Fin 11) (f : Session → Session) : (h.updSes i f).lat = h.lat := rfl
@[simp] theorem Hw.updSes_deck (h : Hw) (i : Fin 11) (f : Session → Session) : (h.updSes i f).deck = h.deck := rfl
@[simp] theorem Hw.updSes_ibex (h : Hw) (i : Fin 11) (f : Session → Session) : (h.updSes i f).ibex = h.ibex := rfl
@[simp] theorem Hw.updSes_dma (h : Hw) (i : Fin 11) (f : Session → Session) : (h.updSes i f).dma = h.dma := rfl
@[simp] theorem Hw.updSes_tally (h : Hw) (i : Fin 11) (f : Session → Session) : (h.updSes i f).tally = h.tally := rfl
@[simp] theorem Hw.updSes_img (h : Hw) (i : Fin 11) (f : Session → Session) : (h.updSes i f).img = h.img := rfl
@[simp] theorem Hw.updSes_free (h : Hw) (i : Fin 11) (f : Session → Session) : (h.updSes i f).free = h.free := rfl
@[simp] theorem Hw.updSes_at (h : Hw) (i : Fin 11) (f : Session → Session) : (h.updSes i f).mywi.sess[i] = f h.mywi.sess[i] := by
  simp [Hw.updSes]
theorem Hw.updSes_ne (h : Hw) (i m_ : Fin 11) (f : Session → Session) (hm : m_ ≠ i) :
    (h.updSes i f).mywi.sess[m_] = h.mywi.sess[m_] := by
  have : i.val ≠ m_.val := fun e => hm (Fin.ext e.symm)
  simp [Hw.updSes, Vector.getElem_set_ne, this]
/-! `updRef` -/
@[simp] theorem Hw.updRef_time (h : Hw) (i : Fin 20) (f : RefIn → RefIn) : (h.updRef i f).time = h.time := rfl
@[simp] theorem Hw.updRef_sys (h : Hw) (i : Fin 20) (f : RefIn → RefIn) : (h.updRef i f).sys = h.sys := rfl
@[simp] theorem Hw.updRef_wave (h : Hw) (i : Fin 20) (f : RefIn → RefIn) : (h.updRef i f).wave = h.wave := rfl
@[simp] theorem Hw.updRef_note (h : Hw) (i : Fin 20) (f : RefIn → RefIn) : (h.updRef i f).note = h.note := rfl
@[simp] theorem Hw.updRef_mywi (h : Hw) (i : Fin 20) (f : RefIn → RefIn) : (h.updRef i f).mywi = h.mywi := rfl
@[simp] theorem Hw.updRef_txn (h : Hw) (i : Fin 20) (f : RefIn → RefIn) : (h.updRef i f).txn = h.txn := rfl
@[simp] theorem Hw.updRef_sett (h : Hw) (i : Fin 20) (f : RefIn → RefIn) : (h.updRef i f).sett = h.sett := rfl
@[simp] theorem Hw.updRef_steer (h : Hw) (i : Fin 20) (f : RefIn → RefIn) : (h.updRef i f).steer = h.steer := rfl
@[simp] theorem Hw.updRef_sealU (h : Hw) (i : Fin 20) (f : RefIn → RefIn) : (h.updRef i f).sealU = h.sealU := rfl
@[simp] theorem Hw.updRef_store (h : Hw) (i : Fin 20) (f : RefIn → RefIn) : (h.updRef i f).store = h.store := rfl
@[simp] theorem Hw.updRef_keep (h : Hw) (i : Fin 20) (f : RefIn → RefIn) : (h.updRef i f).keep = h.keep := rfl
@[simp] theorem Hw.updRef_keepSeed (h : Hw) (i : Fin 20) (f : RefIn → RefIn) : (h.updRef i f).keepSeed = h.keepSeed := rfl
@[simp] theorem Hw.updRef_evt (h : Hw) (i : Fin 20) (f : RefIn → RefIn) : (h.updRef i f).evt = h.evt := rfl
@[simp] theorem Hw.updRef_port (h : Hw) (i : Fin 20) (f : RefIn → RefIn) : (h.updRef i f).port = h.port := rfl
@[simp] theorem Hw.updRef_prong (h : Hw) (i : Fin 20) (f : RefIn → RefIn) : (h.updRef i f).prong = h.prong := rfl
@[simp] theorem Hw.updRef_pwr (h : Hw) (i : Fin 20) (f : RefIn → RefIn) : (h.updRef i f).pwr = h.pwr := rfl
@[simp] theorem Hw.updRef_cal (h : Hw) (i : Fin 20) (f : RefIn → RefIn) : (h.updRef i f).cal = h.cal := rfl
@[simp] theorem Hw.updRef_out (h : Hw) (i : Fin 20) (f : RefIn → RefIn) : (h.updRef i f).out = h.out := rfl
@[simp] theorem Hw.updRef_lat (h : Hw) (i : Fin 20) (f : RefIn → RefIn) : (h.updRef i f).lat = h.lat := rfl
@[simp] theorem Hw.updRef_deck (h : Hw) (i : Fin 20) (f : RefIn → RefIn) : (h.updRef i f).deck = h.deck := rfl
@[simp] theorem Hw.updRef_ibex (h : Hw) (i : Fin 20) (f : RefIn → RefIn) : (h.updRef i f).ibex = h.ibex := rfl
@[simp] theorem Hw.updRef_dma (h : Hw) (i : Fin 20) (f : RefIn → RefIn) : (h.updRef i f).dma = h.dma := rfl
@[simp] theorem Hw.updRef_tally (h : Hw) (i : Fin 20) (f : RefIn → RefIn) : (h.updRef i f).tally = h.tally := rfl
@[simp] theorem Hw.updRef_img (h : Hw) (i : Fin 20) (f : RefIn → RefIn) : (h.updRef i f).img = h.img := rfl
@[simp] theorem Hw.updRef_free (h : Hw) (i : Fin 20) (f : RefIn → RefIn) : (h.updRef i f).free = h.free := rfl
@[simp] theorem Hw.updRef_at (h : Hw) (i : Fin 20) (f : RefIn → RefIn) : (h.updRef i f).ref.ins[i] = f h.ref.ins[i] := by
  simp [Hw.updRef]
theorem Hw.updRef_ne (h : Hw) (i m_ : Fin 20) (f : RefIn → RefIn) (hm : m_ ≠ i) :
    (h.updRef i f).ref.ins[m_] = h.ref.ins[m_] := by
  have : i.val ≠ m_.val := fun e => hm (Fin.ext e.symm)
  simp [Hw.updRef, Vector.getElem_set_ne, this]
/-! `updLink` -/
@[simp] theorem Hw.updLink_time (h : Hw) (n : Fin 4) (f : LatLink → LatLink) : (h.updLink n f).time = h.time := rfl
@[simp] theorem Hw.updLink_sys (h : Hw) (n : Fin 4) (f : LatLink → LatLink) : (h.updLink n f).sys = h.sys := rfl
@[simp] theorem Hw.updLink_wave (h : Hw) (n : Fin 4) (f : LatLink → LatLink) : (h.updLink n f).wave = h.wave := rfl
@[simp] theorem Hw.updLink_note (h : Hw) (n : Fin 4) (f : LatLink → LatLink) : (h.updLink n f).note = h.note := rfl
@[simp] theorem Hw.updLink_mywi (h : Hw) (n : Fin 4) (f : LatLink → LatLink) : (h.updLink n f).mywi = h.mywi := rfl
@[simp] theorem Hw.updLink_txn (h : Hw) (n : Fin 4) (f : LatLink → LatLink) : (h.updLink n f).txn = h.txn := rfl
@[simp] theorem Hw.updLink_sett (h : Hw) (n : Fin 4) (f : LatLink → LatLink) : (h.updLink n f).sett = h.sett := rfl
@[simp] theorem Hw.updLink_ref (h : Hw) (n : Fin 4) (f : LatLink → LatLink) : (h.updLink n f).ref = h.ref := rfl
@[simp] theorem Hw.updLink_steer (h : Hw) (n : Fin 4) (f : LatLink → LatLink) : (h.updLink n f).steer = h.steer := rfl
@[simp] theorem Hw.updLink_sealU (h : Hw) (n : Fin 4) (f : LatLink → LatLink) : (h.updLink n f).sealU = h.sealU := rfl
@[simp] theorem Hw.updLink_store (h : Hw) (n : Fin 4) (f : LatLink → LatLink) : (h.updLink n f).store = h.store := rfl
@[simp] theorem Hw.updLink_keep (h : Hw) (n : Fin 4) (f : LatLink → LatLink) : (h.updLink n f).keep = h.keep := rfl
@[simp] theorem Hw.updLink_keepSeed (h : Hw) (n : Fin 4) (f : LatLink → LatLink) : (h.updLink n f).keepSeed = h.keepSeed := rfl
@[simp] theorem Hw.updLink_evt (h : Hw) (n : Fin 4) (f : LatLink → LatLink) : (h.updLink n f).evt = h.evt := rfl
@[simp] theorem Hw.updLink_port (h : Hw) (n : Fin 4) (f : LatLink → LatLink) : (h.updLink n f).port = h.port := rfl
@[simp] theorem Hw.updLink_prong (h : Hw) (n : Fin 4) (f : LatLink → LatLink) : (h.updLink n f).prong = h.prong := rfl
@[simp] theorem Hw.updLink_pwr (h : Hw) (n : Fin 4) (f : LatLink → LatLink) : (h.updLink n f).pwr = h.pwr := rfl
@[simp] theorem Hw.updLink_cal (h : Hw) (n : Fin 4) (f : LatLink → LatLink) : (h.updLink n f).cal = h.cal := rfl
@[simp] theorem Hw.updLink_out (h : Hw) (n : Fin 4) (f : LatLink → LatLink) : (h.updLink n f).out = h.out := rfl
@[simp] theorem Hw.updLink_deck (h : Hw) (n : Fin 4) (f : LatLink → LatLink) : (h.updLink n f).deck = h.deck := rfl
@[simp] theorem Hw.updLink_ibex (h : Hw) (n : Fin 4) (f : LatLink → LatLink) : (h.updLink n f).ibex = h.ibex := rfl
@[simp] theorem Hw.updLink_dma (h : Hw) (n : Fin 4) (f : LatLink → LatLink) : (h.updLink n f).dma = h.dma := rfl
@[simp] theorem Hw.updLink_tally (h : Hw) (n : Fin 4) (f : LatLink → LatLink) : (h.updLink n f).tally = h.tally := rfl
@[simp] theorem Hw.updLink_img (h : Hw) (n : Fin 4) (f : LatLink → LatLink) : (h.updLink n f).img = h.img := rfl
@[simp] theorem Hw.updLink_free (h : Hw) (n : Fin 4) (f : LatLink → LatLink) : (h.updLink n f).free = h.free := rfl
@[simp] theorem Hw.updLink_at (h : Hw) (n : Fin 4) (f : LatLink → LatLink) : (h.updLink n f).lat.link[n] = f h.lat.link[n] := by
  simp [Hw.updLink]
theorem Hw.updLink_ne (h : Hw) (n m_ : Fin 4) (f : LatLink → LatLink) (hm : m_ ≠ n) :
    (h.updLink n f).lat.link[m_] = h.lat.link[m_] := by
  have : n.val ≠ m_.val := fun e => hm (Fin.ext e.symm)
  simp [Hw.updLink, Vector.getElem_set_ne, this]
/-! `updDk` -/
@[simp] theorem Hw.updDk_time (h : Hw) (n : Fin 2) (f : DkSt → DkSt) : (h.updDk n f).time = h.time := rfl
@[simp] theorem Hw.updDk_sys (h : Hw) (n : Fin 2) (f : DkSt → DkSt) : (h.updDk n f).sys = h.sys := rfl
@[simp] theorem Hw.updDk_wave (h : Hw) (n : Fin 2) (f : DkSt → DkSt) : (h.updDk n f).wave = h.wave := rfl
@[simp] theorem Hw.updDk_note (h : Hw) (n : Fin 2) (f : DkSt → DkSt) : (h.updDk n f).note = h.note := rfl
@[simp] theorem Hw.updDk_mywi (h : Hw) (n : Fin 2) (f : DkSt → DkSt) : (h.updDk n f).mywi = h.mywi := rfl
@[simp] theorem Hw.updDk_txn (h : Hw) (n : Fin 2) (f : DkSt → DkSt) : (h.updDk n f).txn = h.txn := rfl
@[simp] theorem Hw.updDk_sett (h : Hw) (n : Fin 2) (f : DkSt → DkSt) : (h.updDk n f).sett = h.sett := rfl
@[simp] theorem Hw.updDk_ref (h : Hw) (n : Fin 2) (f : DkSt → DkSt) : (h.updDk n f).ref = h.ref := rfl
@[simp] theorem Hw.updDk_steer (h : Hw) (n : Fin 2) (f : DkSt → DkSt) : (h.updDk n f).steer = h.steer := rfl
@[simp] theorem Hw.updDk_sealU (h : Hw) (n : Fin 2) (f : DkSt → DkSt) : (h.updDk n f).sealU = h.sealU := rfl
@[simp] theorem Hw.updDk_store (h : Hw) (n : Fin 2) (f : DkSt → DkSt) : (h.updDk n f).store = h.store := rfl
@[simp] theorem Hw.updDk_keep (h : Hw) (n : Fin 2) (f : DkSt → DkSt) : (h.updDk n f).keep = h.keep := rfl
@[simp] theorem Hw.updDk_keepSeed (h : Hw) (n : Fin 2) (f : DkSt → DkSt) : (h.updDk n f).keepSeed = h.keepSeed := rfl
@[simp] theorem Hw.updDk_evt (h : Hw) (n : Fin 2) (f : DkSt → DkSt) : (h.updDk n f).evt = h.evt := rfl
@[simp] theorem Hw.updDk_port (h : Hw) (n : Fin 2) (f : DkSt → DkSt) : (h.updDk n f).port = h.port := rfl
@[simp] theorem Hw.updDk_prong (h : Hw) (n : Fin 2) (f : DkSt → DkSt) : (h.updDk n f).prong = h.prong := rfl
@[simp] theorem Hw.updDk_pwr (h : Hw) (n : Fin 2) (f : DkSt → DkSt) : (h.updDk n f).pwr = h.pwr := rfl
@[simp] theorem Hw.updDk_cal (h : Hw) (n : Fin 2) (f : DkSt → DkSt) : (h.updDk n f).cal = h.cal := rfl
@[simp] theorem Hw.updDk_out (h : Hw) (n : Fin 2) (f : DkSt → DkSt) : (h.updDk n f).out = h.out := rfl
@[simp] theorem Hw.updDk_lat (h : Hw) (n : Fin 2) (f : DkSt → DkSt) : (h.updDk n f).lat = h.lat := rfl
@[simp] theorem Hw.updDk_ibex (h : Hw) (n : Fin 2) (f : DkSt → DkSt) : (h.updDk n f).ibex = h.ibex := rfl
@[simp] theorem Hw.updDk_dma (h : Hw) (n : Fin 2) (f : DkSt → DkSt) : (h.updDk n f).dma = h.dma := rfl
@[simp] theorem Hw.updDk_tally (h : Hw) (n : Fin 2) (f : DkSt → DkSt) : (h.updDk n f).tally = h.tally := rfl
@[simp] theorem Hw.updDk_img (h : Hw) (n : Fin 2) (f : DkSt → DkSt) : (h.updDk n f).img = h.img := rfl
@[simp] theorem Hw.updDk_free (h : Hw) (n : Fin 2) (f : DkSt → DkSt) : (h.updDk n f).free = h.free := rfl
@[simp] theorem Hw.updDk_at (h : Hw) (n : Fin 2) (f : DkSt → DkSt) : (h.updDk n f).deck.dk[n] = f h.deck.dk[n] := by
  simp [Hw.updDk]
theorem Hw.updDk_ne (h : Hw) (n m_ : Fin 2) (f : DkSt → DkSt) (hm : m_ ≠ n) :
    (h.updDk n f).deck.dk[m_] = h.deck.dk[m_] := by
  have : n.val ≠ m_.val := fun e => hm (Fin.ext e.symm)
  simp [Hw.updDk, Vector.getElem_set_ne, this]
/-! `updPort` -/
@[simp] theorem Hw.updPort_time (h : Hw) (p : Fin 4) (f : Port → Port) : (h.updPort p f).time = h.time := rfl
@[simp] theorem Hw.updPort_sys (h : Hw) (p : Fin 4) (f : Port → Port) : (h.updPort p f).sys = h.sys := rfl
@[simp] theorem Hw.updPort_wave (h : Hw) (p : Fin 4) (f : Port → Port) : (h.updPort p f).wave = h.wave := rfl
@[simp] theorem Hw.updPort_note (h : Hw) (p : Fin 4) (f : Port → Port) : (h.updPort p f).note = h.note := rfl
@[simp] theorem Hw.updPort_mywi (h : Hw) (p : Fin 4) (f : Port → Port) : (h.updPort p f).mywi = h.mywi := rfl
@[simp] theorem Hw.updPort_txn (h : Hw) (p : Fin 4) (f : Port → Port) : (h.updPort p f).txn = h.txn := rfl
@[simp] theorem Hw.updPort_sett (h : Hw) (p : Fin 4) (f : Port → Port) : (h.updPort p f).sett = h.sett := rfl
@[simp] theorem Hw.updPort_ref (h : Hw) (p : Fin 4) (f : Port → Port) : (h.updPort p f).ref = h.ref := rfl
@[simp] theorem Hw.updPort_steer (h : Hw) (p : Fin 4) (f : Port → Port) : (h.updPort p f).steer = h.steer := rfl
@[simp] theorem Hw.updPort_sealU (h : Hw) (p : Fin 4) (f : Port → Port) : (h.updPort p f).sealU = h.sealU := rfl
@[simp] theorem Hw.updPort_store (h : Hw) (p : Fin 4) (f : Port → Port) : (h.updPort p f).store = h.store := rfl
@[simp] theorem Hw.updPort_keep (h : Hw) (p : Fin 4) (f : Port → Port) : (h.updPort p f).keep = h.keep := rfl
@[simp] theorem Hw.updPort_keepSeed (h : Hw) (p : Fin 4) (f : Port → Port) : (h.updPort p f).keepSeed = h.keepSeed := rfl
@[simp] theorem Hw.updPort_evt (h : Hw) (p : Fin 4) (f : Port → Port) : (h.updPort p f).evt = h.evt := rfl
@[simp] theorem Hw.updPort_prong (h : Hw) (p : Fin 4) (f : Port → Port) : (h.updPort p f).prong = h.prong := rfl
@[simp] theorem Hw.updPort_pwr (h : Hw) (p : Fin 4) (f : Port → Port) : (h.updPort p f).pwr = h.pwr := rfl
@[simp] theorem Hw.updPort_cal (h : Hw) (p : Fin 4) (f : Port → Port) : (h.updPort p f).cal = h.cal := rfl
@[simp] theorem Hw.updPort_out (h : Hw) (p : Fin 4) (f : Port → Port) : (h.updPort p f).out = h.out := rfl
@[simp] theorem Hw.updPort_lat (h : Hw) (p : Fin 4) (f : Port → Port) : (h.updPort p f).lat = h.lat := rfl
@[simp] theorem Hw.updPort_deck (h : Hw) (p : Fin 4) (f : Port → Port) : (h.updPort p f).deck = h.deck := rfl
@[simp] theorem Hw.updPort_ibex (h : Hw) (p : Fin 4) (f : Port → Port) : (h.updPort p f).ibex = h.ibex := rfl
@[simp] theorem Hw.updPort_dma (h : Hw) (p : Fin 4) (f : Port → Port) : (h.updPort p f).dma = h.dma := rfl
@[simp] theorem Hw.updPort_tally (h : Hw) (p : Fin 4) (f : Port → Port) : (h.updPort p f).tally = h.tally := rfl
@[simp] theorem Hw.updPort_img (h : Hw) (p : Fin 4) (f : Port → Port) : (h.updPort p f).img = h.img := rfl
@[simp] theorem Hw.updPort_free (h : Hw) (p : Fin 4) (f : Port → Port) : (h.updPort p f).free = h.free := rfl
@[simp] theorem Hw.updPort_at (h : Hw) (p : Fin 4) (f : Port → Port) : (h.updPort p f).port.p[p] = f h.port.p[p] := by
  simp [Hw.updPort]
theorem Hw.updPort_ne (h : Hw) (p m_ : Fin 4) (f : Port → Port) (hm : m_ ≠ p) :
    (h.updPort p f).port.p[m_] = h.port.p[m_] := by
  have : p.val ≠ m_.val := fun e => hm (Fin.ext e.symm)
  simp [Hw.updPort, Vector.getElem_set_ne, this]
/-! `updCh` -/
@[simp] theorem Hw.updCh_time (h : Hw) (n : Fin 32) (f : HerdCh → HerdCh) : (h.updCh n f).time = h.time := rfl
@[simp] theorem Hw.updCh_sys (h : Hw) (n : Fin 32) (f : HerdCh → HerdCh) : (h.updCh n f).sys = h.sys := rfl
@[simp] theorem Hw.updCh_wave (h : Hw) (n : Fin 32) (f : HerdCh → HerdCh) : (h.updCh n f).wave = h.wave := rfl
@[simp] theorem Hw.updCh_note (h : Hw) (n : Fin 32) (f : HerdCh → HerdCh) : (h.updCh n f).note = h.note := rfl
@[simp] theorem Hw.updCh_mywi (h : Hw) (n : Fin 32) (f : HerdCh → HerdCh) : (h.updCh n f).mywi = h.mywi := rfl
@[simp] theorem Hw.updCh_txn (h : Hw) (n : Fin 32) (f : HerdCh → HerdCh) : (h.updCh n f).txn = h.txn := rfl
@[simp] theorem Hw.updCh_sett (h : Hw) (n : Fin 32) (f : HerdCh → HerdCh) : (h.updCh n f).sett = h.sett := rfl
@[simp] theorem Hw.updCh_ref (h : Hw) (n : Fin 32) (f : HerdCh → HerdCh) : (h.updCh n f).ref = h.ref := rfl
@[simp] theorem Hw.updCh_steer (h : Hw) (n : Fin 32) (f : HerdCh → HerdCh) : (h.updCh n f).steer = h.steer := rfl
@[simp] theorem Hw.updCh_sealU (h : Hw) (n : Fin 32) (f : HerdCh → HerdCh) : (h.updCh n f).sealU = h.sealU := rfl
@[simp] theorem Hw.updCh_store (h : Hw) (n : Fin 32) (f : HerdCh → HerdCh) : (h.updCh n f).store = h.store := rfl
@[simp] theorem Hw.updCh_keep (h : Hw) (n : Fin 32) (f : HerdCh → HerdCh) : (h.updCh n f).keep = h.keep := rfl
@[simp] theorem Hw.updCh_keepSeed (h : Hw) (n : Fin 32) (f : HerdCh → HerdCh) : (h.updCh n f).keepSeed = h.keepSeed := rfl
@[simp] theorem Hw.updCh_evt (h : Hw) (n : Fin 32) (f : HerdCh → HerdCh) : (h.updCh n f).evt = h.evt := rfl
@[simp] theorem Hw.updCh_port (h : Hw) (n : Fin 32) (f : HerdCh → HerdCh) : (h.updCh n f).port = h.port := rfl
@[simp] theorem Hw.updCh_prong (h : Hw) (n : Fin 32) (f : HerdCh → HerdCh) : (h.updCh n f).prong = h.prong := rfl
@[simp] theorem Hw.updCh_pwr (h : Hw) (n : Fin 32) (f : HerdCh → HerdCh) : (h.updCh n f).pwr = h.pwr := rfl
@[simp] theorem Hw.updCh_cal (h : Hw) (n : Fin 32) (f : HerdCh → HerdCh) : (h.updCh n f).cal = h.cal := rfl
@[simp] theorem Hw.updCh_out (h : Hw) (n : Fin 32) (f : HerdCh → HerdCh) : (h.updCh n f).out = h.out := rfl
@[simp] theorem Hw.updCh_lat (h : Hw) (n : Fin 32) (f : HerdCh → HerdCh) : (h.updCh n f).lat = h.lat := rfl
@[simp] theorem Hw.updCh_deck (h : Hw) (n : Fin 32) (f : HerdCh → HerdCh) : (h.updCh n f).deck = h.deck := rfl
@[simp] theorem Hw.updCh_dma (h : Hw) (n : Fin 32) (f : HerdCh → HerdCh) : (h.updCh n f).dma = h.dma := rfl
@[simp] theorem Hw.updCh_tally (h : Hw) (n : Fin 32) (f : HerdCh → HerdCh) : (h.updCh n f).tally = h.tally := rfl
@[simp] theorem Hw.updCh_img (h : Hw) (n : Fin 32) (f : HerdCh → HerdCh) : (h.updCh n f).img = h.img := rfl
@[simp] theorem Hw.updCh_free (h : Hw) (n : Fin 32) (f : HerdCh → HerdCh) : (h.updCh n f).free = h.free := rfl
@[simp] theorem Hw.updCh_at (h : Hw) (n : Fin 32) (f : HerdCh → HerdCh) : (h.updCh n f).ibex.ch[n] = f h.ibex.ch[n] := by
  simp [Hw.updCh]
theorem Hw.updCh_ne (h : Hw) (n m_ : Fin 32) (f : HerdCh → HerdCh) (hm : m_ ≠ n) :
    (h.updCh n f).ibex.ch[m_] = h.ibex.ch[m_] := by
  have : n.val ≠ m_.val := fun e => hm (Fin.ext e.symm)
  simp [Hw.updCh, Vector.getElem_set_ne, this]
/-! `updKid` -/
@[simp] theorem Hw.updKid_time (h : Hw) (k : Fin 8) (f : KidLane → KidLane) : (h.updKid k f).time = h.time := rfl
@[simp] theorem Hw.updKid_sys (h : Hw) (k : Fin 8) (f : KidLane → KidLane) : (h.updKid k f).sys = h.sys := rfl
@[simp] theorem Hw.updKid_wave (h : Hw) (k : Fin 8) (f : KidLane → KidLane) : (h.updKid k f).wave = h.wave := rfl
@[simp] theorem Hw.updKid_note (h : Hw) (k : Fin 8) (f : KidLane → KidLane) : (h.updKid k f).note = h.note := rfl
@[simp] theorem Hw.updKid_mywi (h : Hw) (k : Fin 8) (f : KidLane → KidLane) : (h.updKid k f).mywi = h.mywi := rfl
@[simp] theorem Hw.updKid_txn (h : Hw) (k : Fin 8) (f : KidLane → KidLane) : (h.updKid k f).txn = h.txn := rfl
@[simp] theorem Hw.updKid_sett (h : Hw) (k : Fin 8) (f : KidLane → KidLane) : (h.updKid k f).sett = h.sett := rfl
@[simp] theorem Hw.updKid_ref (h : Hw) (k : Fin 8) (f : KidLane → KidLane) : (h.updKid k f).ref = h.ref := rfl
@[simp] theorem Hw.updKid_steer (h : Hw) (k : Fin 8) (f : KidLane → KidLane) : (h.updKid k f).steer = h.steer := rfl
@[simp] theorem Hw.updKid_sealU (h : Hw) (k : Fin 8) (f : KidLane → KidLane) : (h.updKid k f).sealU = h.sealU := rfl
@[simp] theorem Hw.updKid_store (h : Hw) (k : Fin 8) (f : KidLane → KidLane) : (h.updKid k f).store = h.store := rfl
@[simp] theorem Hw.updKid_keep (h : Hw) (k : Fin 8) (f : KidLane → KidLane) : (h.updKid k f).keep = h.keep := rfl
@[simp] theorem Hw.updKid_keepSeed (h : Hw) (k : Fin 8) (f : KidLane → KidLane) : (h.updKid k f).keepSeed = h.keepSeed := rfl
@[simp] theorem Hw.updKid_evt (h : Hw) (k : Fin 8) (f : KidLane → KidLane) : (h.updKid k f).evt = h.evt := rfl
@[simp] theorem Hw.updKid_port (h : Hw) (k : Fin 8) (f : KidLane → KidLane) : (h.updKid k f).port = h.port := rfl
@[simp] theorem Hw.updKid_prong (h : Hw) (k : Fin 8) (f : KidLane → KidLane) : (h.updKid k f).prong = h.prong := rfl
@[simp] theorem Hw.updKid_pwr (h : Hw) (k : Fin 8) (f : KidLane → KidLane) : (h.updKid k f).pwr = h.pwr := rfl
@[simp] theorem Hw.updKid_cal (h : Hw) (k : Fin 8) (f : KidLane → KidLane) : (h.updKid k f).cal = h.cal := rfl
@[simp] theorem Hw.updKid_out (h : Hw) (k : Fin 8) (f : KidLane → KidLane) : (h.updKid k f).out = h.out := rfl
@[simp] theorem Hw.updKid_lat (h : Hw) (k : Fin 8) (f : KidLane → KidLane) : (h.updKid k f).lat = h.lat := rfl
@[simp] theorem Hw.updKid_deck (h : Hw) (k : Fin 8) (f : KidLane → KidLane) : (h.updKid k f).deck = h.deck := rfl
@[simp] theorem Hw.updKid_dma (h : Hw) (k : Fin 8) (f : KidLane → KidLane) : (h.updKid k f).dma = h.dma := rfl
@[simp] theorem Hw.updKid_tally (h : Hw) (k : Fin 8) (f : KidLane → KidLane) : (h.updKid k f).tally = h.tally := rfl
@[simp] theorem Hw.updKid_img (h : Hw) (k : Fin 8) (f : KidLane → KidLane) : (h.updKid k f).img = h.img := rfl
@[simp] theorem Hw.updKid_free (h : Hw) (k : Fin 8) (f : KidLane → KidLane) : (h.updKid k f).free = h.free := rfl
@[simp] theorem Hw.updKid_at (h : Hw) (k : Fin 8) (f : KidLane → KidLane) : (h.updKid k f).ibex.kid[k] = f h.ibex.kid[k] := by
  simp [Hw.updKid]
theorem Hw.updKid_ne (h : Hw) (k m_ : Fin 8) (f : KidLane → KidLane) (hm : m_ ≠ k) :
    (h.updKid k f).ibex.kid[m_] = h.ibex.kid[m_] := by
  have : k.val ≠ m_.val := fun e => hm (Fin.ext e.symm)
  simp [Hw.updKid, Vector.getElem_set_ne, this]
/-! `updDma` -/
@[simp] theorem Hw.updDma_time (h : Hw) (n : Fin 16) (f : DmaCh → DmaCh) : (h.updDma n f).time = h.time := rfl
@[simp] theorem Hw.updDma_sys (h : Hw) (n : Fin 16) (f : DmaCh → DmaCh) : (h.updDma n f).sys = h.sys := rfl
@[simp] theorem Hw.updDma_wave (h : Hw) (n : Fin 16) (f : DmaCh → DmaCh) : (h.updDma n f).wave = h.wave := rfl
@[simp] theorem Hw.updDma_note (h : Hw) (n : Fin 16) (f : DmaCh → DmaCh) : (h.updDma n f).note = h.note := rfl
@[simp] theorem Hw.updDma_mywi (h : Hw) (n : Fin 16) (f : DmaCh → DmaCh) : (h.updDma n f).mywi = h.mywi := rfl
@[simp] theorem Hw.updDma_txn (h : Hw) (n : Fin 16) (f : DmaCh → DmaCh) : (h.updDma n f).txn = h.txn := rfl
@[simp] theorem Hw.updDma_sett (h : Hw) (n : Fin 16) (f : DmaCh → DmaCh) : (h.updDma n f).sett = h.sett := rfl
@[simp] theorem Hw.updDma_ref (h : Hw) (n : Fin 16) (f : DmaCh → DmaCh) : (h.updDma n f).ref = h.ref := rfl
@[simp] theorem Hw.updDma_steer (h : Hw) (n : Fin 16) (f : DmaCh → DmaCh) : (h.updDma n f).steer = h.steer := rfl
@[simp] theorem Hw.updDma_sealU (h : Hw) (n : Fin 16) (f : DmaCh → DmaCh) : (h.updDma n f).sealU = h.sealU := rfl
@[simp] theorem Hw.updDma_store (h : Hw) (n : Fin 16) (f : DmaCh → DmaCh) : (h.updDma n f).store = h.store := rfl
@[simp] theorem Hw.updDma_keep (h : Hw) (n : Fin 16) (f : DmaCh → DmaCh) : (h.updDma n f).keep = h.keep := rfl
@[simp] theorem Hw.updDma_keepSeed (h : Hw) (n : Fin 16) (f : DmaCh → DmaCh) : (h.updDma n f).keepSeed = h.keepSeed := rfl
@[simp] theorem Hw.updDma_evt (h : Hw) (n : Fin 16) (f : DmaCh → DmaCh) : (h.updDma n f).evt = h.evt := rfl
@[simp] theorem Hw.updDma_port (h : Hw) (n : Fin 16) (f : DmaCh → DmaCh) : (h.updDma n f).port = h.port := rfl
@[simp] theorem Hw.updDma_prong (h : Hw) (n : Fin 16) (f : DmaCh → DmaCh) : (h.updDma n f).prong = h.prong := rfl
@[simp] theorem Hw.updDma_pwr (h : Hw) (n : Fin 16) (f : DmaCh → DmaCh) : (h.updDma n f).pwr = h.pwr := rfl
@[simp] theorem Hw.updDma_cal (h : Hw) (n : Fin 16) (f : DmaCh → DmaCh) : (h.updDma n f).cal = h.cal := rfl
@[simp] theorem Hw.updDma_out (h : Hw) (n : Fin 16) (f : DmaCh → DmaCh) : (h.updDma n f).out = h.out := rfl
@[simp] theorem Hw.updDma_lat (h : Hw) (n : Fin 16) (f : DmaCh → DmaCh) : (h.updDma n f).lat = h.lat := rfl
@[simp] theorem Hw.updDma_deck (h : Hw) (n : Fin 16) (f : DmaCh → DmaCh) : (h.updDma n f).deck = h.deck := rfl
@[simp] theorem Hw.updDma_ibex (h : Hw) (n : Fin 16) (f : DmaCh → DmaCh) : (h.updDma n f).ibex = h.ibex := rfl
@[simp] theorem Hw.updDma_tally (h : Hw) (n : Fin 16) (f : DmaCh → DmaCh) : (h.updDma n f).tally = h.tally := rfl
@[simp] theorem Hw.updDma_img (h : Hw) (n : Fin 16) (f : DmaCh → DmaCh) : (h.updDma n f).img = h.img := rfl
@[simp] theorem Hw.updDma_free (h : Hw) (n : Fin 16) (f : DmaCh → DmaCh) : (h.updDma n f).free = h.free := rfl
@[simp] theorem Hw.updDma_at (h : Hw) (n : Fin 16) (f : DmaCh → DmaCh) : (h.updDma n f).dma.ch[n] = f h.dma.ch[n] := by
  simp [Hw.updDma]
theorem Hw.updDma_ne (h : Hw) (n m_ : Fin 16) (f : DmaCh → DmaCh) (hm : m_ ≠ n) :
    (h.updDma n f).dma.ch[m_] = h.dma.ch[m_] := by
  have : n.val ≠ m_.val := fun e => hm (Fin.ext e.symm)
  simp [Hw.updDma, Vector.getElem_set_ne, this]
/-! `updCal` -/
@[simp] theorem Hw.updCal_time (h : Hw) (c : Fin 40) (f : CalCh → CalCh) : (h.updCal c f).time = h.time := rfl
@[simp] theorem Hw.updCal_sys (h : Hw) (c : Fin 40) (f : CalCh → CalCh) : (h.updCal c f).sys = h.sys := rfl
@[simp] theorem Hw.updCal_wave (h : Hw) (c : Fin 40) (f : CalCh → CalCh) : (h.updCal c f).wave = h.wave := rfl
@[simp] theorem Hw.updCal_note (h : Hw) (c : Fin 40) (f : CalCh → CalCh) : (h.updCal c f).note = h.note := rfl
@[simp] theorem Hw.updCal_mywi (h : Hw) (c : Fin 40) (f : CalCh → CalCh) : (h.updCal c f).mywi = h.mywi := rfl
@[simp] theorem Hw.updCal_txn (h : Hw) (c : Fin 40) (f : CalCh → CalCh) : (h.updCal c f).txn = h.txn := rfl
@[simp] theorem Hw.updCal_sett (h : Hw) (c : Fin 40) (f : CalCh → CalCh) : (h.updCal c f).sett = h.sett := rfl
@[simp] theorem Hw.updCal_ref (h : Hw) (c : Fin 40) (f : CalCh → CalCh) : (h.updCal c f).ref = h.ref := rfl
@[simp] theorem Hw.updCal_steer (h : Hw) (c : Fin 40) (f : CalCh → CalCh) : (h.updCal c f).steer = h.steer := rfl
@[simp] theorem Hw.updCal_sealU (h : Hw) (c : Fin 40) (f : CalCh → CalCh) : (h.updCal c f).sealU = h.sealU := rfl
@[simp] theorem Hw.updCal_store (h : Hw) (c : Fin 40) (f : CalCh → CalCh) : (h.updCal c f).store = h.store := rfl
@[simp] theorem Hw.updCal_keep (h : Hw) (c : Fin 40) (f : CalCh → CalCh) : (h.updCal c f).keep = h.keep := rfl
@[simp] theorem Hw.updCal_keepSeed (h : Hw) (c : Fin 40) (f : CalCh → CalCh) : (h.updCal c f).keepSeed = h.keepSeed := rfl
@[simp] theorem Hw.updCal_evt (h : Hw) (c : Fin 40) (f : CalCh → CalCh) : (h.updCal c f).evt = h.evt := rfl
@[simp] theorem Hw.updCal_port (h : Hw) (c : Fin 40) (f : CalCh → CalCh) : (h.updCal c f).port = h.port := rfl
@[simp] theorem Hw.updCal_prong (h : Hw) (c : Fin 40) (f : CalCh → CalCh) : (h.updCal c f).prong = h.prong := rfl
@[simp] theorem Hw.updCal_pwr (h : Hw) (c : Fin 40) (f : CalCh → CalCh) : (h.updCal c f).pwr = h.pwr := rfl
@[simp] theorem Hw.updCal_out (h : Hw) (c : Fin 40) (f : CalCh → CalCh) : (h.updCal c f).out = h.out := rfl
@[simp] theorem Hw.updCal_lat (h : Hw) (c : Fin 40) (f : CalCh → CalCh) : (h.updCal c f).lat = h.lat := rfl
@[simp] theorem Hw.updCal_deck (h : Hw) (c : Fin 40) (f : CalCh → CalCh) : (h.updCal c f).deck = h.deck := rfl
@[simp] theorem Hw.updCal_ibex (h : Hw) (c : Fin 40) (f : CalCh → CalCh) : (h.updCal c f).ibex = h.ibex := rfl
@[simp] theorem Hw.updCal_dma (h : Hw) (c : Fin 40) (f : CalCh → CalCh) : (h.updCal c f).dma = h.dma := rfl
@[simp] theorem Hw.updCal_tally (h : Hw) (c : Fin 40) (f : CalCh → CalCh) : (h.updCal c f).tally = h.tally := rfl
@[simp] theorem Hw.updCal_img (h : Hw) (c : Fin 40) (f : CalCh → CalCh) : (h.updCal c f).img = h.img := rfl
@[simp] theorem Hw.updCal_free (h : Hw) (c : Fin 40) (f : CalCh → CalCh) : (h.updCal c f).free = h.free := rfl
@[simp] theorem Hw.updCal_at (h : Hw) (c : Fin 40) (f : CalCh → CalCh) : (h.updCal c f).cal.ch[c] = f h.cal.ch[c] := by
  simp [Hw.updCal]
theorem Hw.updCal_ne (h : Hw) (c m_ : Fin 40) (f : CalCh → CalCh) (hm : m_ ≠ c) :
    (h.updCal c f).cal.ch[m_] = h.cal.ch[m_] := by
  have : c.val ≠ m_.val := fun e => hm (Fin.ext e.symm)
  simp [Hw.updCal, Vector.getElem_set_ne, this]
/-! `updPulse` -/
@[simp] theorem Hw.updPulse_time (h : Hw) (n : Fin 4) (f : PulseOut → PulseOut) : (h.updPulse n f).time = h.time := rfl
@[simp] theorem Hw.updPulse_sys (h : Hw) (n : Fin 4) (f : PulseOut → PulseOut) : (h.updPulse n f).sys = h.sys := rfl
@[simp] theorem Hw.updPulse_wave (h : Hw) (n : Fin 4) (f : PulseOut → PulseOut) : (h.updPulse n f).wave = h.wave := rfl
@[simp] theorem Hw.updPulse_note (h : Hw) (n : Fin 4) (f : PulseOut → PulseOut) : (h.updPulse n f).note = h.note := rfl
@[simp] theorem Hw.updPulse_mywi (h : Hw) (n : Fin 4) (f : PulseOut → PulseOut) : (h.updPulse n f).mywi = h.mywi := rfl
@[simp] theorem Hw.updPulse_txn (h : Hw) (n : Fin 4) (f : PulseOut → PulseOut) : (h.updPulse n f).txn = h.txn := rfl
@[simp] theorem Hw.updPulse_sett (h : Hw) (n : Fin 4) (f : PulseOut → PulseOut) : (h.updPulse n f).sett = h.sett := rfl
@[simp] theorem Hw.updPulse_ref (h : Hw) (n : Fin 4) (f : PulseOut → PulseOut) : (h.updPulse n f).ref = h.ref := rfl
@[simp] theorem Hw.updPulse_steer (h : Hw) (n : Fin 4) (f : PulseOut → PulseOut) : (h.updPulse n f).steer = h.steer := rfl
@[simp] theorem Hw.updPulse_sealU (h : Hw) (n : Fin 4) (f : PulseOut → PulseOut) : (h.updPulse n f).sealU = h.sealU := rfl
@[simp] theorem Hw.updPulse_store (h : Hw) (n : Fin 4) (f : PulseOut → PulseOut) : (h.updPulse n f).store = h.store := rfl
@[simp] theorem Hw.updPulse_keep (h : Hw) (n : Fin 4) (f : PulseOut → PulseOut) : (h.updPulse n f).keep = h.keep := rfl
@[simp] theorem Hw.updPulse_keepSeed (h : Hw) (n : Fin 4) (f : PulseOut → PulseOut) : (h.updPulse n f).keepSeed = h.keepSeed := rfl
@[simp] theorem Hw.updPulse_evt (h : Hw) (n : Fin 4) (f : PulseOut → PulseOut) : (h.updPulse n f).evt = h.evt := rfl
@[simp] theorem Hw.updPulse_port (h : Hw) (n : Fin 4) (f : PulseOut → PulseOut) : (h.updPulse n f).port = h.port := rfl
@[simp] theorem Hw.updPulse_prong (h : Hw) (n : Fin 4) (f : PulseOut → PulseOut) : (h.updPulse n f).prong = h.prong := rfl
@[simp] theorem Hw.updPulse_pwr (h : Hw) (n : Fin 4) (f : PulseOut → PulseOut) : (h.updPulse n f).pwr = h.pwr := rfl
@[simp] theorem Hw.updPulse_cal (h : Hw) (n : Fin 4) (f : PulseOut → PulseOut) : (h.updPulse n f).cal = h.cal := rfl
@[simp] theorem Hw.updPulse_lat (h : Hw) (n : Fin 4) (f : PulseOut → PulseOut) : (h.updPulse n f).lat = h.lat := rfl
@[simp] theorem Hw.updPulse_deck (h : Hw) (n : Fin 4) (f : PulseOut → PulseOut) : (h.updPulse n f).deck = h.deck := rfl
@[simp] theorem Hw.updPulse_ibex (h : Hw) (n : Fin 4) (f : PulseOut → PulseOut) : (h.updPulse n f).ibex = h.ibex := rfl
@[simp] theorem Hw.updPulse_dma (h : Hw) (n : Fin 4) (f : PulseOut → PulseOut) : (h.updPulse n f).dma = h.dma := rfl
@[simp] theorem Hw.updPulse_tally (h : Hw) (n : Fin 4) (f : PulseOut → PulseOut) : (h.updPulse n f).tally = h.tally := rfl
@[simp] theorem Hw.updPulse_img (h : Hw) (n : Fin 4) (f : PulseOut → PulseOut) : (h.updPulse n f).img = h.img := rfl
@[simp] theorem Hw.updPulse_free (h : Hw) (n : Fin 4) (f : PulseOut → PulseOut) : (h.updPulse n f).free = h.free := rfl
@[simp] theorem Hw.updPulse_at (h : Hw) (n : Fin 4) (f : PulseOut → PulseOut) : (h.updPulse n f).out.pulse[n] = f h.out.pulse[n] := by
  simp [Hw.updPulse]
theorem Hw.updPulse_ne (h : Hw) (n m_ : Fin 4) (f : PulseOut → PulseOut) (hm : m_ ≠ n) :
    (h.updPulse n f).out.pulse[m_] = h.out.pulse[m_] := by
  have : n.val ≠ m_.val := fun e => hm (Fin.ext e.symm)
  simp [Hw.updPulse, Vector.getElem_set_ne, this]
/-! `updClk` -/
@[simp] theorem Hw.updClk_time (h : Hw) (n : Fin 8) (f : ClkOut → ClkOut) : (h.updClk n f).time = h.time := rfl
@[simp] theorem Hw.updClk_sys (h : Hw) (n : Fin 8) (f : ClkOut → ClkOut) : (h.updClk n f).sys = h.sys := rfl
@[simp] theorem Hw.updClk_wave (h : Hw) (n : Fin 8) (f : ClkOut → ClkOut) : (h.updClk n f).wave = h.wave := rfl
@[simp] theorem Hw.updClk_note (h : Hw) (n : Fin 8) (f : ClkOut → ClkOut) : (h.updClk n f).note = h.note := rfl
@[simp] theorem Hw.updClk_mywi (h : Hw) (n : Fin 8) (f : ClkOut → ClkOut) : (h.updClk n f).mywi = h.mywi := rfl
@[simp] theorem Hw.updClk_txn (h : Hw) (n : Fin 8) (f : ClkOut → ClkOut) : (h.updClk n f).txn = h.txn := rfl
@[simp] theorem Hw.updClk_sett (h : Hw) (n : Fin 8) (f : ClkOut → ClkOut) : (h.updClk n f).sett = h.sett := rfl
@[simp] theorem Hw.updClk_ref (h : Hw) (n : Fin 8) (f : ClkOut → ClkOut) : (h.updClk n f).ref = h.ref := rfl
@[simp] theorem Hw.updClk_steer (h : Hw) (n : Fin 8) (f : ClkOut → ClkOut) : (h.updClk n f).steer = h.steer := rfl
@[simp] theorem Hw.updClk_sealU (h : Hw) (n : Fin 8) (f : ClkOut → ClkOut) : (h.updClk n f).sealU = h.sealU := rfl
@[simp] theorem Hw.updClk_store (h : Hw) (n : Fin 8) (f : ClkOut → ClkOut) : (h.updClk n f).store = h.store := rfl
@[simp] theorem Hw.updClk_keep (h : Hw) (n : Fin 8) (f : ClkOut → ClkOut) : (h.updClk n f).keep = h.keep := rfl
@[simp] theorem Hw.updClk_keepSeed (h : Hw) (n : Fin 8) (f : ClkOut → ClkOut) : (h.updClk n f).keepSeed = h.keepSeed := rfl
@[simp] theorem Hw.updClk_evt (h : Hw) (n : Fin 8) (f : ClkOut → ClkOut) : (h.updClk n f).evt = h.evt := rfl
@[simp] theorem Hw.updClk_port (h : Hw) (n : Fin 8) (f : ClkOut → ClkOut) : (h.updClk n f).port = h.port := rfl
@[simp] theorem Hw.updClk_prong (h : Hw) (n : Fin 8) (f : ClkOut → ClkOut) : (h.updClk n f).prong = h.prong := rfl
@[simp] theorem Hw.updClk_pwr (h : Hw) (n : Fin 8) (f : ClkOut → ClkOut) : (h.updClk n f).pwr = h.pwr := rfl
@[simp] theorem Hw.updClk_cal (h : Hw) (n : Fin 8) (f : ClkOut → ClkOut) : (h.updClk n f).cal = h.cal := rfl
@[simp] theorem Hw.updClk_lat (h : Hw) (n : Fin 8) (f : ClkOut → ClkOut) : (h.updClk n f).lat = h.lat := rfl
@[simp] theorem Hw.updClk_deck (h : Hw) (n : Fin 8) (f : ClkOut → ClkOut) : (h.updClk n f).deck = h.deck := rfl
@[simp] theorem Hw.updClk_ibex (h : Hw) (n : Fin 8) (f : ClkOut → ClkOut) : (h.updClk n f).ibex = h.ibex := rfl
@[simp] theorem Hw.updClk_dma (h : Hw) (n : Fin 8) (f : ClkOut → ClkOut) : (h.updClk n f).dma = h.dma := rfl
@[simp] theorem Hw.updClk_tally (h : Hw) (n : Fin 8) (f : ClkOut → ClkOut) : (h.updClk n f).tally = h.tally := rfl
@[simp] theorem Hw.updClk_img (h : Hw) (n : Fin 8) (f : ClkOut → ClkOut) : (h.updClk n f).img = h.img := rfl
@[simp] theorem Hw.updClk_free (h : Hw) (n : Fin 8) (f : ClkOut → ClkOut) : (h.updClk n f).free = h.free := rfl
@[simp] theorem Hw.updClk_at (h : Hw) (n : Fin 8) (f : ClkOut → ClkOut) : (h.updClk n f).out.clk[n] = f h.out.clk[n] := by
  simp [Hw.updClk]
theorem Hw.updClk_ne (h : Hw) (n m_ : Fin 8) (f : ClkOut → ClkOut) (hm : m_ ≠ n) :
    (h.updClk n f).out.clk[m_] = h.out.clk[m_] := by
  have : n.val ≠ m_.val := fun e => hm (Fin.ext e.symm)
  simp [Hw.updClk, Vector.getElem_set_ne, this]
/-! `updIsl` -/
@[simp] theorem Hw.updIsl_time (h : Hw) (n : Fin 48) (f : Island → Island) : (h.updIsl n f).time = h.time := rfl
@[simp] theorem Hw.updIsl_sys (h : Hw) (n : Fin 48) (f : Island → Island) : (h.updIsl n f).sys = h.sys := rfl
@[simp] theorem Hw.updIsl_note (h : Hw) (n : Fin 48) (f : Island → Island) : (h.updIsl n f).note = h.note := rfl
@[simp] theorem Hw.updIsl_mywi (h : Hw) (n : Fin 48) (f : Island → Island) : (h.updIsl n f).mywi = h.mywi := rfl
@[simp] theorem Hw.updIsl_txn (h : Hw) (n : Fin 48) (f : Island → Island) : (h.updIsl n f).txn = h.txn := rfl
@[simp] theorem Hw.updIsl_sett (h : Hw) (n : Fin 48) (f : Island → Island) : (h.updIsl n f).sett = h.sett := rfl
@[simp] theorem Hw.updIsl_ref (h : Hw) (n : Fin 48) (f : Island → Island) : (h.updIsl n f).ref = h.ref := rfl
@[simp] theorem Hw.updIsl_steer (h : Hw) (n : Fin 48) (f : Island → Island) : (h.updIsl n f).steer = h.steer := rfl
@[simp] theorem Hw.updIsl_sealU (h : Hw) (n : Fin 48) (f : Island → Island) : (h.updIsl n f).sealU = h.sealU := rfl
@[simp] theorem Hw.updIsl_store (h : Hw) (n : Fin 48) (f : Island → Island) : (h.updIsl n f).store = h.store := rfl
@[simp] theorem Hw.updIsl_keep (h : Hw) (n : Fin 48) (f : Island → Island) : (h.updIsl n f).keep = h.keep := rfl
@[simp] theorem Hw.updIsl_keepSeed (h : Hw) (n : Fin 48) (f : Island → Island) : (h.updIsl n f).keepSeed = h.keepSeed := rfl
@[simp] theorem Hw.updIsl_evt (h : Hw) (n : Fin 48) (f : Island → Island) : (h.updIsl n f).evt = h.evt := rfl
@[simp] theorem Hw.updIsl_port (h : Hw) (n : Fin 48) (f : Island → Island) : (h.updIsl n f).port = h.port := rfl
@[simp] theorem Hw.updIsl_prong (h : Hw) (n : Fin 48) (f : Island → Island) : (h.updIsl n f).prong = h.prong := rfl
@[simp] theorem Hw.updIsl_pwr (h : Hw) (n : Fin 48) (f : Island → Island) : (h.updIsl n f).pwr = h.pwr := rfl
@[simp] theorem Hw.updIsl_cal (h : Hw) (n : Fin 48) (f : Island → Island) : (h.updIsl n f).cal = h.cal := rfl
@[simp] theorem Hw.updIsl_out (h : Hw) (n : Fin 48) (f : Island → Island) : (h.updIsl n f).out = h.out := rfl
@[simp] theorem Hw.updIsl_lat (h : Hw) (n : Fin 48) (f : Island → Island) : (h.updIsl n f).lat = h.lat := rfl
@[simp] theorem Hw.updIsl_deck (h : Hw) (n : Fin 48) (f : Island → Island) : (h.updIsl n f).deck = h.deck := rfl
@[simp] theorem Hw.updIsl_ibex (h : Hw) (n : Fin 48) (f : Island → Island) : (h.updIsl n f).ibex = h.ibex := rfl
@[simp] theorem Hw.updIsl_dma (h : Hw) (n : Fin 48) (f : Island → Island) : (h.updIsl n f).dma = h.dma := rfl
@[simp] theorem Hw.updIsl_tally (h : Hw) (n : Fin 48) (f : Island → Island) : (h.updIsl n f).tally = h.tally := rfl
@[simp] theorem Hw.updIsl_img (h : Hw) (n : Fin 48) (f : Island → Island) : (h.updIsl n f).img = h.img := rfl
@[simp] theorem Hw.updIsl_free (h : Hw) (n : Fin 48) (f : Island → Island) : (h.updIsl n f).free = h.free := rfl
@[simp] theorem Hw.updIsl_at (h : Hw) (n : Fin 48) (f : Island → Island) : (h.updIsl n f).wave.isl[n] = f h.wave.isl[n] := by
  simp [Hw.updIsl]
theorem Hw.updIsl_ne (h : Hw) (n m_ : Fin 48) (f : Island → Island) (hm : m_ ≠ n) :
    (h.updIsl n f).wave.isl[m_] = h.wave.isl[m_] := by
  have : n.val ≠ m_.val := fun e => hm (Fin.ext e.symm)
  simp [Hw.updIsl, Vector.getElem_set_ne, this]
/-! `updPipe` -/
@[simp] theorem Hw.updPipe_time (h : Hw) (q : Fin 16) (f : Pipe → Pipe) : (h.updPipe q f).time = h.time := rfl
@[simp] theorem Hw.updPipe_sys (h : Hw) (q : Fin 16) (f : Pipe → Pipe) : (h.updPipe q f).sys = h.sys := rfl
@[simp] theorem Hw.updPipe_wave (h : Hw) (q : Fin 16) (f : Pipe → Pipe) : (h.updPipe q f).wave = h.wave := rfl
@[simp] theorem Hw.updPipe_note (h : Hw) (q : Fin 16) (f : Pipe → Pipe) : (h.updPipe q f).note = h.note := rfl
@[simp] theorem Hw.updPipe_mywi (h : Hw) (q : Fin 16) (f : Pipe → Pipe) : (h.updPipe q f).mywi = h.mywi := rfl
@[simp] theorem Hw.updPipe_txn (h : Hw) (q : Fin 16) (f : Pipe → Pipe) : (h.updPipe q f).txn = h.txn := rfl
@[simp] theorem Hw.updPipe_sett (h : Hw) (q : Fin 16) (f : Pipe → Pipe) : (h.updPipe q f).sett = h.sett := rfl
@[simp] theorem Hw.updPipe_ref (h : Hw) (q : Fin 16) (f : Pipe → Pipe) : (h.updPipe q f).ref = h.ref := rfl
@[simp] theorem Hw.updPipe_steer (h : Hw) (q : Fin 16) (f : Pipe → Pipe) : (h.updPipe q f).steer = h.steer := rfl
@[simp] theorem Hw.updPipe_sealU (h : Hw) (q : Fin 16) (f : Pipe → Pipe) : (h.updPipe q f).sealU = h.sealU := rfl
@[simp] theorem Hw.updPipe_store (h : Hw) (q : Fin 16) (f : Pipe → Pipe) : (h.updPipe q f).store = h.store := rfl
@[simp] theorem Hw.updPipe_keep (h : Hw) (q : Fin 16) (f : Pipe → Pipe) : (h.updPipe q f).keep = h.keep := rfl
@[simp] theorem Hw.updPipe_keepSeed (h : Hw) (q : Fin 16) (f : Pipe → Pipe) : (h.updPipe q f).keepSeed = h.keepSeed := rfl
@[simp] theorem Hw.updPipe_evt (h : Hw) (q : Fin 16) (f : Pipe → Pipe) : (h.updPipe q f).evt = h.evt := rfl
@[simp] theorem Hw.updPipe_port (h : Hw) (q : Fin 16) (f : Pipe → Pipe) : (h.updPipe q f).port = h.port := rfl
@[simp] theorem Hw.updPipe_pwr (h : Hw) (q : Fin 16) (f : Pipe → Pipe) : (h.updPipe q f).pwr = h.pwr := rfl
@[simp] theorem Hw.updPipe_cal (h : Hw) (q : Fin 16) (f : Pipe → Pipe) : (h.updPipe q f).cal = h.cal := rfl
@[simp] theorem Hw.updPipe_out (h : Hw) (q : Fin 16) (f : Pipe → Pipe) : (h.updPipe q f).out = h.out := rfl
@[simp] theorem Hw.updPipe_lat (h : Hw) (q : Fin 16) (f : Pipe → Pipe) : (h.updPipe q f).lat = h.lat := rfl
@[simp] theorem Hw.updPipe_deck (h : Hw) (q : Fin 16) (f : Pipe → Pipe) : (h.updPipe q f).deck = h.deck := rfl
@[simp] theorem Hw.updPipe_ibex (h : Hw) (q : Fin 16) (f : Pipe → Pipe) : (h.updPipe q f).ibex = h.ibex := rfl
@[simp] theorem Hw.updPipe_dma (h : Hw) (q : Fin 16) (f : Pipe → Pipe) : (h.updPipe q f).dma = h.dma := rfl
@[simp] theorem Hw.updPipe_tally (h : Hw) (q : Fin 16) (f : Pipe → Pipe) : (h.updPipe q f).tally = h.tally := rfl
@[simp] theorem Hw.updPipe_img (h : Hw) (q : Fin 16) (f : Pipe → Pipe) : (h.updPipe q f).img = h.img := rfl
@[simp] theorem Hw.updPipe_free (h : Hw) (q : Fin 16) (f : Pipe → Pipe) : (h.updPipe q f).free = h.free := rfl
@[simp] theorem Hw.updPipe_at (h : Hw) (q : Fin 16) (f : Pipe → Pipe) : (h.updPipe q f).prong.pipes[q] = f h.prong.pipes[q] := by
  simp [Hw.updPipe]
theorem Hw.updPipe_ne (h : Hw) (q m_ : Fin 16) (f : Pipe → Pipe) (hm : m_ ≠ q) :
    (h.updPipe q f).prong.pipes[m_] = h.prong.pipes[m_] := by
  have : q.val ≠ m_.val := fun e => hm (Fin.ext e.symm)
  simp [Hw.updPipe, Vector.getElem_set_ne, this]
/-! `updKey` -/
@[simp] theorem Hw.updKey_time (h : Hw) (n : Fin 8) (f : KeySlot → KeySlot) : (h.updKey n f).time = h.time := rfl
@[simp] theorem Hw.updKey_sys (h : Hw) (n : Fin 8) (f : KeySlot → KeySlot) : (h.updKey n f).sys = h.sys := rfl
@[simp] theorem Hw.updKey_wave (h : Hw) (n : Fin 8) (f : KeySlot → KeySlot) : (h.updKey n f).wave = h.wave := rfl
@[simp] theorem Hw.updKey_note (h : Hw) (n : Fin 8) (f : KeySlot → KeySlot) : (h.updKey n f).note = h.note := rfl
@[simp] theorem Hw.updKey_mywi (h : Hw) (n : Fin 8) (f : KeySlot → KeySlot) : (h.updKey n f).mywi = h.mywi := rfl
@[simp] theorem Hw.updKey_txn (h : Hw) (n : Fin 8) (f : KeySlot → KeySlot) : (h.updKey n f).txn = h.txn := rfl
@[simp] theorem Hw.updKey_sett (h : Hw) (n : Fin 8) (f : KeySlot → KeySlot) : (h.updKey n f).sett = h.sett := rfl
@[simp] theorem Hw.updKey_ref (h : Hw) (n : Fin 8) (f : KeySlot → KeySlot) : (h.updKey n f).ref = h.ref := rfl
@[simp] theorem Hw.updKey_steer (h : Hw) (n : Fin 8) (f : KeySlot → KeySlot) : (h.updKey n f).steer = h.steer := rfl
@[simp] theorem Hw.updKey_store (h : Hw) (n : Fin 8) (f : KeySlot → KeySlot) : (h.updKey n f).store = h.store := rfl
@[simp] theorem Hw.updKey_keep (h : Hw) (n : Fin 8) (f : KeySlot → KeySlot) : (h.updKey n f).keep = h.keep := rfl
@[simp] theorem Hw.updKey_keepSeed (h : Hw) (n : Fin 8) (f : KeySlot → KeySlot) : (h.updKey n f).keepSeed = h.keepSeed := rfl
@[simp] theorem Hw.updKey_evt (h : Hw) (n : Fin 8) (f : KeySlot → KeySlot) : (h.updKey n f).evt = h.evt := rfl
@[simp] theorem Hw.updKey_port (h : Hw) (n : Fin 8) (f : KeySlot → KeySlot) : (h.updKey n f).port = h.port := rfl
@[simp] theorem Hw.updKey_prong (h : Hw) (n : Fin 8) (f : KeySlot → KeySlot) : (h.updKey n f).prong = h.prong := rfl
@[simp] theorem Hw.updKey_pwr (h : Hw) (n : Fin 8) (f : KeySlot → KeySlot) : (h.updKey n f).pwr = h.pwr := rfl
@[simp] theorem Hw.updKey_cal (h : Hw) (n : Fin 8) (f : KeySlot → KeySlot) : (h.updKey n f).cal = h.cal := rfl
@[simp] theorem Hw.updKey_out (h : Hw) (n : Fin 8) (f : KeySlot → KeySlot) : (h.updKey n f).out = h.out := rfl
@[simp] theorem Hw.updKey_lat (h : Hw) (n : Fin 8) (f : KeySlot → KeySlot) : (h.updKey n f).lat = h.lat := rfl
@[simp] theorem Hw.updKey_deck (h : Hw) (n : Fin 8) (f : KeySlot → KeySlot) : (h.updKey n f).deck = h.deck := rfl
@[simp] theorem Hw.updKey_ibex (h : Hw) (n : Fin 8) (f : KeySlot → KeySlot) : (h.updKey n f).ibex = h.ibex := rfl
@[simp] theorem Hw.updKey_dma (h : Hw) (n : Fin 8) (f : KeySlot → KeySlot) : (h.updKey n f).dma = h.dma := rfl
@[simp] theorem Hw.updKey_tally (h : Hw) (n : Fin 8) (f : KeySlot → KeySlot) : (h.updKey n f).tally = h.tally := rfl
@[simp] theorem Hw.updKey_img (h : Hw) (n : Fin 8) (f : KeySlot → KeySlot) : (h.updKey n f).img = h.img := rfl
@[simp] theorem Hw.updKey_free (h : Hw) (n : Fin 8) (f : KeySlot → KeySlot) : (h.updKey n f).free = h.free := rfl
@[simp] theorem Hw.updKey_at (h : Hw) (n : Fin 8) (f : KeySlot → KeySlot) : (h.updKey n f).sealU.keys[n] = f h.sealU.keys[n] := by
  simp [Hw.updKey]
theorem Hw.updKey_ne (h : Hw) (n m_ : Fin 8) (f : KeySlot → KeySlot) (hm : m_ ≠ n) :
    (h.updKey n f).sealU.keys[m_] = h.sealU.keys[m_] := by
  have : n.val ≠ m_.val := fun e => hm (Fin.ext e.symm)
  simp [Hw.updKey, Vector.getElem_set_ne, this]
/-! `updQ` -/
@[simp] theorem Hw.updQ_time (h : Hw) (q : Fin 8) (f : SealQ → SealQ) : (h.updQ q f).time = h.time := rfl
@[simp] theorem Hw.updQ_sys (h : Hw) (q : Fin 8) (f : SealQ → SealQ) : (h.updQ q f).sys = h.sys := rfl
@[simp] theorem Hw.updQ_wave (h : Hw) (q : Fin 8) (f : SealQ → SealQ) : (h.updQ q f).wave = h.wave := rfl
@[simp] theorem Hw.updQ_note (h : Hw) (q : Fin 8) (f : SealQ → SealQ) : (h.updQ q f).note = h.note := rfl
@[simp] theorem Hw.updQ_mywi (h : Hw) (q : Fin 8) (f : SealQ → SealQ) : (h.updQ q f).mywi = h.mywi := rfl
@[simp] theorem Hw.updQ_txn (h : Hw) (q : Fin 8) (f : SealQ → SealQ) : (h.updQ q f).txn = h.txn := rfl
@[simp] theorem Hw.updQ_sett (h : Hw) (q : Fin 8) (f : SealQ → SealQ) : (h.updQ q f).sett = h.sett := rfl
@[simp] theorem Hw.updQ_ref (h : Hw) (q : Fin 8) (f : SealQ → SealQ) : (h.updQ q f).ref = h.ref := rfl
@[simp] theorem Hw.updQ_steer (h : Hw) (q : Fin 8) (f : SealQ → SealQ) : (h.updQ q f).steer = h.steer := rfl
@[simp] theorem Hw.updQ_store (h : Hw) (q : Fin 8) (f : SealQ → SealQ) : (h.updQ q f).store = h.store := rfl
@[simp] theorem Hw.updQ_keep (h : Hw) (q : Fin 8) (f : SealQ → SealQ) : (h.updQ q f).keep = h.keep := rfl
@[simp] theorem Hw.updQ_keepSeed (h : Hw) (q : Fin 8) (f : SealQ → SealQ) : (h.updQ q f).keepSeed = h.keepSeed := rfl
@[simp] theorem Hw.updQ_evt (h : Hw) (q : Fin 8) (f : SealQ → SealQ) : (h.updQ q f).evt = h.evt := rfl
@[simp] theorem Hw.updQ_port (h : Hw) (q : Fin 8) (f : SealQ → SealQ) : (h.updQ q f).port = h.port := rfl
@[simp] theorem Hw.updQ_prong (h : Hw) (q : Fin 8) (f : SealQ → SealQ) : (h.updQ q f).prong = h.prong := rfl
@[simp] theorem Hw.updQ_pwr (h : Hw) (q : Fin 8) (f : SealQ → SealQ) : (h.updQ q f).pwr = h.pwr := rfl
@[simp] theorem Hw.updQ_cal (h : Hw) (q : Fin 8) (f : SealQ → SealQ) : (h.updQ q f).cal = h.cal := rfl
@[simp] theorem Hw.updQ_out (h : Hw) (q : Fin 8) (f : SealQ → SealQ) : (h.updQ q f).out = h.out := rfl
@[simp] theorem Hw.updQ_lat (h : Hw) (q : Fin 8) (f : SealQ → SealQ) : (h.updQ q f).lat = h.lat := rfl
@[simp] theorem Hw.updQ_deck (h : Hw) (q : Fin 8) (f : SealQ → SealQ) : (h.updQ q f).deck = h.deck := rfl
@[simp] theorem Hw.updQ_ibex (h : Hw) (q : Fin 8) (f : SealQ → SealQ) : (h.updQ q f).ibex = h.ibex := rfl
@[simp] theorem Hw.updQ_dma (h : Hw) (q : Fin 8) (f : SealQ → SealQ) : (h.updQ q f).dma = h.dma := rfl
@[simp] theorem Hw.updQ_tally (h : Hw) (q : Fin 8) (f : SealQ → SealQ) : (h.updQ q f).tally = h.tally := rfl
@[simp] theorem Hw.updQ_img (h : Hw) (q : Fin 8) (f : SealQ → SealQ) : (h.updQ q f).img = h.img := rfl
@[simp] theorem Hw.updQ_free (h : Hw) (q : Fin 8) (f : SealQ → SealQ) : (h.updQ q f).free = h.free := rfl
@[simp] theorem Hw.updQ_at (h : Hw) (q : Fin 8) (f : SealQ → SealQ) : (h.updQ q f).sealU.queues[q] = f h.sealU.queues[q] := by
  simp [Hw.updQ]
theorem Hw.updQ_ne (h : Hw) (q m_ : Fin 8) (f : SealQ → SealQ) (hm : m_ ≠ q) :
    (h.updQ q f).sealU.queues[m_] = h.sealU.queues[m_] := by
  have : q.val ≠ m_.val := fun e => hm (Fin.ext e.symm)
  simp [Hw.updQ, Vector.getElem_set_ne, this]
/-! `updUnit` -/
@[simp] theorem Hw.updUnit_time (h : Hw) (u : Fin 18) (f : TallyUnit → TallyUnit) : (h.updUnit u f).time = h.time := rfl
@[simp] theorem Hw.updUnit_sys (h : Hw) (u : Fin 18) (f : TallyUnit → TallyUnit) : (h.updUnit u f).sys = h.sys := rfl
@[simp] theorem Hw.updUnit_wave (h : Hw) (u : Fin 18) (f : TallyUnit → TallyUnit) : (h.updUnit u f).wave = h.wave := rfl
@[simp] theorem Hw.updUnit_note (h : Hw) (u : Fin 18) (f : TallyUnit → TallyUnit) : (h.updUnit u f).note = h.note := rfl
@[simp] theorem Hw.updUnit_mywi (h : Hw) (u : Fin 18) (f : TallyUnit → TallyUnit) : (h.updUnit u f).mywi = h.mywi := rfl
@[simp] theorem Hw.updUnit_txn (h : Hw) (u : Fin 18) (f : TallyUnit → TallyUnit) : (h.updUnit u f).txn = h.txn := rfl
@[simp] theorem Hw.updUnit_sett (h : Hw) (u : Fin 18) (f : TallyUnit → TallyUnit) : (h.updUnit u f).sett = h.sett := rfl
@[simp] theorem Hw.updUnit_ref (h : Hw) (u : Fin 18) (f : TallyUnit → TallyUnit) : (h.updUnit u f).ref = h.ref := rfl
@[simp] theorem Hw.updUnit_steer (h : Hw) (u : Fin 18) (f : TallyUnit → TallyUnit) : (h.updUnit u f).steer = h.steer := rfl
@[simp] theorem Hw.updUnit_sealU (h : Hw) (u : Fin 18) (f : TallyUnit → TallyUnit) : (h.updUnit u f).sealU = h.sealU := rfl
@[simp] theorem Hw.updUnit_store (h : Hw) (u : Fin 18) (f : TallyUnit → TallyUnit) : (h.updUnit u f).store = h.store := rfl
@[simp] theorem Hw.updUnit_keep (h : Hw) (u : Fin 18) (f : TallyUnit → TallyUnit) : (h.updUnit u f).keep = h.keep := rfl
@[simp] theorem Hw.updUnit_keepSeed (h : Hw) (u : Fin 18) (f : TallyUnit → TallyUnit) : (h.updUnit u f).keepSeed = h.keepSeed := rfl
@[simp] theorem Hw.updUnit_evt (h : Hw) (u : Fin 18) (f : TallyUnit → TallyUnit) : (h.updUnit u f).evt = h.evt := rfl
@[simp] theorem Hw.updUnit_port (h : Hw) (u : Fin 18) (f : TallyUnit → TallyUnit) : (h.updUnit u f).port = h.port := rfl
@[simp] theorem Hw.updUnit_prong (h : Hw) (u : Fin 18) (f : TallyUnit → TallyUnit) : (h.updUnit u f).prong = h.prong := rfl
@[simp] theorem Hw.updUnit_pwr (h : Hw) (u : Fin 18) (f : TallyUnit → TallyUnit) : (h.updUnit u f).pwr = h.pwr := rfl
@[simp] theorem Hw.updUnit_cal (h : Hw) (u : Fin 18) (f : TallyUnit → TallyUnit) : (h.updUnit u f).cal = h.cal := rfl
@[simp] theorem Hw.updUnit_out (h : Hw) (u : Fin 18) (f : TallyUnit → TallyUnit) : (h.updUnit u f).out = h.out := rfl
@[simp] theorem Hw.updUnit_lat (h : Hw) (u : Fin 18) (f : TallyUnit → TallyUnit) : (h.updUnit u f).lat = h.lat := rfl
@[simp] theorem Hw.updUnit_deck (h : Hw) (u : Fin 18) (f : TallyUnit → TallyUnit) : (h.updUnit u f).deck = h.deck := rfl
@[simp] theorem Hw.updUnit_ibex (h : Hw) (u : Fin 18) (f : TallyUnit → TallyUnit) : (h.updUnit u f).ibex = h.ibex := rfl
@[simp] theorem Hw.updUnit_dma (h : Hw) (u : Fin 18) (f : TallyUnit → TallyUnit) : (h.updUnit u f).dma = h.dma := rfl
@[simp] theorem Hw.updUnit_img (h : Hw) (u : Fin 18) (f : TallyUnit → TallyUnit) : (h.updUnit u f).img = h.img := rfl
@[simp] theorem Hw.updUnit_free (h : Hw) (u : Fin 18) (f : TallyUnit → TallyUnit) : (h.updUnit u f).free = h.free := rfl
@[simp] theorem Hw.updUnit_at (h : Hw) (u : Fin 18) (f : TallyUnit → TallyUnit) : (h.updUnit u f).tally.u[u] = f h.tally.u[u] := by
  simp [Hw.updUnit]
theorem Hw.updUnit_ne (h : Hw) (u m_ : Fin 18) (f : TallyUnit → TallyUnit) (hm : m_ ≠ u) :
    (h.updUnit u f).tally.u[m_] = h.tally.u[m_] := by
  have : u.val ≠ m_.val := fun e => hm (Fin.ext e.symm)
  simp [Hw.updUnit, Vector.getElem_set_ne, this]
/-! `setDom` -/
@[simp] theorem Hw.setDom_time (h : Hw) (d : Domain) (x : DomSt) : (h.setDom d x).time = h.time := rfl
@[simp] theorem Hw.setDom_sys (h : Hw) (d : Domain) (x : DomSt) : (h.setDom d x).sys = h.sys := rfl
@[simp] theorem Hw.setDom_wave (h : Hw) (d : Domain) (x : DomSt) : (h.setDom d x).wave = h.wave := rfl
@[simp] theorem Hw.setDom_note (h : Hw) (d : Domain) (x : DomSt) : (h.setDom d x).note = h.note := rfl
@[simp] theorem Hw.setDom_mywi (h : Hw) (d : Domain) (x : DomSt) : (h.setDom d x).mywi = h.mywi := rfl
@[simp] theorem Hw.setDom_txn (h : Hw) (d : Domain) (x : DomSt) : (h.setDom d x).txn = h.txn := rfl
@[simp] theorem Hw.setDom_sett (h : Hw) (d : Domain) (x : DomSt) : (h.setDom d x).sett = h.sett := rfl
@[simp] theorem Hw.setDom_ref (h : Hw) (d : Domain) (x : DomSt) : (h.setDom d x).ref = h.ref := rfl
@[simp] theorem Hw.setDom_steer (h : Hw) (d : Domain) (x : DomSt) : (h.setDom d x).steer = h.steer := rfl
@[simp] theorem Hw.setDom_sealU (h : Hw) (d : Domain) (x : DomSt) : (h.setDom d x).sealU = h.sealU := rfl
@[simp] theorem Hw.setDom_store (h : Hw) (d : Domain) (x : DomSt) : (h.setDom d x).store = h.store := rfl
@[simp] theorem Hw.setDom_keep (h : Hw) (d : Domain) (x : DomSt) : (h.setDom d x).keep = h.keep := rfl
@[simp] theorem Hw.setDom_keepSeed (h : Hw) (d : Domain) (x : DomSt) : (h.setDom d x).keepSeed = h.keepSeed := rfl
@[simp] theorem Hw.setDom_evt (h : Hw) (d : Domain) (x : DomSt) : (h.setDom d x).evt = h.evt := rfl
@[simp] theorem Hw.setDom_port (h : Hw) (d : Domain) (x : DomSt) : (h.setDom d x).port = h.port := rfl
@[simp] theorem Hw.setDom_prong (h : Hw) (d : Domain) (x : DomSt) : (h.setDom d x).prong = h.prong := rfl
@[simp] theorem Hw.setDom_cal (h : Hw) (d : Domain) (x : DomSt) : (h.setDom d x).cal = h.cal := rfl
@[simp] theorem Hw.setDom_out (h : Hw) (d : Domain) (x : DomSt) : (h.setDom d x).out = h.out := rfl
@[simp] theorem Hw.setDom_lat (h : Hw) (d : Domain) (x : DomSt) : (h.setDom d x).lat = h.lat := rfl
@[simp] theorem Hw.setDom_deck (h : Hw) (d : Domain) (x : DomSt) : (h.setDom d x).deck = h.deck := rfl
@[simp] theorem Hw.setDom_ibex (h : Hw) (d : Domain) (x : DomSt) : (h.setDom d x).ibex = h.ibex := rfl
@[simp] theorem Hw.setDom_dma (h : Hw) (d : Domain) (x : DomSt) : (h.setDom d x).dma = h.dma := rfl
@[simp] theorem Hw.setDom_tally (h : Hw) (d : Domain) (x : DomSt) : (h.setDom d x).tally = h.tally := rfl
@[simp] theorem Hw.setDom_img (h : Hw) (d : Domain) (x : DomSt) : (h.setDom d x).img = h.img := rfl
@[simp] theorem Hw.setDom_free (h : Hw) (d : Domain) (x : DomSt) : (h.setDom d x).free = h.free := rfl
@[simp] theorem Hw.setDom_at (h : Hw) (d : Domain) (x : DomSt) : (h.setDom d x).pwr.dom[d.idx] = x := by
  simp [Hw.setDom]

end Sys2Proof.Machine
end

