-- ==== Sys2Proof/Laws/Store.lean ====
section
/-!
SUPPORT. The canonical form of Store through the operations that write it: records of the journal, the error work of R62, and
writes with ECC.
-/
set_option autoImplicit false

namespace Sys2Proof.Machine

/-- Only Store decides the canonical form. -/
theorem wf_of_store {h k : Hw} (e : k.store = h.store) (hw : Memory.wf h = true) : Memory.wf k = true := by
  rw [Memory.wf, e]; exact hw

theorem Hw.writeRecord_wf (h : Hw) (seq : Nat) (head body sig : List Byte) (hw : Memory.wf h = true) :
    Memory.wf (h.writeRecord seq head body sig) = true := by
  have := h.poke_wf (journalBase + 256 * (seq % journalSlots)) (recordBody head h.sealU.head body ++ padTo 64 sig ++
    beBytes 32 (Config.sha256 (recordBody head h.sealU.head body)).toNat) hw
  refine wf_of_store ?_ this
  simp [Hw.writeRecord]

theorem Hw.appendNow_wf (h : Hw) (type : Nat) (body : List Byte) (hw : Memory.wf h = true) :
    Memory.wf (h.appendNow type body) = true := by
  unfold Hw.appendNow
  dsimp only
  split
  · exact wf_of_store (by simp) (h.writeRecord_wf h.sealU.next (recordHead h.sealU.next type h.sample h.frac) body [] hw)
  · exact wf_of_store (by simp) hw

theorem Hw.appendLost_wf (h : Hw) (hw : Memory.wf h = true) : Memory.wf h.appendLost = true := by
  unfold Hw.appendLost
  split
  · exact hw
  · exact wf_of_store (by rfl) (h.appendNow_wf 0x1C (beBytes 4 h.sealU.lostPend ++ beBytes 1 h.sealU.lostType) hw)

theorem Hw.journal_wf (h : Hw) (type : Nat) (body : List Byte) (hw : Memory.wf h = true) :
    Memory.wf (h.journal type body) = true := by
  unfold Hw.journal
  split
  · exact wf_of_store (by simp) hw
  · exact Hw.appendNow_wf _ _ _ (Hw.appendLost_wf _ hw)

theorem Hw.storeUce_wf (h : Hw) (w : Nat) (hw : Memory.wf h = true) : Memory.wf (h.storeUce w) = true := by
  unfold Hw.storeUce
  dsimp only
  split
  · unfold Hw.journalDamage
    dsimp only
    split
    · exact wf_of_store (by simp) hw
    · refine Hw.journal_wf _ _ _ (wf_of_store ?_ hw)
      simp
  · exact wf_of_store (by simp) hw

theorem Hw.readWordEcc_wf (h : Hw) (w : Nat) (hw : Memory.wf h = true) : Memory.wf (h.readWordEcc w) = true := by
  unfold Hw.readWordEcc
  split
  · exact h.storeUce_wf w hw
  · split
    · exact wf_of_store (by simp) hw
    · exact hw

theorem foldl_wf {α : Type} (g : Hw → α → Hw) (l : List α) (h : Hw)
    (H : ∀ k a, Memory.wf k = true → Memory.wf (g k a) = true) (hw : Memory.wf h = true) : Memory.wf (l.foldl g h) = true := by
  induction l generalizing h with
  | nil => exact hw
  | cons x r ih => exact ih _ (H h x hw)

theorem Hw.writeWordEcc_wf (h : Hw) (w : Nat) (l : List (Nat × Byte)) (hw : Memory.wf h = true) :
    Memory.wf (h.writeWordEcc w l) = true := by
  unfold Hw.writeWordEcc
  dsimp only
  split
  · exact foldl_wf _ _ _ (fun k a hk => k.poke_wf _ _ hk) (wf_of_store (by rfl) hw)
  · split
    · exact h.storeUce_wf w hw
    · exact foldl_wf _ _ _ (fun k a hk => k.poke_wf _ _ hk) (h.readWordEcc_wf w hw)

/-- A write of bytes with ECC keeps the canonical form. -/
theorem Hw.writeStore_wf (h : Hw) (a : Nat) (l : List Byte) (hw : Memory.wf h = true) :
    Memory.wf (h.writeStore a l) = true := by
  unfold Hw.writeStore
  dsimp only
  refine wf_of_store (h := (wordsOf a l.length).foldl (fun (h : Hw) w => h.writeWordEcc w
    ((List.range l.length).zip l |>.map (fun p => (a + p.1, p.2)))) h) (by simp) ?_
  exact foldl_wf _ _ _ (fun k w hk => k.writeWordEcc_wf w _ hk) hw

/-- A read of bytes with ECC keeps it. -/
theorem Hw.readStore_wf (h : Hw) (a n : Nat) (hw : Memory.wf h = true) : Memory.wf (h.readStore a n).2.2 = true := by
  unfold Hw.readStore
  exact wf_of_store (h := (wordsOf a n).foldl (fun (h : Hw) w => h.readWordEcc w) h) (by simp)
    (foldl_wf _ _ _ (fun k w hk => k.readWordEcc_wf w hk) hw)

end Sys2Proof.Machine
end

