-- ==== Sys2Proof/Tests/Slice0.lean ====
section
/-! SUPPORT. Tests: an ill-formed command for each check, check values and worked cases of the spec, and for each
obligation with hypotheses states and operands that meet them together (wit_<obligation>_<clause>). -/

set_option autoImplicit false
set_option maxRecDepth 8000
set_option linter.all false

namespace Sys2Proof.Tests
open Sys2Proof Sys2Proof.Machine

/-- The engine awake after boot, every domain up, three sessions open. -/
def up : Hw :=
  { time := { clockOn := true, up := 2000 * auPerSec, axis := 1000 * auPerSec, trust := .locked, unc := 1000 }
    sys := { stage := 10, done := true, released := true, runMode := 1, oscEn := true, pg := 0xFF }
    steer := { oscOk := true }
    prong := { serving := true }
    mywi := { openM := true, hspiRdy := true,
              sess := Vector.ofFn (fun i => if i.val < 3 then { openS := true } else {}) }
    pwr := { dom := Vector.replicate 10 .up } }
def st (h : Hw) : State := { hw := h }
/-- The same with session 0 a custodian. -/
def cust : Hw := up.updSes 0 (fun x => { x with role := 3 })

/-! ## Ill-formed commands: one for each check of `Instr.wf` -/

theorem test_wf_registerWrite : (Instr.registerWrite 0x4000000 0).wf = false := by decide
theorem test_wf_wideValueHighWrite : (Instr.wideValueHighWrite 0x4000000 0).wf = false := by decide
theorem test_wf_wideValueLowRead : (Instr.wideValueLowRead 0x4000000).wf = false := by decide
theorem test_wf_rcFieldRead : (Instr.rcFieldRead 0x4000000).wf = false := by decide
theorem test_wf_bar2Write : (Instr.bar2Write 0x1FFFFFFFF [0, 0] []).wf = false := by decide
theorem test_wf_bar2Read : (Instr.bar2Read 0x1FFFFFFFF 2 []).wf = false := by decide
theorem test_wf_hspiWrite_empty : (Instr.hspiWrite []).wf = false := by decide
theorem test_wf_hspiRead_empty : (Instr.hspiRead 0).wf = false := by decide
theorem test_wf_hspiRead_long : (Instr.hspiRead 1025).wf = false := by decide
theorem test_wf_esmcPdu : (Instr.esmcPdu 1 16 none).wf = false := by decide
theorem test_wf_show : (Instr.mywiShow 0 ["axis", "trust", "now"]).wf = false := by decide
theorem test_wf_set : (Instr.mywiSet 0 ["axis.sign_limit"]).wf = false := by decide
theorem test_wf_list : (Instr.mywiList 0 ["axis", "utc"]).wf = false := by decide
theorem test_wf_which : (Instr.mywiWhich 0 []).wf = false := by decide
theorem test_wf_commit : (Instr.txnCommit 0 ["at"]).wf = false := by decide
/-- The last byte of each BAR is inside it. -/
theorem test_wf_last : (Instr.registerWrite 0x3FFFFFC 0).wf = true ∧ (Instr.bar2Read 0x1FFFFFFFF 1 []).wf = true := by decide

/-! ## The rows of the table give no bits -/

theorem test_table_words : decodeTableWord 0 0 = none ∧ decodeTableWord 32 0 = none := by decide

/-! ## Check values and worked cases of the spec -/

/-- The bytes of `123456789`. -/
def nine : List Byte := [0x31, 0x32, 0x33, 0x34, 0x35, 0x36, 0x37, 0x38, 0x39]

/-- R141: the check string has CRC 0x29B1. -/
theorem test_crc16 : crc16 nine = 0x29B1 := by decide +kernel
/-- R352: the check value for `123456789`. -/
theorem test_crc32c : crc32c nine = 0xE3069283 := by decide +kernel

/-- Table 23.2, each row. -/
theorem test_pathId_signLimit : pathIdOf ⟨.axisSignLimit, 0, 0⟩ = 0x01080500 := by decide
theorem test_pathId_pulseOffset : pathIdOf ⟨.outPulseOffset, 1, 0⟩ = 0x0A030B01 := by decide
theorem test_pathId_ptpRole : pathIdOf ⟨.lpPtpRole, 1, 2⟩ = 0x0C060B06 := by decide
theorem test_pathId_counters : pathIdOf ⟨.mywiCounters, 0, 0⟩ = 0x17060100 := by decide

/-- Table 1.9: AXIS_UNC and the token's uncertainty, rows 1 to 4 and the last. -/
theorem test_tokenUnc : tokenUnc 23412 = 25 ∧ tokenUnc 1893112 = 1895 ∧ tokenUnc 5187400 = 5189 ∧ tokenUnc 3226000 = 3227 ∧
    tokenUnc 26000 = 27 := by decide

/-- Table 18.9: the words of the strobe program. -/
theorem test_herd_load : herdDecode 0x703001 = some (.load 3 1) := by decide
theorem test_herd_fetch : herdDecode 0x402000 = some (.fetch false true) := by decide
theorem test_herd_copy_x : herdDecode 0x600005 = some (.copy 0 0 5) := by decide
theorem test_herd_copy_y : herdDecode 0x601005 = some (.copy 1 0 5) := by decide
theorem test_herd_await : herdDecode 0x100000 = some (.await 0 false 0) := by decide
theorem test_herd_mark : herdDecode 0x80C000 = some (.mark true 0) := by decide
theorem test_herd_post : herdDecode 0x508000 = some (.post false false) := by decide
theorem test_herd_copy_add_x : herdDecode 0x60A202 = some (.copy 2 1 2) := by decide
theorem test_herd_copy_add_y : herdDecode 0x602203 = some (.copy 2 1 3) := by decide
/-- R380: opcode 9 names no instruction. -/
theorem test_herd_illegal : herdDecode 0x900000 = none := by decide

/-- The decoded fields of the configuration words of Table 18.9. -/
theorem test_herd_config : chCfgOk 0x18501E08 0x00780000 0x0000005E = true := by decide

/-! ## Values of settings and of lines -/

/-- Table 7.2 and R138: times and their resolution. -/
theorem test_parse_time : parseValue (PathId.axisSignLimit).row.vt "50us" = .ok (.nat 50000000) := by decide

/-- R451: a counter that saturates stays at its last value. -/
theorem test_incSat : incSat 0xFFFFFFFF = 0xFFFFFFFF ∧ incSat 7 = 8 := by decide

/-! ## Reset, and a few single steps -/

/-- An idle block stays as it is after reset. -/
theorem test_idle : step State.reset = .next State.reset := by
  show Host.Outcome.next _ = _
  exact congrArg _ (by decide)

/-- R62: a byte written is read back, and its neighbour stays. -/
theorem test_store : ((up.poke 0x100 [0xA5]).peek 0x100 = 0xA5) ∧ ((up.poke 0x100 [0xA5]).peek 0x101 = 0) := by decide

/-- R19: a trust tick of a locked engine moves Axis time by 819.2 ns. -/
theorem test_tick : auPerTick * 10 = 8192 * auPerNs := by decide

/-- Chapter 18's worked case: T32 of second 1,805,104,020 and of the turn 86 ns later, the value MARK takes (Table 18.10). -/
theorem test_t32 : t32 (1805104020 * auPerSec) = 0xD6BAC800 ∧ t32 (1805104020 * auPerSec + 86 * auPerNs) = 0xD6BAC856 := by
  decide

/-- Table 12.9: the correctionField of a Sync launched 0.350 ns after a whole nanosecond, and of the Delay_Resp's 0.430 ns. -/
theorem test_correction : fracOf (psAu 400350) = 0x5999 ∧ fracOf (psAu 780430) = 28180 := by decide

/-- Table 3.9: the stamp 2,504,950 ps after its anchor. -/
theorem test_stamp : secOf (1798812045 * auPerSec + 412000000 * auPerNs + psAu 2504950) = 1798812045 ∧
    nsOf (1798812045 * auPerSec + 412000000 * auPerNs + psAu 2504950) = 412002504 ∧
    fracOf (1798812045 * auPerSec + 412000000 * auPerNs + psAu 2504950) = 0xF333 := by decide

/-! ## The balls (Tables 4.4 and 5.4) -/

theorem test_balls_named : allBalls.length = signalNames.length := by decide
/-- R72: while its bank is powered and before release, DKn_DE is driven low and DKn_TXD high. -/
theorem test_balls_reset : ({ sys := { pg := 0xFF } } : Hw).ball (.dkDe 1) = .low ∧
    ({ sys := { pg := 0xFF } } : Hw).ball (.dkTxd 1) = .high ∧ ({ sys := { pg := 0xFF } } : Hw).ball (.pulse 3) = .low := by decide
/-- R90: a ball of a bank that is not powered is not driven. -/
theorem test_balls_unpowered : (State.reset.hw).ball (.pulse 0) = .unpowered ∧ (State.reset.hw).ball .oscEn = .high := by decide
/-- R72: with IBEX down an IBX ball has its isolated state. -/
theorem test_balls_isolated : ({ up with
    ibex := { up.ibex with mapped := 1#48, pinOe := 1#48, pinOut := 1#48 },
    pwr := { up.pwr with dom := up.pwr.dom.set 8 .down } } : Hw).ball (.ibx 0) = .hiZDown := by decide

/-! ## Witnesses: Custody -/

namespace Custody

theorem wit_TickInLockedAndHoldoverNeverSteps_0 : ∃ (s : State), (s.hw.time.clockOn = true) ∧ ((s.hw.time.trust = .locked ∨ s.hw.time.trust = .holdover)) :=
  ⟨st up, by decide⟩
theorem wit_AxisNowReadTakesOneSample_0 : ∃ (s : State) (sub : Nat), (s.hw.sys.d3hot = false) ∧ (s.hw.domUp .ref = true) :=
  ⟨st up, 77, by decide⟩
theorem wit_UtcCommandsComplete_0 : ∃ (s : State) (l : Leap), (s.hw.time.leap = some l) ∧ (l.at_ * auPerSec < s.hw.time.axis + auPerTick) :=
  ⟨st { up with time := { up.time with leap := some ⟨true, 1000, .table⟩ } }, ⟨true, 1000, .table⟩, by decide⟩
theorem wit_UtcCommandsComplete_1 : ∃ (s : State) (l : Leap), (s.hw.time.leap = some l) ∧ (s.hw.effB .utcSmear = true) ∧ (s.hw.time.smear = none) ∧ (s.hw.time.noSmear = false) ∧ (l.at_ * auPerSec - psAu (s.hw.effN .utcSmearWindow) < s.hw.time.axis + auPerTick) :=
  ⟨st { up with time := { up.time with leap := some ⟨false, 1000, .table⟩ }, sett := { mywi := [(⟨.utcSmear, 0, 0⟩, .nat 1)] } }, ⟨false, 1000, .table⟩, by decide⟩
theorem wit_WavefrontCommandsComplete_0 : ∃ (s : State) (n : Fin 48) (diff : Int), (2 ≤ n.val) ∧ (s.hw.time.clockOn = true) ∧ (s.hw.domUp (islandDomain n) = true) ∧ (((s.hw.wave.isl[n]).anchored = false ∨ diff.natAbs ≤ 800)) :=
  ⟨st up, 3, 800, by decide⟩
theorem wit_WavefrontCommandsComplete_1 : ∃ (s : State) (n : Fin 48) (diff : Int), (2 ≤ n.val) ∧ (s.hw.time.clockOn = true) ∧ (s.hw.domUp (islandDomain n) = true) ∧ ((s.hw.wave.isl[n]).anchored = true) ∧ (800 < diff.natAbs) :=
  ⟨st { up with wave := { isl := Vector.replicate 48 { anchored := true, badRun := 2 } } }, 47, -801, by decide⟩
theorem wit_WavefrontCommandsComplete_2 : ∃ (s : State) (n : Fin 48) (meas : Int), (2 ≤ n.val) ∧ (s.hw.time.clockOn = true) ∧ (s.hw.domUp (islandDomain n) = true) ∧ ((s.hw.wave.isl[n]).measured = true) ∧ (0 ≤ meas) ∧ (meas ≤ 20000) :=
  ⟨st { up with wave := { isl := Vector.replicate 48 { anchored := true, measured := true, d := 100 } } }, 47, 20000, by decide⟩
theorem wit_WavefrontCommandsComplete_3 : ∃ (s : State) (n : Fin 48) (meas : Int), (2 ≤ n.val) ∧ (s.hw.time.clockOn = true) ∧ (s.hw.domUp (islandDomain n) = true) ∧ ((meas < 0 ∨ 20000 < meas)) :=
  ⟨st up, 2, -1, by decide⟩
theorem wit_StoreAccessesComplete_0 : ∃ (s : State) (a : Nat) (n : Nat) (errs : List (Nat × Bool)), (a + n ≤ storeBytes) ∧ (s.hw.sys.d3hot = false) ∧ (s.hw.domUp .store = true) :=
  ⟨st up, 8589934590, 2, [], by decide⟩
theorem wit_StoreAccessesComplete_1 : ∃ (s : State) (a : Nat) (data : List Byte) (errs : List (Nat × Bool)), (MemOk s.hw) ∧ (a + data.length ≤ storeBytes) ∧ (s.hw.sys.d3hot = false) ∧ (s.hw.domUp .store = true) ∧ ((a + data.length ≤ journalBase ∨ journalEnd ≤ a)) ∧ ((s.hw.takeErrors errs).poisonedAt a data.length = false) :=
  ⟨st up, 0x7FFFFFFE, [1, 2], [(0, true)], by decide⟩
theorem wit_StoreAccessesComplete_2 : ∃ (s : State) (a : Nat) (data : List Byte) (errs : List (Nat × Bool)), (a + data.length ≤ storeBytes) ∧ (data ≠ []) ∧ (s.hw.sys.d3hot = false) ∧ (s.hw.domUp .store = true) ∧ (journalBase ≤ a) ∧ (a < journalEnd) :=
  ⟨st up, 0x17FFFFFFF, [1], [], by decide⟩
theorem wit_SteeringCommandsComplete_0 : ∃ (s : State), (s.hw.steer.slewing = true) ∧ (s.hw.steer.delta = 0) :=
  ⟨st { up with steer := { up.steer with slewing := true } }, by decide⟩
theorem wit_SteeringCommandsComplete_1 : ∃ (s : State) (fdiff : Int) (i : Fin 20) (t : Nat), (s.hw.ref.sel = some i) ∧ (s.hw.time.clockOn = true) ∧ ((s.hw.ref.ins[i]).st ≠ .holdoff) ∧ ((s.hw.ref.ins[i]).ofsAt = some t) ∧ ((s.hw.steer.lastUpd = none ∨ ∃ u, s.hw.steer.lastUpd = some u ∧ u < t)) :=
  ⟨st { up with ref := { sel := some 3, ins := Vector.replicate 20 { st := .candidate, ofs := -5000, ofsAt := some 7 } }, steer := { up.steer with lastUpd := some 6 } }, 12, 3, 7, by decide⟩
theorem wit_SteeringCommandsComplete_2 : ∃ (s : State) (i : Fin 20) (u : Nat), (s.hw.ref.sel = some i) ∧ ((s.hw.ref.ins[i]).st ≠ .holdoff) ∧ (s.hw.steer.lastUpd = some u) ∧ (u + psAu (tau8 (s.hw.clampBw s.hw.trackBw)) ≤ s.hw.time.up) ∧ (s.hw.steer.lock = true) :=
  ⟨st { up with ref := { sel := some 3, ins := Vector.replicate 20 { st := .candidate } }, steer := { up.steer with lastUpd := some 1, lock := true } }, 3, 1, by decide⟩
theorem wit_SteeringCommandsComplete_3 : ∃ (s : State), (s.hw.steer.acquiring = true) ∧ (s.hw.steer.bwAt + psAu (tau8 s.hw.steer.bw) ≤ s.hw.time.up) :=
  ⟨st { up with steer := { up.steer with acquiring := true } }, by decide⟩
theorem wit_SteeringCommandsComplete_4 : ∃ (s : State) (u : Nat), (s.hw.tangentCond = true) ∧ (s.hw.steer.intStart = some u) ∧ (u + psAu 64000000000000 ≤ s.hw.time.up) ∧ (0 < s.hw.steer.sumN) :=
  ⟨st { up with ref := { sel := some 3, ins := Vector.replicate 20 { st := .candidate, tql := 15 } }, steer := { up.steer with intStart := some 0, sumY := 100, sumT := 2500, sumN := 2, lock := true } }, 0, by decide⟩
theorem wit_SteeringCommandsComplete_5 : ∃ (s : State), (s.hw.ref.sel = none) ∧ (s.hw.steer.frozen = true) ∧ (s.hw.steer.oscOk = true) :=
  ⟨st { up with steer := { up.steer with frozen := true } }, by decide⟩
theorem wit_SteeringCommandsComplete_6 : ∃ (s : State) (die : Int) (pmb : Option Int), (s.hw.effN .steerTempSource = 0) :=
  ⟨st up, 3000, some 2, by decide⟩
theorem wit_SteeringCommandsComplete_7 : ∃ (s : State), (s.hw.time.clockOn = true) ∧ (s.hw.steer.oscOk = true) :=
  ⟨st up, by decide⟩
theorem wit_SteeringCommandsComplete_8 : ∃ (s : State), (s.hw.time.clockOn = true) ∧ (s.hw.steer.oscOk = false) :=
  ⟨st { up with steer := { up.steer with oscOk := false, freeRun := true } }, by decide⟩

end Custody

/-! ## Witnesses: Boot -/

namespace Boot

theorem wit_ResetAndSupplyCommandsComplete_0 : ∃ (s : State) (mv : Nat), (s.hw.sys.aonUp = false) :=
  ⟨st { up with sys := { up.sys with aonUp := false } }, 3000, by decide⟩
theorem wit_ResetAndSupplyCommandsComplete_2 : ∃ (s : State), (s.hw.sys.aonUp = true) :=
  ⟨st up, by decide⟩
theorem wit_ResetAndSupplyCommandsComplete_3 : ∃ (s : State) (r : Fin 8), (s.hw.sys.aonUp = true) ∧ (2 ≤ s.hw.sys.stage) ∧ (s.hw.railRequired r = true) :=
  ⟨st up, 0, by decide⟩
theorem wit_ResetAndSupplyCommandsComplete_4 : ∃ (s : State) (mv : Nat), (s.hw.sys.aonUp = true) ∧ (mv < s.hw.effN .supplyAonWarnMv) ∧ (s.hw.sys.aonLowArmed = true) :=
  ⟨st up, 0, by decide⟩
theorem wit_ResetAndSupplyCommandsComplete_5 : ∃ (s : State) (mv : Nat), (s.hw.sys.aonUp = true) ∧ (s.hw.effN .supplyAonWarnMv + 50 ≤ mv) ∧ ((s.hw.note.evt[(1 : Fin 28)]).getLsbD 8 = false) :=
  ⟨st { up with note := {} }, 5000, by decide⟩
theorem wit_ResetAndSupplyCommandsComplete_6 : ∃ (s : State) (t : Nat), (s.hw.domUp .ref = true) ∧ (2 ≤ s.hw.sys.stage) :=
  ⟨st up, 9000, by decide⟩
theorem wit_BootCommandsComplete_0 : ∃ (s : State) (sfdp : Bool) (osc : Bool), (s.hw.sys.aonUp = true) ∧ (s.hw.sys.stage = 0) :=
  ⟨st {}, true, false, by decide⟩
theorem wit_BootCommandsComplete_1 : ∃ (s : State) (found : List (Nat × List Nat)) (stuck : Bool), (s.hw.sys.stage = 7) :=
  ⟨st { sys := { stage := 7 } }, [(64, [800, 850])], false, by decide⟩
theorem wit_BootCommandsComplete_2 : ∃ (s : State), (s.hw.sys.stage = 8) :=
  ⟨st { sys := { stage := 8 } }, by decide⟩
theorem wit_BootCommandsComplete_3 : ∃ (s : State) (us : Nat), (s.hw.sys.stage = 9) :=
  ⟨st { up with sys := { up.sys with stage := 9, done := false } }, 12000, by decide⟩
theorem wit_BootCommandsComplete_4 : ∃ (s : State), (2 ≤ s.hw.sys.stage) ∧ (s.hw.time.clockOn = false) ∧ (s.hw.steer.oscOk = false) ∧ (s.hw.asleep = false) :=
  ⟨st { up with time := {}, steer := { up.steer with oscOk := false } }, by decide⟩
theorem wit_BootCommandsComplete_5 : ∃ (s : State), (2 ≤ s.hw.sys.stage) ∧ (s.hw.time.clockOn = false) ∧ (s.hw.steer.oscOk = false) ∧ (s.hw.asleep = false) :=
  ⟨st { up with time := {}, steer := { up.steer with oscOk := false } }, by decide⟩
theorem wit_RestartCommandsComplete_0 : ∃ (s : State) (r : Restart), (s.hw.sys.restart = some r) ∧ (r.phase = .draining) ∧ (s.hw.sealPending = 0) :=
  ⟨st { up with sys := { up.sys with restart := some { kind := .warm, newMode := 1, t0 := 5 } } }, { kind := .warm, newMode := 1, t0 := 5 }, by decide⟩
theorem wit_RestartCommandsComplete_1 : ∃ (s : State) (r : Restart), (s.hw.sys.restart = some r) ∧ (r.phase = .stopped) :=
  ⟨st { up with sys := { up.sys with restart := some { kind := .warm, newMode := 1, t0 := 5, phase := .stopped } } }, { kind := .warm, newMode := 1, t0 := 5, phase := .stopped }, by decide⟩
theorem wit_RestartCommandsComplete_2 : ∃ (s : State) (r : Restart), (s.hw.sys.restart = some r) ∧ (r.phase = .configured) :=
  ⟨st { up with sys := { up.sys with restart := some { kind := .mode, newMode := 2, t0 := 5, phase := .configured } } }, { kind := .mode, newMode := 2, t0 := 5, phase := .configured }, by decide⟩
theorem wit_RestartCommandsComplete_3 : ∃ (s : State), (s.hw.sys.done = true) ∧ (s.hw.sys.restart = none) ∧ (s.hw.domUp .keep = true) :=
  ⟨st up, by decide⟩
theorem wit_RestartCommandsComplete_4 : ∃ (s : State) (n : Nat) (b : RstBlock), (s.hw.sys.inReset[n]? = some b) ∧ ((∀ g r t, b = .group g → s.hw.prong.reload = some (r, t) → r ≠ g)) :=
  ⟨st { up with sys := { up.sys with inReset := [.ibex, .group 1] } }, 1, .group 1, by refine ⟨rfl, ?_⟩; intro g r t _ h; simp [st, up] at h⟩
theorem wit_PcieCommandsComplete_0 : ∃ (s : State), (s.hw.sys.aonUp = true) :=
  ⟨st up, by decide⟩
theorem wit_PcieCommandsComplete_1 : ∃ (s : State), (s.hw.sys.aonUp = true) :=
  ⟨st up, by decide⟩
theorem wit_PcieCommandsComplete_2 : ∃ (s : State), (s.hw.sys.perst = false) ∧ (s.hw.domUp .keep = true) ∧ (2 ≤ s.hw.sys.stage) ∧ (s.hw.pwr.railsOff &&& 0xC = 0) :=
  ⟨st { up with sys := { up.sys with perst := false } }, by decide⟩
theorem wit_PcieCommandsComplete_4 : ∃ (s : State) (b : Bool) (e : Bool) (m : Bool) (d : Bool), (s.hw.sys.linkUp = true) :=
  ⟨st { up with sys := { up.sys with linkUp := true } }, true, true, false, true, by decide⟩

end Boot

/-! ## Witnesses: Mywi -/

namespace Mywi

theorem wit_MywiReadingVerbsComplete_0 : ∃ (s : State) (ses : Fin 11) (p : String) (x : Key), (Ready s ses 1) ∧ (formCode "show" [p] = 0) ∧ ((s.hw.lined ses).place false p = .leaf x) ∧ (x.p.row.canShow = true) :=
  ⟨st cust, 0, "axis.sign_limit", ⟨.axisSignLimit, 0, 0⟩, by decide⟩
theorem wit_MywiReadingVerbsComplete_1 : ∃ (s : State) (ses : Fin 11) (a : String) (f : Nat) (n : Nat), (Ready s ses 1) ∧ (addr? a.toList = some (f, n)) :=
  ⟨st cust, 0, "10.0.0.1", 0, 0x0A000001, by decide⟩
theorem wit_MywiReadingVerbsComplete_2 : ∃ (s : State) (ses : Fin 11), (Ready s ses 1) :=
  ⟨st cust, 0, by decide⟩
theorem wit_MywiReadingVerbsComplete_3 : ∃ (s : State) (ses : Fin 11) (p : String), (Ready s ses 1) ∧ (formCode "list" [p] = 0) ∧ ((∀ c, (s.hw.lined ses).place false p ≠ .bad c)) :=
  ⟨st cust, 0, "axis", by (have h : ((st cust).hw.lined 0).place false "axis" = .node := by decide); exact ⟨by decide, by decide, by rw [h]; simp⟩⟩
theorem wit_MywiReadingVerbsComplete_4 : ∃ (s : State) (ses : Fin 11) (p : String) (x : Key), (Ready s ses 1) ∧ (formCode "which" [p] = 0) ∧ ((s.hw.lined ses).place false p = .leaf x) :=
  ⟨st cust, 0, "out.pulse1.offset", ⟨.outPulseOffset, 1, 0⟩, by decide⟩
theorem wit_MywiSettingVerbsComplete_0 : ∃ (s : State) (ses : Fin 11) (t : String) (n : Nat), (Ready s ses PathId.axisSignLimit.row.role) ∧ ((s.hw.mywi.sess[ses]).txn = none) ∧ (parseValue PathId.axisSignLimit.row.vt t = .ok (.nat n)) ∧ (((s.hw.lined ses).overlay ⟨.axisSignLimit, 0, 0⟩ (.nat n)).violates ⟨.axisSignLimit, 0, 0⟩ = false) ∧ ((s.hw.lined ses).stateTest ⟨.axisSignLimit, 0, 0⟩ (.nat n) = 0) :=
  ⟨st cust, 0, "5us", 5000000, by decide⟩
theorem wit_MywiSettingVerbsComplete_1 : ∃ (s : State) (ses : Fin 11) (p : String) (t : String) (x : Key) (v : SVal) (l : List (Key × SVal)) (l' : List (Key × SVal)), (Ready s ses (max 1 x.p.row.role)) ∧ ((s.hw.mywi.sess[ses]).txn = some l) ∧ (formCode "set" [p, t] = 0) ∧ ((s.hw.lined ses).place true p = .leaf x) ∧ (x.p.row.canSet = true) ∧ (x.p ≠ .systemMode) ∧ (parseValue x.p.row.vt t = .ok v) ∧ (x.p.row.cls ≠ .r) ∧ ((s.hw.lined ses).inWindow x = false) ∧ (stageIn l x v = .ok l') :=
  ⟨st (cust.updSes 0 (fun x => { x with txn := some [] })), 0, "axis.sign_limit", "5us", ⟨.axisSignLimit, 0, 0⟩, .nat 5000000, [], [(⟨.axisSignLimit, 0, 0⟩, .nat 5000000)], by decide⟩
theorem wit_MywiSettingVerbsComplete_2 : ∃ (s : State) (ses : Fin 11), (Ready s ses PathId.utcLeap.row.role) ∧ ((s.hw.mywi.sess[ses]).txn = none) ∧ ((s.hw.lined ses).stateTest ⟨.utcLeap, 0, 0⟩ .none = 0) :=
  ⟨st cust, 0, by decide⟩
theorem wit_MywiSettingVerbsComplete_3 : ∃ (s : State) (ses : Fin 11) (t : String) (d : Nat) (l : List Nat), (Ready s ses PathId.utcLeap.row.role) ∧ ((s.hw.mywi.sess[ses]).txn = none) ∧ (dateDay t.toList = .ok d) ∧ (leapDrop d (s.hw.effL .utcLeap) = some l) ∧ ((s.hw.lined ses).stateTest ⟨.utcLeap, 0, 0⟩ (.nats [d]) = 0) :=
  ⟨st { cust with sett := { mywi := [(⟨.utcLeap, 0, 0⟩, .nats [30000, 1])] } }, 0, "2052-02-20", 30000, [], by decide⟩
theorem wit_MywiLoginVerbsComplete_0 : ∃ (s : State) (ses : Fin 11) (name : String), (Ready s ses 0) ∧ (name ≠ "end") ∧ (name ≠ "local") ∧ (name ≠ "reply") ∧ (name ≠ "account") ∧ (s.hw.mywi.lockAt[transOf ses] = none) :=
  ⟨st up, 0, "ana", by decide⟩
theorem wit_MywiLoginVerbsComplete_1 : ∃ (s : State) (ses : Fin 11) (mac : String) (n : Nonce), (Ready s ses 0) ∧ (s.hw.mywi.lockAt[transOf ses] = none) ∧ ((s.hw.mywi.sess[ses]).nonce = some n) ∧ (s.hw.time.up ≤ n.at_ + 30 * auPerSec) ∧ (formCode "auth" ["reply", mac] = 0) :=
  ⟨st (up.updSes 0 (fun x => { x with nonce := some ⟨5, 2000 * auPerSec, "ana"⟩ })), 0, "00000000-00000000-00000000-00000000-00000000-00000000-00000000-00000000", ⟨5, 2000 * auPerSec, "ana"⟩, by decide⟩
theorem wit_MywiLoginVerbsComplete_2 : ∃ (s : State) (ses : Fin 11), (Ready s ses 0) ∧ (s.hw.mywi.lockAt[transOf ses] = none) ∧ (ses.val < 3) ∧ (s.hw.anyAccount = false) ∧ (s.hw.freeSlots ≠ 0) ∧ ((∀ i : Fin 11, i ≠ ses → (s.hw.mywi.sess[i]).openS = true → (s.hw.mywi.sess[i]).role ≠ 3)) :=
  ⟨st up, 1, by decide⟩
theorem wit_MywiLoginVerbsComplete_3 : ∃ (s : State) (ses : Fin 11), (Ready s ses 0) ∧ (s.hw.mywi.lockAt[transOf ses] = none) :=
  ⟨st cust, 0, by decide⟩
theorem wit_MywiLoginVerbsComplete_4 : ∃ (s : State) (ses : Fin 11) (n : String) (name : String) (role : String) (i : Nat), (Ready s ses 3) ∧ (argNat 0 15 n = .ok i) ∧ (nameOk name.toList = true) ∧ ((["observer", "operator", "custodian"] : List String).contains role = true) ∧ ((s.hw.mywi.sess[ses]).txn = none) ∧ (s.hw.mywi.lockAt[transOf ses] = none) :=
  ⟨st cust, 0, "0", "ana", "operator", 0, by decide⟩
theorem wit_MywiLoginVerbsComplete_5 : ∃ (s : State) (ses : Fin 11), (Ready s ses 1) :=
  ⟨st cust, 0, by decide⟩
theorem wit_MywiSessionEventsComplete_0 : ∃ (s : State) (ses : Fin 11), (s.hw.mywi.openM = true) ∧ ((s.hw.mywi.sess[ses]).openS = false) ∧ ((ses.val < 3 ∨ s.hw.mgmtOpen = true)) :=
  ⟨st (up.updSes 1 (fun x => { x with openS := false })), 1, by decide⟩
theorem wit_MywiSessionEventsComplete_1 : ∃ (s : State) (ses : Fin 11), ((s.hw.mywi.sess[ses]).openS = true) ∧ ((s.hw.mywi.sess[ses]).lastLine + psAu (s.hw.effN .mywiIdle) ≤ s.hw.time.up) :=
  ⟨st up, 0, by decide⟩
theorem wit_MywiSessionEventsComplete_2 : ∃ (s : State) (t : Fin 4) (a : Nat), (s.hw.mywi.lockAt[t] = some a) ∧ (a + psAu 60000000000000 ≤ s.hw.time.up) :=
  ⟨st { up with mywi := { up.mywi with lockAt := #v[none, some 0, none, none] } }, 1, 0, by decide⟩
theorem wit_MywiSessionEventsComplete_3 : ∃ (s : State) (i : Fin 11), (3 ≤ i.val) ∧ ((s.hw.mywi.sess[i]).openS = false) ∧ ((∀ j : Fin 11, 3 ≤ j.val → j < i → (s.hw.mywi.sess[j]).openS = true)) :=
  ⟨st (up.updSes 3 (fun x => { x with openS := true })), 4, by decide⟩
theorem wit_MywiSessionEventsComplete_4 : ∃ (s : State) (ses : Fin 11), (3 ≤ ses.val) ∧ ((s.hw.mywi.sess[ses]).openS = true) :=
  ⟨st (up.updSes 4 (fun x => { x with openS := true })), 4, by decide⟩
theorem wit_MywiSessionEventsComplete_5 : ∃ (s : State) (ses : Fin 11), (3 ≤ ses.val) ∧ ((s.hw.mywi.sess[ses]).openS = true) ∧ ((s.hw.mywi.sess[ses]).out ≠ []) :=
  ⟨st (up.updSes 4 (fun x => { x with openS := true, out := ['a'] })), 4, by decide⟩
theorem wit_MywiTransportCommandsComplete_0 : ∃ (s : State), (s.hw.mywi.openM = true) ∧ ((s.hw.mywi.sess[(0 : Fin 11)]).openS = true) :=
  ⟨st up, by decide⟩
theorem wit_MywiTransportCommandsComplete_1 : ∃ (s : State) (b : Byte), (s.hw.mywi.openM = true) ∧ ((s.hw.mywi.sess[(0 : Fin 11)]).openS = true) ∧ (b ≠ 0x0A) ∧ (b ≠ 0x08) ∧ (b ≠ 0x7F) ∧ ((s.hw.mywi.sess[(0 : Fin 11)]).skip = false) ∧ ((s.hw.mywi.sess[(0 : Fin 11)]).inUsed < inSize) ∧ ((s.hw.mywi.sess[(0 : Fin 11)]).partialItems.length < 1023) :=
  ⟨st up, 0x41, by decide⟩
theorem wit_MywiTransportCommandsComplete_3 : ∃ (s : State) (ses : Fin 11) (n : Nat), (ses ≠ 1) ∧ (ses ≠ 2) ∧ ((s.hw.mywi.sess[ses]).queue = []) :=
  ⟨st (up.updSes 0 (fun x => { x with out := ['a', 'b'] })), 0, 1, by decide⟩
theorem wit_MywiTransportCommandsComplete_4 : ∃ (s : State) (data : List Byte), (s.hw.mywi.hspiRdy = true) ∧ (1 ≤ data.length) ∧ (data.length ≤ 1024) ∧ (s.hw.mywi.openM = true) ∧ ((s.hw.mywi.sess[(1 : Fin 11)]).openS = true) ∧ ((s.hw.mywi.sess[(1 : Fin 11)]).skip = false) ∧ ((s.hw.mywi.sess[(1 : Fin 11)]).echo = false) ∧ ((0x0A : Byte) ∉ data) ∧ ((s.hw.mywi.sess[(1 : Fin 11)]).inUsed + data.length ≤ inSize) ∧ ((s.hw.mywi.sess[(1 : Fin 11)]).partialItems.length + data.length ≤ 1023) :=
  ⟨st up, [0x41, 0x42], by decide⟩
theorem wit_MywiTransportCommandsComplete_5 : ∃ (s : State) (n : Nat), (s.hw.mywi.hspiRdy = true) ∧ (1 ≤ n) ∧ (n ≤ 1024) :=
  ⟨st (up.updSes 1 (fun x => { x with out := ['a', 'b'] })), 3, by decide⟩
theorem wit_MywiTransportCommandsComplete_6 : ∃ (s : State), (s.hw.mywi.hspiRdy = true) :=
  ⟨st up, by decide⟩
theorem wit_MywiTransportCommandsComplete_7 : ∃ (s : State) (v : Word), (s.hw.sys.d3hot = false) ∧ (s.hw.domUp .keep = true) ∧ (s.hw.mywi.mbxResetBusy = false) ∧ (v.toNat % 4 = 0) ∧ ((v - s.hw.mywi.mbxInCons).toNat ≤ 4096) :=
  ⟨st up, 4096, by decide⟩
theorem wit_MywiTransportCommandsComplete_8 : ∃ (s : State), (s.hw.domUp .keep = true) :=
  ⟨st up, by decide⟩
theorem wit_MywiTransportCommandsComplete_9 : ∃ (s : State) (ses : Fin 11) (rest : List InItem), (Ready s ses 1) ∧ ((s.hw.mywi.sess[ses]).check = 0) ∧ ((s.hw.mywi.sess[ses]).inBuf = textItems "list" ++ [.byte 0x0A] ++ rest) :=
  ⟨st (cust.updSes 0 (fun x => { x with inBuf := textItems "list" ++ [.byte 0x0A] })), 0, [], by decide⟩
theorem wit_TransactionCommandsComplete_0 : ∃ (s : State) (ses : Fin 11), (Ready s ses 2) ∧ ((s.hw.mywi.sess[ses]).txn = none) :=
  ⟨st cust, 0, by decide⟩
theorem wit_TransactionCommandsComplete_1 : ∃ (s : State) (ses : Fin 11), (Ready s ses 2) :=
  ⟨st cust, 0, by decide⟩
theorem wit_TransactionCommandsComplete_2 : ∃ (s : State) (ses : Fin 11) (l : List (Key × SVal)) (b : List String), (Ready s ses 2) ∧ ((s.hw.mywi.sess[ses]).txn = some l) ∧ ((s.hw.lined ses).commitTest (s.hw.time.axis + 100 * auPerUs) l = (0, b)) :=
  ⟨st (cust.updSes 0 (fun x => { x with txn := some [(⟨.axisSignLimit, 0, 0⟩, .nat 5000000)] })), 0, [(⟨.axisSignLimit, 0, 0⟩, .nat 5000000)], [], by decide⟩
theorem wit_TransactionCommandsComplete_3 : ∃ (s : State) (c : Commit), (s.hw.txn.commit = some c) ∧ (c.window = false) ∧ (c.t ≤ s.hw.time.axis) ∧ (c.itemsB ≠ []) :=
  ⟨st { up with txn := { commit := some { ses := none, t := 5, itemsA := [], itemsC := [], itemsB := [(⟨.steerLockErr, 0, 0⟩, .nat 5)] } } }, { ses := none, t := 5, itemsA := [], itemsC := [], itemsB := [(⟨.steerLockErr, 0, 0⟩, .nat 5)] }, by decide⟩
theorem wit_TransactionCommandsComplete_4 : ∃ (s : State) (c : Commit), (s.hw.txn.commit = some c) ∧ (c.window = false) ∧ (c.t ≤ s.hw.time.axis) ∧ (c.itemsB = []) :=
  ⟨st { up with txn := { commit := some { ses := none, t := 1000 * auPerSec, itemsA := [], itemsC := [], itemsB := [] } } }, { ses := none, t := 1000 * auPerSec, itemsA := [], itemsC := [], itemsB := [] }, by decide⟩
theorem wit_TransactionCommandsComplete_5 : ∃ (s : State) (c : Commit) (x : Key) (v : SVal) (r : List (Key × SVal)), (s.hw.txn.commit = some c) ∧ (c.window = true) ∧ (c.itemsB = (x, v) :: r) ∧ (x.p.row.cls ≠ .b4) ∧ (r ≠ []) :=
  ⟨st { up with txn := { commit := some { ses := none, t := 5, window := true, itemsA := [], itemsC := [], itemsB := [(⟨.steerLockErr, 0, 0⟩, .nat 5), (⟨.steerSlope, 0, 0⟩, .nat 5)] } } }, { ses := none, t := 5, window := true, itemsA := [], itemsC := [], itemsB := [(⟨.steerLockErr, 0, 0⟩, .nat 5), (⟨.steerSlope, 0, 0⟩, .nat 5)] }, ⟨.steerLockErr, 0, 0⟩, .nat 5, [(⟨.steerSlope, 0, 0⟩, .nat 5)], by decide⟩
theorem wit_TransactionCommandsComplete_6 : ∃ (s : State) (c : Commit) (x : Key) (v : SVal), (s.hw.txn.commit = some c) ∧ (c.window = true) ∧ (c.itemsB = [(x, v)]) ∧ (x.p.row.cls ≠ .b4) :=
  ⟨st { up with txn := { commit := some { ses := none, t := 5, window := true, itemsA := [], itemsC := [], itemsB := [(⟨.steerLockErr, 0, 0⟩, .nat 5)] } } }, { ses := none, t := 5, window := true, itemsA := [], itemsC := [], itemsB := [(⟨.steerLockErr, 0, 0⟩, .nat 5)] }, ⟨.steerLockErr, 0, 0⟩, .nat 5, by decide⟩
theorem wit_EngineVerbsComplete_0 : ∃ (s : State) (ses : Fin 11) (v : String) (n : Nat), (Ready s ses PathId.systemMode.row.role) ∧ (parseValue PathId.systemMode.row.vt v = .ok (.nat n)) ∧ ((s.hw.mywi.sess[ses]).txn = none) ∧ (s.hw.restartBusy = false) ∧ (s.hw.freeSlots ≠ 0) ∧ (s.hw.conflictPaths (n + 1) = []) :=
  ⟨st cust, 0, "relay", 1, by decide⟩
theorem wit_EngineVerbsComplete_1 : ∃ (s : State) (ses : Fin 11) (p : Fin 4) (v : String) (m : Nat), (Ready s ses PathId.portPMode.row.role) ∧ ((s.hw.mywi.sess[ses]).txn = none) ∧ ((s.hw.lined ses).place false ("port.p" ++ toString p.val ++ ".mode") = .leaf ⟨.portPMode, p, 0⟩) ∧ (parseValue PathId.portPMode.row.vt v = .ok (.nat m)) ∧ (((s.hw.lined ses).overlay ⟨.portPMode, p, 0⟩ (.nat m)).violates ⟨.portPMode, p, 0⟩ = false) ∧ ((s.hw.lined ses).stateTest ⟨.portPMode, p, 0⟩ (.nat m) = 0) ∧ ((s.hw.lined ses).shown ⟨.portPMode, p, 0⟩ ≠ .nat m) :=
  ⟨st cust, 0, 1, "off", 8, by decide⟩
theorem wit_EngineVerbsComplete_2 : ∃ (s : State) (ses : Fin 11), (Ready s ses 2) ∧ ((s.hw.mywi.sess[ses]).txn = none) ∧ (s.hw.restartBusy = false) :=
  ⟨st cust, 0, by decide⟩
theorem wit_EngineVerbsComplete_3 : ∃ (s : State) (ses : Fin 11), (Ready s ses 3) ∧ ((s.hw.mywi.sess[ses]).txn = none) ∧ (s.hw.restartBusy = false) ∧ (s.hw.sys.aonUp = true) ∧ (s.hw.sealU.next ≤ s.hw.sealU.ack) :=
  ⟨st cust, 0, by decide⟩
theorem wit_EngineVerbsComplete_4 : ∃ (s : State) (ses : Fin 11), (Ready s ses 3) ∧ ((s.hw.mywi.sess[ses]).txn = none) ∧ (s.hw.restartBusy = false) ∧ (s.hw.sys.aonUp = true) :=
  ⟨st cust, 0, by decide⟩
theorem wit_EngineVerbsComplete_5 : ∃ (s : State) (ses : Fin 11), (Ready s ses 2) ∧ ((s.hw.mywi.sess[ses]).txn = none) ∧ (s.hw.restartBusy = false) ∧ (s.hw.img.write = none) :=
  ⟨st cust, 0, by decide⟩
theorem wit_EngineVerbsComplete_6 : ∃ (s : State) (ses : Fin 11), (Ready s ses 3) ∧ ((s.hw.mywi.sess[ses]).txn = none) ∧ (s.hw.restartBusy = false) ∧ (s.hw.awake = true) ∧ (s.hw.sealU.next ≤ s.hw.sealU.ack) :=
  ⟨st cust, 0, by decide⟩
theorem wit_EngineVerbsComplete_7 : ∃ (s : State) (ses : Fin 11), (Ready s ses 3) ∧ ((s.hw.mywi.sess[ses]).txn = none) ∧ (s.hw.restartBusy = false) ∧ (s.hw.awake = true) :=
  ⟨st cust, 0, by decide⟩
theorem wit_BlockResetCommandsComplete_0 : ∃ (s : State) (ses : Fin 11), (Ready s ses 2) ∧ ((s.hw.mywi.sess[ses]).txn = none) :=
  ⟨st cust, 0, by decide⟩
theorem wit_BlockResetCommandsComplete_1 : ∃ (s : State), (s.hw.sys.d3hot = false) ∧ (s.hw.domUp .keep = true) :=
  ⟨st up, by decide⟩
theorem wit_ImageCommandsComplete_0 : ∃ (s : State) (ses : Fin 11) (o : String) (n : String) (off : Nat) (len : Nat), (Ready s ses 3) ∧ ((s.hw.mywi.sess[ses]).txn = none) ∧ (imageLength n = .ok len) ∧ (argNat 0x180000000 0x1FFFFFFFF o = .ok off) ∧ (off + len ≤ 0x200000000) ∧ (s.hw.imageBusy = false) ∧ (s.hw.img.nextGen < 0xFFFFFFFF) :=
  ⟨st cust, 0, "0x1fffffff0", "16", 0x1FFFFFFF0, 16, by decide⟩
theorem wit_ImageCommandsComplete_1 : ∃ (s : State) (ses : Fin 11) (n : String) (len : Nat), (Ready s ses 3) ∧ ((s.hw.mywi.sess[ses]).txn = none) ∧ (imageLength n = .ok len) ∧ ((s.hw.mywi.sess[ses]).img = none) ∧ (s.hw.imageBusy = false) ∧ (s.hw.img.nextGen < 0xFFFFFFFF) :=
  ⟨st cust, 0, "16", 16, by decide⟩
theorem wit_ImageCommandsComplete_2 : ∃ (s : State) (ses : Fin 11) (o : String) (t : String) (off : Nat) (l : List Byte) (g : ImgStage), (Ready s ses 3) ∧ ((s.hw.mywi.sess[ses]).txn = none) ∧ (natural? o.toList = some off) ∧ (base64? t.toList = some l) ∧ (l.length ≤ 576) ∧ ((s.hw.mywi.sess[ses]).img = some g) ∧ (off + l.length ≤ g.len) :=
  ⟨st (cust.updSes 0 (fun x => { x with img := some { len := 3 } })), 0, "0", "QUJD", 0, [0x41, 0x42, 0x43], { len := 3 }, by decide⟩
theorem wit_ImageCommandsComplete_3 : ∃ (s : State) (ses : Fin 11) (g : ImgStage), (Ready s ses 3) ∧ ((s.hw.mywi.sess[ses]).txn = none) ∧ ((s.hw.mywi.sess[ses]).img = some g) ∧ (g.len ≤ 4194304) ∧ (s.hw.imageBusy = false) ∧ (s.hw.img.nextGen < 0xFFFFFFFF) :=
  ⟨st (cust.updSes 0 (fun x => { x with img := some { len := 3 } })), 0, { len := 3 }, by decide⟩
theorem wit_ImageCommandsComplete_4 : ∃ (s : State) (ok : Bool) (w : SlotWrite), (s.hw.img.write = some w) :=
  ⟨st { up with img := { write := some { slot := 1, store := none, bytes := [1], len := 1 } } }, true, { slot := 1, store := none, bytes := [1], len := 1 }, by decide⟩
theorem wit_ImageCommandsComplete_5 : ∃ (s : State) (ses : Fin 11) (x : Fin 2), (Ready s ses 3) ∧ ((s.hw.mywi.sess[ses]).txn = none) ∧ (s.hw.imageBusy = false) ∧ (s.hw.img.staged = some x) ∧ (s.hw.freeSlots ≠ 0) :=
  ⟨st { cust with img := { flash := [(0, 0x56), (1, 0x4C), (2, 0x50), (3, 0x49), (4, 0), (5, 1), (8, 0), (9, 0), (10, 0), (11, 2), (12, 0)] } }, 0, 0, by decide⟩
theorem wit_ImageCommandsComplete_6 : ∃ (s : State) (ses : Fin 11) (j : Fin 4), (Ready s ses 3) ∧ ((s.hw.mywi.sess[ses]).txn = none) ∧ (s.hw.imageBusy = false) ∧ (s.hw.freeSlots ≠ 0) ∧ (s.hw.img.owners[j] = none) ∧ ((∀ i : Fin 4, i < j → s.hw.img.owners[i] ≠ none)) :=
  ⟨st cust, 0, 0, by decide⟩
theorem wit_ImageCommandsComplete_7 : ∃ (s : State) (ses : Fin 11) (x : String) (j : Fin 4) (i : Fin 4) (v : BitVec 256), (Ready s ses 3) ∧ ((s.hw.mywi.sess[ses]).txn = none) ∧ (argNat 0 3 x = .ok j.val) ∧ (s.hw.imageBusy = false) ∧ (s.hw.freeSlots ≠ 0) ∧ (s.hw.img.owners[j] = some v) ∧ (i ≠ j) ∧ (s.hw.img.owners[i] ≠ none) ∧ (s.hw.img.ownerRevoked.getLsbD i = false) :=
  ⟨st { cust with img := { owners := #v[some 7, some 8, none, none] } }, 0, "0", 0, 1, 7, by decide⟩
theorem wit_ImageCommandsComplete_8 : ∃ (s : State) (ses : Fin 11) (x : Fin 2), (Ready s ses 3) ∧ ((s.hw.mywi.sess[ses]).txn = none) ∧ (s.hw.imageBusy = false) ∧ (s.hw.slotUsed = some x) ∧ (s.hw.freeSlots ≠ 0) :=
  ⟨st { cust with sys := { cust.sys with slot := 1 } }, 0, 0, by decide⟩
theorem wit_ClearingCommandsComplete_0 : ∃ (s : State) (ses : Fin 11) (m : BitVec 24) (i : Fin 24), (Ready s ses 2) ∧ (m.getLsbD i = true) :=
  ⟨st cust, 0, 1, 0, by decide⟩
theorem wit_ClearingCommandsComplete_1 : ∃ (s : State) (m : BitVec 24) (i : Fin 24), (s.hw.sys.d3hot = false) ∧ (s.hw.domUp .keep = true) ∧ (m.getLsbD i = true) ∧ (s.hw.faultHolds i = false) :=
  ⟨st up, 1, 0, by decide⟩
theorem wit_ClearingCommandsComplete_2 : ∃ (s : State) (ses : Fin 11) (c : Fin 64), (Ready s ses 2) :=
  ⟨st cust, 0, 63, by decide⟩
theorem wit_ClearingCommandsComplete_3 : ∃ (s : State) (c : Fin 64), (s.hw.sys.d3hot = false) ∧ (s.hw.domUp .pipe = true) :=
  ⟨st up, 63, by decide⟩
theorem wit_ClearingCommandsComplete_4 : ∃ (s : State) (ses : Fin 11), (Ready s ses 2) :=
  ⟨st cust, 0, by decide⟩
theorem wit_ClearingCommandsComplete_5 : ∃ (s : State), (s.hw.sys.d3hot = false) ∧ (s.hw.domUp .pipe = true) :=
  ⟨st up, by decide⟩
def opr : Hw := ({ up with sys := { up.sys with runMode := 2 }, sett := { mywi := [(⟨.prongGroups, 0, 0⟩, .nats [0, 1])] } } : Hw).updSes 0 (fun x => { x with role := 2 })
theorem wit_BlockResetCommandsComplete_all : (∃ (s : State) (ses : Fin 11), Ready s ses 2 ∧ (s.hw.mywi.sess[ses]).txn = none ∧ (∃ p, s.hw.resetTest (.port p) = 0) ∧ (∃ g, s.hw.resetTest (.group g) = 0) ∧
  (∃ n, s.hw.resetTest (.lat n) = 0) ∧ (∃ n, s.hw.resetTest (.deck n) = 0) ∧ s.hw.resetTest .ibex = 0 ∧ s.hw.resetTest .dma = 0 ∧ s.hw.resetTest .tally = 0 ∧ s.hw.sys.d3hot = false ∧ s.hw.domUp .keep = true) :=
 ⟨st opr, 0, by decide, by decide, ⟨0, by decide⟩, ⟨0, by decide⟩, ⟨0, by decide⟩, ⟨0, by decide⟩, by decide⟩

end Mywi

/-! ## Witnesses: Signals -/

namespace Signals

def gn (i : Nat) (f : RefIn → RefIn) : Hw := { up with ref := { up.ref with ins := up.ref.ins.set! i (f {}) } }
theorem wit_ReferenceCommandsComplete_0 : ∃ (s : State) (i : Fin 4) (sub : Nat), (s.hw.refOn (gnssIn i) = true) ∧ (s.hw.time.clockOn = true) ∧ (s.hw.effN .refGnssLabel i ≠ 1) :=
  ⟨st up, 2, 5, by decide⟩
theorem wit_ReferenceCommandsComplete_1 : ∃ (s : State) (i : Fin 4) (text : List Byte), (s.hw.sys.released = true) ∧ (nmeaFields? (text.map (fun b => Char.ofNat b.toNat)) = none) :=
  ⟨st up, 0, [0x24], by decide⟩
theorem wit_ReferenceCommandsComplete_2 : ∃ (s : State) (i : Fin 4) (text : List Byte) (f : List (List Char)) (u : Nat), (s.hw.sys.released = true) ∧ (nmeaFields? (text.map (fun b => Char.ofNat b.toNat)) = some f) ∧ (nmeaMsg f = .time u) ∧ (s.hw.effN .refGnssLabel i = 1) :=
  ⟨st { up with sett := { mywi := [(⟨.refGnssLabel, 1, 0⟩, .nat 1)] } }, 1, asciiBytes "$GPZDA,000001.00,01,01,2024,00,00*63", ["GPZDA".toList, "000001.00".toList, "01".toList, "01".toList, "2024".toList, "00".toList, "00".toList], 1704067201, by decide⟩
theorem wit_ReferenceCommandsComplete_3 : ∃ (s : State) (i : Fin 2), (s.hw.refOn (atomIn i) = true) ∧ (s.hw.time.clockOn = true) :=
  ⟨st { up with sett := { mywi := [(⟨.refInEnable, 4, 0⟩, .nat 1)] } }, 0, by decide⟩
theorem wit_ReferenceCommandsComplete_4 : ∃ (s : State) (i : Fin 2) (lvl : Bool), (s.hw.refOn (atomIn i) = true) ∧ (s.hw.time.clockOn = true) :=
  ⟨st { up with sett := { mywi := [(⟨.refInEnable, 4, 0⟩, .nat 1)] } }, 0, true, by decide⟩
theorem wit_ReferenceCommandsComplete_5 : ∃ (s : State) (p : Fin 4) (ssm : Nat) (ext : Option Nat), (s.hw.sys.released = true) :=
  ⟨st up, 3, 2, none, by decide⟩
theorem wit_ReferenceCommandsComplete_6 : ∃ (s : State) (p : Fin 4), (s.hw.sys.released = true) ∧ (s.hw.time.clockOn = true) :=
  ⟨st up, 1, by decide⟩
theorem wit_ReferenceCommandsComplete_7 : ∃ (s : State) (i : Fin 20) (c : DownCause), ((s.hw.ref.ins[i]).st = .candidate) ∧ (s.hw.downCause i = some c) ∧ (c ≠ .disabled) :=
  ⟨st (gn 0 (fun r => { r with st := .candidate, tql := 12, mapped := 12, qual := 3, lastEv := some 1, lastMsg := some 1 })), 0, .edges, by decide⟩
theorem wit_ReferenceCommandsComplete_8 : ∃ (s : State) (i : Fin 20) (x : Nat × DownCause), ((s.hw.ref.ins[i]).st = .holdoff) ∧ ((s.hw.ref.ins[i]).hold = some x) ∧ (s.hw.passed x.1 (s.hw.effN .refInHoldoff i) = true) ∧ (s.hw.downCause i = none) :=
  ⟨st (gn 0 (fun r => { r with st := .holdoff, hold := some (0, .edges), mapped := 12, tql := 12, qual := 3, lastEv := some (2000 * auPerSec), lastMsg := some (2000 * auPerSec) })), 0, (0, .edges), by decide⟩
theorem wit_ReferenceCommandsComplete_9 : ∃ (s : State) (i : Fin 20), ((s.hw.ref.ins[i]).st = .wtr) ∧ (s.hw.passedO (s.hw.ref.ins[i]).wtrAt (s.hw.effN .refInWtr i) = true) ∧ (s.hw.qualified i = true) ∧ (1 ≤ (s.hw.ref.ins[i]).mapped) ∧ (s.hw.kindAllowed i = true) :=
  ⟨st (gn 0 (fun r => { r with st := .wtr, wtrAt := some 0, mapped := 12, qual := 3, lastEv := some (2000 * auPerSec), lastMsg := some (2000 * auPerSec) })), 0, by decide⟩
theorem wit_ReferenceCommandsComplete_10 : ∃ (s : State) (synce : List (Option Int)), (s.hw.time.clockOn = true) ∧ (s.hw.sys.released = true) ∧ (s.hw.atHalf = true) :=
  ⟨st { up with time := { up.time with axis := 1000 * auPerSec + auPerSec / 2 } }, [], by decide⟩
theorem wit_OutputCommandsComplete_0 : ∃ (s : State) (n : Fin 4), (s.hw.outputsRun = true) ∧ (s.hw.effB .outOEnable (8 + n.val) = true) ∧ ((s.hw.out.pulse[n]).changeAt = none) ∧ ((s.hw.out.pulse[n]).last = none) ∧ (s.hw.pulseNext n s.hw.time.axis < s.hw.time.axis + auPerTick) ∧ (s.hw.squelchedAt (8 + n.val) (s.hw.pulseNext n s.hw.time.axis) (s.hw.out.pulse[n]).measured = false) :=
  ⟨st { up with sett := { mywi := [(⟨.outOEnable, 8, 0⟩, .nat 1)] }, time := { up.time with hist := List.replicate 200 .locked }, out := { pulse := Vector.replicate 4 { measured := true } } }, 0, by decide⟩
theorem wit_OutputCommandsComplete_1 : ∃ (s : State) (n : Fin 4) (sub : Nat), (s.hw.outputsRun = true) ∧ (s.hw.effB .outOEnable (8 + n.val) = true) ∧ ((s.hw.out.pulse[n]).changeAt = none) ∧ (s.hw.alignable (s.hw.out.pulse[n]).cfg = true) :=
  ⟨st { up with sett := { mywi := [(⟨.outOEnable, 11, 0⟩, .nat 1)] }, out := { pulse := Vector.replicate 4 { cfg := { align := 8 } } } }, 3, 7, by decide⟩
theorem wit_OutputCommandsComplete_2 : ∃ (s : State) (n : Fin 4) (t : Nat), (s.hw.outputsRun = true) ∧ (s.hw.effB .outOEnable (8 + n.val) = true) ∧ ((s.hw.out.pulse[n]).cfg.align ≠ 0) ∧ ((s.hw.out.pulse[n]).hold = false) ∧ ((s.hw.out.pulse[n]).edgeAt = some t) ∧ (s.hw.passed t 3000000000000 = true) :=
  ⟨st { up with sett := { mywi := [(⟨.outOEnable, 9, 0⟩, .nat 1)] }, out := { pulse := Vector.replicate 4 { cfg := { align := 1 }, edgeAt := some 0 } } }, 1, 0, by decide⟩
theorem wit_OutputCommandsComplete_3 : ∃ (s : State) (n : Fin 8), (s.hw.outputsRun = true) ∧ (s.hw.effB .outOEnable n = true) ∧ ((s.hw.out.clk[n]).changeAt = none) ∧ (clkNext (s.hw.out.clk[n]).cfg s.hw.time.axis < s.hw.time.axis + auPerTick) ∧ (((s.hw.out.clk[n]).last.all (fun l => decide (l + clkPeriod (s.hw.out.clk[n]).cfg ≤ clkNext (s.hw.out.clk[n]).cfg s.hw.time.axis))) = true) ∧ (s.hw.squelchedAt n (clkNext (s.hw.out.clk[n]).cfg s.hw.time.axis) (s.hw.out.clk[n]).measured = false) :=
  ⟨st { up with sett := { mywi := [(⟨.outOEnable, 7, 0⟩, .nat 1)] }, time := { up.time with hist := List.replicate 200 .locked }, out := { clk := Vector.replicate 8 { measured := true } } }, 7, by decide⟩
theorem wit_OutputCommandsComplete_4 : ∃ (s : State) (n : Fin 8) (pad : Nat), (s.hw.outputsRun = true) ∧ (s.hw.effB .outOEnable n = true) ∧ (100 ≤ pad) ∧ (pad ≤ 3000) :=
  ⟨st { up with sett := { mywi := [(⟨.outOEnable, 7, 0⟩, .nat 1)] }, out := { clk := Vector.replicate 8 { corr := 7 } } }, 7, 100, by decide⟩
theorem wit_OutputCommandsComplete_5 : ∃ (s : State) (n : Fin 4) (pad : Nat), (s.hw.outputsRun = true) ∧ (s.hw.effB .outOEnable (8 + n.val) = true) ∧ ((pad < 100 ∨ 3000 < pad)) :=
  ⟨st { up with sett := { mywi := [(⟨.outOEnable, 11, 0⟩, .nat 1)] } }, 3, 99, by decide⟩
theorem wit_OutputCommandsComplete_6 : ∃ (s : State), (s.hw.outputsRun = true) ∧ (s.hw.effB .outOEnable 12 = true) :=
  ⟨st { up with sett := { mywi := [(⟨.outOEnable, 12, 0⟩, .nat 1)] } }, by decide⟩

end Signals

/-! ## Witnesses: Ports -/

namespace Ports

def ch1 (c : Fin 40) (x : CalCh) : Hw := { up with cal := { up.cal with ch := up.cal.ch.set c x, dll := Vector.replicate 4 true } }
def pt (m : Nat) (ls : LaneSt) (o : LPort) : Hw := { up with wave := { isl := Vector.replicate 48 { anchored := true, measured := true } }, cal := { dll := Vector.replicate 4 true }, port := { p := Vector.replicate 4 { mode := m, lanes := Vector.replicate 4 { st := ls, markAt := some 0, rxMarks := List.replicate 256 0, txMarks := List.replicate 256 0 }, lps := Vector.replicate 4 o } } }
theorem wit_CaliperCommandsComplete_0 : ∃ (s : State) (c : Fin 40) (falling : Bool) (sub : Nat), (s.hw.time.clockOn = true) ∧ (s.hw.domUp .ref = true) ∧ ((s.hw.cal.ch[c]).changeAt = none) ∧ ((s.hw.cal.ch[c]).cfg.en = true) ∧ ((s.hw.cal.ch[c]).cfg.mode = 0) ∧ ((s.hw.cal.ch[c]).cfg.edge = 2) ∧ ((s.hw.cal.ch[c]).cfg.divide ≤ 1) ∧ ((s.hw.cal.ch[c]).lastStamp = none) ∧ (((s.hw.busNow (s.hw.time.axis + sub)).front[c]).length < 4) ∧ ((s.hw.cal.ch[c]).queue.length < 4096) :=
  ⟨st (ch1 39 { cfg := { en := true, edge := 2, delay := 12 } }), 39, true, 5, by decide⟩
theorem wit_CaliperCommandsComplete_1 : ∃ (s : State) (c : Fin 40) (st : CalStamp) (p : CalStamp), ((s.hw.cal.ch[c]).cfg.intervals = true) ∧ ((s.hw.cal.ch[c]).nextStart = some st) ∧ (findStop (s.hw.cal.ch[c]).cfg.signed (psAu (s.hw.effN .calChLookback c)) st.t (decide ((s.hw.cal.ch[c]).cfg.stopCh = c)) ((s.hw.cal.ch[(s.hw.cal.ch[c]).cfg.stopCh]).hist.filter (fun y => decide (y.falling = (s.hw.cal.ch[c]).cfg.stopFall))) = some p) ∧ (max st.t p.t + 100 * (auPerNs : Int) ≤ (s.hw.time.axis + auPerTick : Int)) ∧ (p.t ≤ st.t + psAu (s.hw.effN .calChTimeout c)) :=
  ⟨st (ch1 3 { cfg := { en := true, mode := 1, stop := 3 }, hist := [{ t := 5 }, { t := 900000 }] }), 3, { t := 5 }, { t := 900000 }, by decide⟩
theorem wit_CaliperCommandsComplete_2 : ∃ (s : State) (c : Fin 40) (st : CalStamp), ((s.hw.cal.ch[c]).cfg.intervals = true) ∧ ((s.hw.cal.ch[c]).nextStart = some st) ∧ ((∀ d : Fin 40, (s.hw.cal.ch[d]).hist = [])) ∧ (st.t + psAu (s.hw.effN .calChTimeout c) + 100 * (auPerNs : Int) ≤ (s.hw.time.axis + auPerTick : Int)) :=
  ⟨st (ch1 3 { cfg := { en := true, mode := 1, stop := 4 }, start := some { t := 5 } }), 3, { t := 5 }, by decide⟩
theorem wit_CaliperCommandsComplete_3 : ∃ (s : State) (c : Fin 40), ((s.hw.cal.ch[c]).changeAt = none) ∧ ((s.hw.cal.ch[c]).cfg.en = true) ∧ ((s.hw.cal.ch[c]).cfg.mode = 2) ∧ ((s.hw.cal.ch[c]).cfg.gateEvt = false) ∧ ((s.hw.cal.ch[c]).gate = none) ∧ (0 < psAu (s.hw.cal.ch[c]).cfg.gate) ∧ (s.hw.time.axis % psAu (s.hw.cal.ch[c]).cfg.gate < auPerTick) :=
  ⟨st (ch1 3 { cfg := { en := true, mode := 2 } }), 3, by decide⟩
theorem wit_CaliperCommandsComplete_4 : ∃ (s : State) (c : Fin 40) (g : CalGate), ((s.hw.cal.ch[c]).gate = some g) ∧ (g.t0 + psAu (s.hw.cal.ch[c]).cfg.gate ≤ (s.hw.time.axis + auPerTick : Int)) :=
  ⟨st (ch1 3 { cfg := { en := true, mode := 2 }, gate := some { t0 := 5 } }), 3, { t0 := 5 }, by decide⟩
theorem wit_CaliperCommandsComplete_5 : ∃ (s : State) (i : Fin 4), (s.hw.cal.dll[i] = true) :=
  ⟨st { up with cal := { dll := Vector.replicate 4 true } }, 3, by decide⟩
theorem wit_CaliperCommandsComplete_6 : ∃ (s : State) (i : Fin 4), (s.hw.time.clockOn = true) ∧ (s.hw.domUp .ref = true) :=
  ⟨st up, 2, by decide⟩
theorem wit_CaliperCommandsComplete_7 : ∃ (s : State) (c : Fin 40) (hits : List Nat), (s.hw.time.clockOn = true) ∧ (s.hw.domUp .ref = true) ∧ (hits.foldl (· + ·) 0 = 4194304) :=
  ⟨st up, 5, [4194304], by decide⟩
theorem wit_CaliperCommandsComplete_8 : ∃ (s : State) (c : Fin 40), (s.hw.time.clockOn = true) ∧ (s.hw.domUp .ref = true) ∧ (s.hw.cal.cdLine = c.val) :=
  ⟨st up, 0, by decide⟩
theorem wit_CaliperCommandsComplete_9 : ∃ (s : State) (c : Fin 40), (s.hw.sys.d3hot = false) ∧ (s.hw.domUp .ref = true) :=
  ⟨st up, 39, by decide⟩
theorem wit_CaliperCommandsComplete_10 : ∃ (s : State) (c : Fin 40) (r : CalRec) (l : List CalRec), (s.hw.sys.d3hot = false) ∧ (s.hw.domUp .ref = true) ∧ ((s.hw.cal.ch[c]).queue = r :: l) :=
  ⟨st (ch1 39 { queue := [⟨1, 2, 3, 4⟩] }), 39, ⟨1, 2, 3, 4⟩, [], by decide⟩
theorem wit_CaliperCommandsComplete_11 : ∃ (s : State) (c : Fin 40), (s.hw.sys.d3hot = false) ∧ (s.hw.domUp .ref = true) ∧ ((s.hw.cal.ch[c]).queue = []) :=
  ⟨st up, 39, by decide⟩
theorem wit_PortCommandsComplete_0 : ∃ (s : State) (p : Fin 4) (k : Fin 4), (s.hw.laneUsed p k = true) ∧ (((s.hw.port.p[p]).lanes[k]).st = .down) :=
  ⟨st (pt 7 .down {}), 3, 0, by decide⟩
theorem wit_PortCommandsComplete_1 : ∃ (s : State) (p : Fin 4) (k : Fin 4) (skew : Nat) (phase : Nat), (s.hw.laneUsed p k = true) ∧ (((s.hw.port.p[p]).lanes[k]).st = .signal) :=
  ⟨st (pt 7 .signal {}), 0, 0, 5, 6, by decide⟩
theorem wit_PortCommandsComplete_2 : ∃ (s : State) (p : Fin 4) (k : Fin 4), (((s.hw.port.p[p]).lanes[k]).st = .up) :=
  ⟨st (pt 7 .up {}), 0, 0, by decide⟩
theorem wit_PortCommandsComplete_3 : ∃ (s : State) (p : Fin 4) (k : Fin 4), (s.hw.laneUsed p k = true) ∧ (((s.hw.port.p[p]).lanes[k]).st ≠ .up) :=
  ⟨st (pt 7 .signal {}), 1, 0, by decide⟩
theorem wit_PortCommandsComplete_4 : ∃ (s : State) (l : Fin 16), (s.hw.domUp .port = true) ∧ ((s.hw.lp l).ready = false) ∧ ((s.hw.port.p[lpPort l]).lpUp (lpLane l) = true) ∧ (s.hw.islandOk (rxIsland (lpPort l)) = true) ∧ (s.hw.islandOk (txIsland (lpPort l)) = true) ∧ ((∀ k, ((s.hw.port.p[lpPort l]).lanes[(k : Fin 4)]).refined = true)) :=
  ⟨st (pt 7 .up {}), 4, by decide⟩
theorem wit_PortCommandsComplete_5 : ∃ (s : State) (p : Fin 4) (k : Fin 4) (diff : Int), (((s.hw.port.p[p]).lanes[k]).st = .up) ∧ (s.hw.islandOk 39 = true) ∧ (s.hw.cal.dll[(3 : Fin 4)] = true) :=
  ⟨st (pt 7 .up {}), 1, 0, 3, by decide⟩
theorem wit_PortCommandsComplete_6 : ∃ (s : State) (p : Fin 4) (k : Fin 4) (n : Nat) (t : Nat), (lpOfLane (s.hw.port.p[p]).mode k = some n) ∧ ((s.hw.lp (lpNo p n)).ready = true) ∧ (((s.hw.port.p[p]).lanes[k]).markAt = some t) ∧ (s.hw.passed t 1000000000000 = true) :=
  ⟨st (pt 7 .up { ready := true }), 1, 0, 0, 0, by decide⟩
theorem wit_PortCommandsComplete_7 : ∃ (s : State) (p : Fin 4) (ok : Bool), (s.hw.domUp .port = true) ∧ (s.hw.effB .portPPreempt p = true) :=
  ⟨st { pt 7 .up {} with sett := { mywi := [(⟨.portPPreempt, 2, 0⟩, .nat 1)] } }, 2, true, by decide⟩
theorem wit_PortCommandsComplete_8 : ∃ (s : State) (p : Fin 4) (k : Fin 4), ((s.hw.port.p[p]).change.isSome = true) ∧ (10 ≤ ((s.hw.port.p[p]).lanes[k]).retries) :=
  ⟨st { up with port := { p := Vector.replicate 4 { mode := 7, change := some (7, 0), lanes := Vector.replicate 4 { retries := 10 } } } }, 2, 0, by decide⟩
theorem wit_PortCommandsComplete_9 : ∃ (s : State) (p : Fin 4), (s.hw.esmcOn p = true) :=
  ⟨st { pt 7 .up {} with sett := { mywi := [(⟨.portPSynceTx, 2, 0⟩, .nat 1)] } }, 2, by decide⟩
theorem wit_PortCommandsComplete_10 : ∃ (s : State) (l : Fin 16) (f : List Byte) (sub : Nat) (fcsOk : Bool), (s.hw.domUp .port = true) ∧ ((s.hw.port.p[lpPort l]).lpUp (lpLane l) = true) :=
  ⟨st (pt 7 .up {}), 4, [], 0, true, by decide⟩
theorem wit_PortCommandsComplete_11 : ∃ (s : State) (l : Fin 16) (f : List Byte) (sub : Nat), (s.hw.domUp .port = true) ∧ ((s.hw.port.p[lpPort l]).lpUp (lpLane l) = true) :=
  ⟨st (pt 7 .up {}), 4, [], 0, by decide⟩
theorem wit_PortCommandsComplete_12 : ∃ (s : State) (l : Fin 16) (f : List Byte) (sub : Nat), (s.hw.domUp .port = true) ∧ ((s.hw.port.p[lpPort l]).lpUp (lpLane l) = true) ∧ (beAt f 12 2 ≠ 0x8808) ∧ (64 ≤ f.length) ∧ (f.length ≤ 9216) :=
  ⟨st (pt 7 .up {}), 4, List.replicate 64 0, 0, by decide⟩

end Ports

/-! ## Witnesses: Serving -/

namespace Serving

def srv : Hw := { up with sett := { mywi := [(⟨.prongLaunchLead, 0, 0⟩, .nat 10000000), (⟨.lpPtpRole, 1, 0⟩, .nat 0), (⟨.sealCrpEnable, 0, 0⟩, .nat 1)] }, wave := { isl := Vector.replicate 48 { anchored := true, measured := true } }, port := { p := Vector.replicate 4 { mode := 7, lanes := Vector.replicate 4 { st := .up }, lps := Vector.replicate 4 { ready := true } } } }
def srvM : Hw := { srv with sett := { mywi := [(⟨.lpPtpRole, 1, 0⟩, .nat 0)] } }
def pq (a : Addr) (udp : Nat) : Fin 16 := (srv.pipeOf (srv.time.axis + 5) a udp).getD 0
def req56 : List Byte := [1, 1, 0, 0] ++ List.replicate 52 0
def sreq : SealReq := { src := .crp 0 [10, 0, 0, 1] 9000 }
def kslot : KeySlot := { st := .active, alg := 0, key := 77 }
def skey (h : Hw) (k : KeySlot) : Hw := { h with sealU := { h.sealU with keys := h.sealU.keys.set 2 k } }
theorem reach (h : Hw) (hh : ∀ b : Fin 256, (h.bucketPipe (h.time.axis + 5) b.val).isSome = true) (a : Addr) (udp : Nat) :
    ∃ q, h.pipeOf (h.time.axis + 5) a udp = some q :=
  Option.isSome_iff_exists.1 (hh ⟨_, Nat.mod_lt _ (by decide)⟩)
theorem srv_pipes : ∀ b : Fin 256, (srv.bucketPipe (srv.time.axis + 5) b.val).isSome = true := by decide
theorem entryAt_empty (h : Hw) (hs : h.store = []) (hu : h.sys.uceWords = []) (a : Nat) : h.entryAt a = {} := by
  have p : h.peekN a 32 = List.replicate 32 0 := by simp [Hw.peekN, Hw.peek, hs, sparseGet, List.map_const']
  have q : h.poisonedAt a 32 = false := by simp [Hw.poisonedAt, hu]
  rw [Hw.entryAt, q, p]; decide
theorem findClient_empty (h : Hw) (hs : h.store = []) (hu : h.sys.uceWords = []) (f : Bool) (k : Nat) :
    h.findClient f k = none := by
  simp [Hw.findClient, entryAt_empty h hs hu, ClientEntry.valid]
theorem rate_empty (h : Hw) (hs : h.store = []) (hu : h.sys.uceWords = []) (g : Fin 4) (t : Nat) (a : Addr) (c : Nat)
    (hb : 1 ≤ h.polN t .prongClassBurst c) : (h.rateUpdate g t a c).1 = .serve := by
  rw [Hw.rateUpdate]
  split
  · rfl
  · rename_i f k _
    have v : h.victim f k t = some (wayAt (h.bucketOf f k) 0) := by
      simp [Hw.victim, entryAt_empty h hs hu, ClientEntry.valid]
    simp only [findClient_empty h hs hu, v, Option.map_some]
    split
    · rfl
    · rw [if_pos (by omega)]
theorem srv_lookup (q : Fin 16) : srv.lookup q (srv.time.axis + 5) (.v4 5) = (none, srv.updPipe q (fun p => { p with cache := [] })) := by
  have e : (srv.tcount (grpUnit ⟨q.val / 4, by omega⟩) 22) = srv := by
    rw [Hw.tcount, if_pos]
    revert q; decide
  have c : (srv.prong.pipes[q]).cache = [] := by revert q; decide
  simp only [Hw.lookup, addrKey, c, e]
  simp only [cacheLook, List.filter_nil, List.find?_nil]
  rw [findClient_empty srv rfl rfl]
theorem lanes (q : Fin 16) (cost : Nat) (plain : Bool) 
    (hc : ∀ q : Fin 16, (srv.updPipe q (fun p => { p with cache := [] })).admits 4 q (srv.time.axis + 5) cost = true) :
    NormalLane (st srv).hw 4 q 5 (.v4 5) cost plain := by
  have e := srv_lookup q
  simp only [NormalLane, st, e]
  refine ⟨?_, ?_, ?_, ?_, ?_⟩
  rotate_right
  · apply rate_empty <;> first | rfl | skip
    clear e; revert q; decide
  · clear e; revert q; decide
  · intro _; clear e; revert q; decide
  · clear e; revert q; decide
  · exact hc q
def ask : NtpReq := { src := .v4 5, txTs := 9, sub := 5 }
theorem wit_TimeRequestsComplete_0 : ∃ (s : State) (l : Fin 16) (q : Fin 16) (r : NtpReq), (Reaches s.hw l q r.sub r.src r.udp) ∧ (NormalLane s.hw l q r.sub r.src 133 true) ∧ ((r.version = 3 ∨ r.version = 4)) ∧ (r.mode = 3) ∧ (r.mac = false) := by
  obtain ⟨q, hq⟩ := reach srv srv_pipes ask.src ask.udp
  exact ⟨st srv, 4, q, ask, ⟨rfl, rfl, hq, by decide⟩, lanes q 133 true (by decide), by decide⟩
theorem wit_TimeRequestsComplete_1 : ∃ (s : State) (l : Fin 16) (q : Fin 16) (r : NtpReq) (n : NtsPart), (Reaches s.hw l q r.sub r.src r.udp) ∧ (NormalLane s.hw l q r.sub r.src (250 + 24 * min 7 n.placeholders) false) ∧ ((r.version = 3 ∨ r.version = 4)) ∧ (r.mode = 3) ∧ (r.mac = false) ∧ (s.hw.sys.runMode ≠ 3) := by
  obtain ⟨q, hq⟩ := reach srv srv_pipes ask.src ask.udp
  exact ⟨st srv, 4, q, ask, ⟨[1], [], 0, []⟩, ⟨rfl, rfl, hq, by decide⟩, lanes q 250 false (by decide), by decide⟩
theorem wit_TimeRequestsComplete_2 : ∃ (s : State) (l : Fin 16) (q : Fin 16) (r : PtpReq), (Reaches s.hw l q r.sub r.src r.udp) ∧ (s.hw.isMaster l = true) ∧ (s.hw.inflight q (s.hw.time.axis + r.sub) < 256) := by
  obtain ⟨q, hq⟩ := reach srv srv_pipes (.v4 5) 319
  exact ⟨st srv, 4, q, { src := .v4 5, sub := 5, seq := 3 }, ⟨rfl, rfl, hq, by decide⟩, by decide, by clear hq; revert q; decide⟩
theorem wit_TimeRequestsComplete_3 : ∃ (s : State) (l : Fin 16) (q : Fin 16) (r : PtpReq), (Reaches s.hw l q r.sub r.src r.udp) ∧ (s.hw.isMaster l = true) ∧ (s.hw.inflight q (s.hw.time.axis + r.sub) < 256) := by
  obtain ⟨q, hq⟩ := reach srv srv_pipes (.v4 5) 319
  exact ⟨st srv, 4, q, { src := .v4 5, sub := 5, seq := 3 }, ⟨rfl, rfl, hq, by decide⟩, by decide, by clear hq; revert q; decide⟩
theorem wit_SealCommandsComplete_0 : ∃ (s : State) (l : Fin 16) (q : Fin 16) (a : Nat) (udp : Nat) (sub : Nat) (f : List Byte), (Reaches s.hw l q sub (.v4 a) udp) ∧ (s.hw.domUp .seal = true) ∧ (s.hw.effB .sealCrpEnable = true) ∧ (f.length = 56) ∧ ((f.getD 2 0).toNat % 2 = 0) ∧ (crpFormOk f = true) ∧ ((s.hw.lookup q (s.hw.time.axis + sub) (.v4 a)).1 = none) ∧ ((s.hw.rateUpdate (s.hw.groupOf (some q)) (s.hw.time.axis + sub) (.v4 a) (s.hw.ruleClass (s.hw.time.axis + sub) (.v4 a))).1 = .serve) ∧ (s.hw.sealU.busy = false) ∧ (s.hw.poolFull = false) ∧ ((s.hw.sampleIn (rxIsland (lpPort l)) sub).bad = false) ∧ ((s.hw.sampleIn (rxIsland (lpPort l)) sub).signOk = true) := by
  obtain ⟨q, hq⟩ := reach srv srv_pipes (.v4 5) 4460
  refine ⟨st srv, 4, q, 5, 4460, 5, req56, ⟨rfl, rfl, hq, by decide⟩, rfl, by decide, rfl, by decide, by decide, ?_, ?_, by decide⟩
  · exact congrArg Prod.fst (srv_lookup q)
  · exact rate_empty srv rfl rfl _ _ _ _ (by decide)
theorem wit_SendingCommandsComplete_6 : ∃ (s : State) (l : Fin 16) (early : Nat) (b : Booking), (firstBook (s.hw.lp l).books = some b) ∧ (b.at_ < s.hw.time.axis + auPerTick) ∧ (s.hw.domUp .port = true) ∧ ((s.hw.lpRow l).egress * 1000 ≤ early) ∧ (s.hw.islandOk (txIsland (lpPort l)) = true) ∧ ((s.hw.lp l).plain = []) ∧ ((∃ r, b.msg = .ntp r)) :=
  ⟨st { srv with port := { srv.port with p := srv.port.p.set 1 { srv.port.p[(1 : Fin 4)] with lps := Vector.replicate 4 { books := [{ at_ := 5, dur := 7, msg := .ntp (srv.ntpReply { src := .v4 5 } 5 6) }] } } } }, 4, 100000000, { at_ := 5, dur := 7, msg := .ntp (srv.ntpReply { src := .v4 5 } 5 6) }, rfl, by decide, by decide, by decide, by decide, rfl, _, rfl⟩
theorem wit_SendingCommandsComplete_0 : ∃ (s : State) (l : Fin 16) (dst : Option Addr) (sub : Nat), (s.hw.ptpMaySend l dst 1 = true) :=
  ⟨st srvM, 4, none, 5, by decide⟩
theorem wit_SendingCommandsComplete_1 : ∃ (s : State) (l : Fin 16) (dst : Option Addr) (sub : Nat), (s.hw.ptpMaySend l dst 0 = true) :=
  ⟨st srvM, 4, none, 5, by decide⟩
theorem wit_SendingCommandsComplete_2 : ∃ (s : State) (l : Fin 16) (a : Addr) (dur : Nat), (s.hw.domUp .port = true) ∧ (s.hw.domUp .pipe = true) ∧ (s.hw.isMaster l = true) ∧ ((s.hw.lp l).ready = true) ∧ (s.hw.prong.serving = true) ∧ (s.hw.effN .lpPtpProfile (lpPort l) (lpLane l) ≠ 1) ∧ (10 ≤ dur) ∧ (dur ≤ 1000) ∧ (s.hw.prong.grants.length < s.hw.grantCap) :=
  ⟨st { srvM with prong := { srvM.prong with grants := [⟨4, .v4 5, 1, 0, 9⟩, ⟨4, .v4 5, 0, 0, 9⟩] } }, 4, .v4 5, 1000, by decide⟩
theorem wit_SendingCommandsComplete_3 : ∃ (s : State) (l : Fin 16) (a : Addr) (kind : Nat), (s.hw.domUp .port = true) ∧ (s.hw.domUp .pipe = true) ∧ (s.hw.isMaster l = true) ∧ ((s.hw.lp l).ready = true) ∧ (s.hw.prong.serving = true) :=
  ⟨st { srvM with prong := { srvM.prong with grants := [⟨4, .v4 5, 1, 0, 9⟩, ⟨4, .v4 5, 0, 0, 9⟩] } }, 4, .v4 5, 1, by decide⟩
theorem wit_SendingCommandsComplete_5 : ∃ (s : State) (l : Fin 16) (a : Addr), (s.hw.sys.done = true) ∧ (s.hw.domUp .port = true) ∧ ((s.hw.lp l).ready = true) ∧ (s.hw.prong.serving = true) ∧ (s.hw.sys.runMode ≠ 3) :=
  ⟨st srv, 4, .v4 5, by decide⟩
theorem wit_PronghornUpkeepCompletes_0 : ∃ (s : State) (b : Nat), (MemOk s.hw) ∧ (b < 33554432) ∧ (s.hw.domUp .store = true) ∧ (s.hw.sys.uceWords = []) :=
  ⟨st { up with store := [(8, 1), (12, 5), (96, 1), (104, 5)], time := { up.time with axis := 3000 * auPerSec } }, 0, by decide⟩
theorem wit_PronghornUpkeepCompletes_2 : ∃ (s : State) (af : Bool), (s.hw.sys.d3hot = false) ∧ (s.hw.domUp .pipe = true) :=
  ⟨st up, true, by decide⟩
theorem wit_PronghornUpkeepCompletes_3 : ∃ (s : State), (0 < s.hw.prong.rotPer / 1000000000000 * auPerSec) ∧ (s.hw.time.axis % (s.hw.prong.rotPer / 1000000000000 * auPerSec) < auPerTick) ∧ (0 < s.hw.prong.epoch) ∧ (s.hw.prong.eraseDue = false) :=
  ⟨st { up with prong := { up.prong with epoch := 7, ring := [(8, 80), (7, 70)], rotPer := 1000000000000 } }, by decide⟩
theorem wit_PronghornUpkeepCompletes_4 : ∃ (s : State), (s.hw.prong.eraseDue = true) :=
  ⟨st { up with prong := { up.prong with epoch := 7, ring := [(8, 80), (7, 70), (5, 50), (4, 40), (3, 30)], eraseDue := true } }, by decide⟩
theorem wit_PronghornUpkeepCompletes_5 : ∃ (s : State) (t : Nat) (l : List (Key × SVal)), (s.hw.prong.switch = some (t, l)) ∧ (t ≤ s.hw.time.axis) :=
  ⟨st { up with prong := { up.prong with switch := some (5, []) } }, 5, [], by decide⟩
theorem wit_PronghornUpkeepCompletes_6 : ∃ (s : State) (g : Fin 4) (t : Nat), (s.hw.prong.reload = some (g, t)) ∧ (t ≤ s.hw.time.axis) :=
  ⟨st { up with prong := { up.prong with reload := some (2, 5) } }, 2, 5, by decide⟩
theorem wit_SealCommandsComplete_1 : ∃ (s : State) (sub : Nat) (r : SealReq) (rest : List SealReq) (slot : Fin 8), (s.hw.domUp .seal = true) ∧ (s.hw.sealU.rr = 0) ∧ (s.hw.sealU.waitCrp = r :: rest) ∧ (s.hw.sealU.busy = false) ∧ (s.hw.sealLate r = none) ∧ (s.hw.activeKey r.alg = some slot) :=
  ⟨st (skey { up with sealU := { waitCrp := [sreq, sreq] } } kslot), 5, sreq, [sreq], 2, by decide⟩
theorem wit_SealCommandsComplete_2 : ∃ (s : State) (p : Pending) (rest : List PoolItem), (s.hw.domUp .seal = true) ∧ (s.hw.sealU.pool = .tok p :: rest) :=
  ⟨st { up with sealU := { pool := [.tok { req := sreq, seq := 0, slot := 2 }, .sys 1 [] []] } }, { req := sreq, seq := 0, slot := 2 }, [.sys 1 [] []], by decide⟩
theorem wit_SealCommandsComplete_3 : ∃ (s : State) (hi : Word), (s.hw.sys.d3hot = false) ∧ (s.hw.domUp .seal = true) ∧ ((let v := hi.toNat * 4294967296 + (s.hw.stageGet 0xA00408 (lo32 s.hw.sealU.ack)).toNat; s.hw.sealU.ack ≤ v ∧ v ≤ s.hw.sealU.next)) :=
  ⟨st { up with sealU := { next := 5, ack := 2 } }, 0, by decide⟩
theorem wit_SealCommandsComplete_4 : ∃ (s : State) (q : Fin 8) (v : Word), (s.hw.sys.d3hot = false) ∧ (s.hw.domUp .seal = true) ∧ ((v - (s.hw.sealU.queues[q]).done).toNat ≤ 2 ^ (s.hw.sealU.queues[q]).log2) :=
  ⟨st up, 7, 1, by decide⟩
theorem wit_SealVerbsComplete_0 : ∃ (s : State) (ses : Fin 11) (n : Fin 8) (x : String) (alg : String) (e : Nat), (Ready s ses 3) ∧ ((s.hw.mywi.sess[ses]).txn = none) ∧ (argNat 0 7 x = .ok n.val) ∧ (formCode "seal" ["key", "gen", x, alg] = 0) ∧ (e = (if alg = "es256" then 0 else 1)) ∧ ((s.hw.sealU.keys[n]).st = .empty) ∧ (s.hw.freeSlots ≠ 0) :=
  ⟨st cust, 0, 2, "2", "es256", 0, by decide⟩
theorem wit_SealVerbsComplete_1 : ∃ (s : State) (ses : Fin 11) (n : Fin 8) (x : String), (Ready s ses 3) ∧ ((s.hw.mywi.sess[ses]).txn = none) ∧ (argNat 0 7 x = .ok n.val) ∧ (((s.hw.sealU.keys[n]).st = .ready ∨ (s.hw.sealU.keys[n]).st = .retired)) ∧ (s.hw.freeSlots ≠ 0) :=
  ⟨st (skey cust { st := .ready, alg := 1, key := 5 }), 0, 2, "2", by decide⟩
theorem wit_SealVerbsComplete_2 : ∃ (s : State) (ses : Fin 11) (n : Fin 8) (x : String), (Ready s ses 3) ∧ ((s.hw.mywi.sess[ses]).txn = none) ∧ (argNat 0 7 x = .ok n.val) ∧ ((s.hw.sealU.keys[n]).st = .active) ∧ (s.hw.freeSlots ≠ 0) :=
  ⟨st (skey cust kslot), 0, 2, "2", by decide⟩
theorem wit_SealVerbsComplete_3 : ∃ (s : State) (ses : Fin 11) (n : Fin 8) (x : String), (Ready s ses 3) ∧ ((s.hw.mywi.sess[ses]).txn = none) ∧ (argNat 0 7 x = .ok n.val) ∧ (((s.hw.sealU.keys[n]).st = .ready ∨ (s.hw.sealU.keys[n]).st = .retired)) ∧ (s.hw.freeSlots ≠ 0) :=
  ⟨st (skey cust { st := .retired, alg := 1, key := 5 }), 0, 2, "2", by decide⟩
theorem wit_SealVerbsComplete_4 : ∃ (s : State) (ses : Fin 11) (x : String) (v : Nat), (Ready s ses 3) ∧ ((s.hw.mywi.sess[ses]).txn = none) ∧ (argNat 0 18446744073709551615 x = .ok v) ∧ (s.hw.sealU.rel ≤ v) ∧ (v ≤ s.hw.sealU.ack) ∧ (s.hw.freeSlots ≠ 0) :=
  ⟨st { cust with sealU := { next := 9, ack := 7, rel := 3 } }, 0, "7", 7, by decide⟩

end Serving

/-! ## Witnesses: Networks -/

namespace Networks

def lk (l : LatLink) : Hw := { up with wave := { isl := Vector.replicate 48 { anchored := true, measured := true } }, sett := { mywi := [(⟨.latEnable, 0, 0⟩, .nat 1), (⟨.latLEnable, 1, 0⟩, .nat 1)] }, lat := { link := Vector.replicate 4 l } }
def lframe (type node : Nat) (n : Nat) : List Byte := [1, BitVec.ofNat 8 type, 0, 0, 0, 9, 0, 0] ++ beBytes 8 node ++ List.replicate (n - 16) 0
def notMe : Nat := if nodeId = 5 then 6 else 5
def dkH (d : DkSt) : Hw := { up with wave := { isl := Vector.replicate 48 { anchored := true, measured := true } }, time := { up.time with trust := .locked }, deck := { dk := Vector.replicate 2 d } }
def dkf (dst src type : Nat) (p : List Byte) : List Byte := (let b := [BitVec.ofNat 8 dst, BitVec.ofNat 8 src, BitVec.ofNat 8 type, 7] ++ beBytes 2 p.length ++ p; b ++ leBytes 4 (crc32c b).toNat)
def mem3 : DkMember := { addr := 3, mid := 33, maxRate := 2 }
def qresp : SealReply := { src := .deck 1 3 33, status := 0, trust := 0 }
theorem lframe_node (t v n : Nat) (h : v < 256 ^ 8) : beAt (lframe t v n) 8 8 = v := by
  have e : (lframe t v n).drop 8 = beBytes 8 v ++ List.replicate (n - 16) 0 := by simp [lframe]
  rw [beAt, e, List.take_left' (beBytes_length 8 v), beNat_beBytes, Nat.mod_eq_of_lt h]
theorem r1 : LatHeard (st (lk { lock := true })).hw 1 1 28 (lframe 1 nodeId 28) := by
  refine ⟨by decide, rfl, rfl, ?_⟩
  simp [lframe, beBytes_length]
theorem wit_LatticeReceptionsComplete_0 : ∃ (s : State) (n : Fin 4) (f : List Byte), (LatHeard s.hw n 1 28 f) ∧ (beAt f 8 8 ≠ nodeId) ∧ ((s.hw.lat.link[n]).peer = none) ∧ ((s.hw.lat.link[n]).twoWay = false) := by
  by_cases h : nodeId = 5
  · exact ⟨st (lk { lock := true }), 1, lframe 1 6 28, by decide, by rw [h]; decide, by decide⟩
  · exact ⟨st (lk { lock := true }), 1, lframe 1 5 28, by decide, fun e => h (e.symm.trans (by decide)), by decide⟩
theorem wit_LatticeReceptionsComplete_1 : ∃ (s : State) (n : Fin 4) (f : List Byte), (LatHeard s.hw n 1 28 f) ∧ (beAt f 8 8 = nodeId) :=
  ⟨st (lk { lock := true }), 1, lframe 1 nodeId 28, r1, lframe_node _ _ _ nodeId_lt⟩
theorem beBytes_eight (v : Nat) : ∃ a b c d e f g h : Byte, beBytes 8 v = [a, b, c, d, e, f, g, h] :=
  ⟨_, _, _, _, _, _, _, _, rfl⟩
theorem own_good (v : Nat) : DkHeard (st (dkH { role := 2, synced := true, cid := some 5 })).hw 1 3 (dkf 63 0 3 (beBytes 8 v ++ [3, 0, 0, 0])) := by
  obtain ⟨a, b, c, d, e, f, g, h, h1⟩ := beBytes_eight v
  rw [h1]
  refine ⟨by decide, by decide, ?_, .inl rfl, rfl⟩
  simp only [dkf, List.cons_append, List.nil_append, List.length_cons, List.length_nil, beBytes]
  simp [dkGood, beAt, beNat, dkType, dkBodyOk, leBytes_length]
theorem own_payload (v : Nat) : dkPayload (dkf 63 0 3 (beBytes 8 v ++ [3, 0, 0, 0])) = beBytes 8 v ++ [3, 0, 0, 0] := by
  obtain ⟨a, b, c, d, e, f, g, h, h1⟩ := beBytes_eight v
  rw [h1]
  simp [dkPayload, dkf, beAt, beNat, beBytes, leBytes_length]
theorem wit_DecklineEventsComplete_7 : ∃ (s : State) (n : Fin 2) (f : List Byte), (DkHeard s.hw n 3 f) ∧ ((s.hw.dk n).role = 2) ∧ (beNat ((dkPayload f).take 8) = nodeId) ∧ ((s.hw.dk n).synced = true) ∧ (((dkPayload f).getD 9 0).toNat = 0) := by
  refine ⟨st (dkH { role := 2, synced := true, cid := some 5 }), 1, dkf 63 0 3 (beBytes 8 nodeId ++ [3, 0, 0, 0]), own_good nodeId, rfl, ?_, rfl, ?_⟩
  · rw [own_payload, List.take_left' (beBytes_length 8 nodeId), beNat_beBytes, Nat.mod_eq_of_lt nodeId_lt]
  · rw [own_payload]
    obtain ⟨a, b, c, d, e, f, g, h, h1⟩ := beBytes_eight nodeId
    rw [h1]; rfl
set_option maxRecDepth 100000 in
theorem wit_DecklineEventsComplete_0 : ∃ (s : State) (n : Fin 2) (f : List Byte) (rate : Fin 3) (sub : Nat), (DkHeard s.hw n 1 f) ∧ (s.hw.time.clockOn = true) ∧ ((s.hw.dk n).role = 1) ∧ (beNat ((dkPayload f).take 8) ≠ nodeId) := by
  by_cases h : nodeId = 5
  · exact ⟨st (dkH { role := 1 }), 1, dkf 63 0 1 (beBytes 8 6 ++ List.replicate 36 0), 2, 5, by decide +kernel, rfl, rfl, by rw [h]; decide⟩
  · exact ⟨st (dkH { role := 1 }), 1, dkf 63 0 1 (beBytes 8 5 ++ List.replicate 36 0), 2, 5, by decide +kernel, rfl, rfl, fun e => h (e.symm.trans (by decide))⟩
set_option maxRecDepth 100000 in
theorem wit_DecklineEventsComplete_1 : ∃ (s : State) (n : Fin 2) (f : List Byte) (rate : Fin 3) (sub : Nat), (DkHeard s.hw n 1 f) ∧ (s.hw.time.clockOn = true) ∧ ((s.hw.dk n).role = 2) ∧ (((s.hw.dk n).joined = false ∨ (s.hw.dk n).cid = some (beNat ((dkPayload f).take 8)))) :=
  ⟨st (dkH { role := 2 }), 1, dkf 63 0 1 (beBytes 8 5 ++ List.replicate 36 0), 1, 5, by decide +kernel⟩
set_option maxRecDepth 100000 in
theorem wit_DecklineSealCommandsComplete_0 : ∃ (s : State) (n : Fin 2) (f : List Byte) (sub : Nat) (m : DkMember), (DkHeard s.hw n 32 f) ∧ ((s.hw.dk n).role = 1) ∧ ((s.hw.dk n).at_ (dkSrc f) = some m) ∧ (s.hw.domUp .seal = true) ∧ ((s.hw.sealBucket n (dkSrc f)).1 = none) ∧ (crpFormOk (dkPayload f) = true) ∧ ((dkPayload f).length = 56) ∧ (((dkPayload f).getD 2 0).toNat % 2 = 0) ∧ (s.hw.sealU.busy = false) ∧ (s.hw.poolFull = false) ∧ ((s.hw.sampleIn (dkIsland n) sub).bad = false) ∧ ((s.hw.sampleIn (dkIsland n) sub).signOk = true) :=
  ⟨st (dkH { role := 1, roster := [mem3] }), 1, dkf 0 3 32 ([1, 1, 0, 0] ++ List.replicate 52 0), 5, mem3, by decide +kernel⟩
theorem wit_LatticeSendsComplete_0 : ∃ (s : State) (n : Fin 4), (s.hw.sys.released = true) ∧ (s.hw.latAlive n = true) ∧ (s.hw.latVia n = none) :=
  ⟨st (lk { lock := true }), 1, by decide⟩
theorem wit_LatticeSendsComplete_1 : ∃ (s : State) (n : Fin 4), (s.hw.latAlive n = true) ∧ (s.hw.latReady n = true) ∧ (s.hw.latVia n = none) :=
  ⟨st (lk { lock := true, st := .ready }), 1, by decide⟩
theorem wit_LatticeSendsComplete_2 : ∃ (s : State) (n : Fin 4), (s.hw.time.clockOn = true) ∧ (s.hw.latAlive n = true) ∧ ((s.hw.lat.link[n]).twoWay = true) ∧ (s.hw.exchangeAt < s.hw.time.axis + auPerTick) ∧ (s.hw.latVia n = none) :=
  ⟨st (lk { lock := true, st := .up }), 1, by decide⟩
theorem wit_LatticeSendsComplete_3 : ∃ (s : State) (n : Fin 4), (s.hw.time.clockOn = true) ∧ (s.hw.latAlive n = true) ∧ ((s.hw.lat.link[n]).twoWay = true) ∧ (s.hw.exchangeAt < s.hw.time.axis + auPerTick) :=
  ⟨st (lk { lock := true, st := .up }), 1, by decide⟩
theorem wit_LatticeReceptionsComplete_2 : ∃ (s : State) (n : Fin 4) (f : List Byte), (LatHeard s.hw n 2 (56 + 16 * beAt f 52 1) f) ∧ (s.hw.fromPeer n f = true) ∧ (s.hw.latReady n = true) :=
  ⟨st (lk { lock := true, st := .ready, peer := some 5 }), 1, lframe 2 5 56, by decide⟩
theorem wit_LatticeReceptionsComplete_3 : ∃ (s : State) (n : Fin 4) (f : List Byte) (sub : Nat), (LatHeard s.hw n 3 56 f) ∧ (s.hw.fromPeer n f = true) ∧ (s.hw.time.clockOn = true) :=
  ⟨st (lk { lock := true, st := .up, peer := some 5 }), 1, lframe 3 5 56, 12, by decide⟩
theorem wit_LatticeReceptionsComplete_4 : ∃ (s : State) (n : Fin 4) (f : List Byte), (LatHeard s.hw n 4 20 f) ∧ (s.hw.fromPeer n f = true) :=
  ⟨st (lk { lock := true, st := .up, peer := some 5 }), 1, lframe 4 5 20, by decide⟩
theorem wit_LatticeEventsComplete_0 : ∃ (s : State) (n : Fin 4) (t : Nat), ((s.hw.lat.link[n]).st ≠ .down) ∧ ((s.hw.lat.link[n]).helloAt = some t) ∧ (s.hw.passed t 375000000000 = true) :=
  ⟨st (lk { st := .up, helloAt := some 0, peer := some 5 }), 1, 0, by decide⟩
theorem wit_LatticeEventsComplete_1 : ∃ (s : State) (n : Fin 4) (phase : Nat), (s.hw.latOn n = true) ∧ (s.hw.latVia n = none) ∧ ((s.hw.lat.link[n]).st = .down) :=
  ⟨st (lk {}), 1, 5, by decide⟩
theorem wit_LatticeEventsComplete_2 : ∃ (s : State) (n : Fin 4) (phase : Nat), (s.hw.latOn n = true) ∧ (s.hw.latVia n = none) :=
  ⟨st (lk { lock := true, st := .ready }), 1, 5, by decide⟩
theorem wit_LatticeEventsComplete_3 : ∃ (s : State) (n : Fin 4) (r : Int), (s.hw.islandOk (latIsland n) = true) ∧ ((s.hw.lat.link[n]).st = .up) :=
  ⟨st (lk { lock := true, st := .up }), 1, -7, by decide⟩
theorem wit_LatticeEventsComplete_4 : ∃ (s : State) (n : Fin 4), ((s.hw.lat.link[n]).st = .ready) :=
  ⟨st (lk { lock := true, st := .ready, merge := [1] }), 1, by decide⟩
theorem wit_LatticeEventsComplete_5 : ∃ (s : State), (s.hw.sys.released = true) ∧ (s.hw.domUp .lat = true) ∧ (s.hw.effB .latEnable = true) :=
  ⟨st (lk {}), by decide⟩
theorem wit_LatticeEventsComplete_6 : ∃ (s : State) (n : Fin 4) (a : LatAnn), ((s.hw.lat.link[n]).ann = some a) ∧ (s.hw.latReady n = true) ∧ (16 ≤ (s.hw.lat.link[n]).merge.length) ∧ (a.claim.node ≠ s.hw.lat.root.node) ∧ ((s.hw.lat.link[n]).st = .ready) ∧ ((s.hw.lat.link[n]).mergeOk ≠ some a.claim.node) :=
  ⟨st (lk { lock := true, st := .ready, ann := some ⟨{ node := 9 }, 1, 1, 5, 2, false, 50⟩, merge := List.replicate 16 5000 }), 1, ⟨{ node := 9 }, 1, 1, 5, 2, false, 50⟩, by decide⟩
theorem wit_LatticeEventsComplete_7 : ∃ (s : State), (s.hw.domUp .lat = true) ∧ (s.hw.lat.isRoot = true) ∧ (s.hw.lat.regAt = none) :=
  ⟨st { up with lat := { isRoot := true } }, by decide⟩
theorem wit_SuperframeCommandsComplete_0 : ∃ (s : State) (n : Fin 2) (ns : Nat), (s.hw.sys.released = true) ∧ (s.hw.time.clockOn = true) ∧ (s.hw.domUp .deck = true) ∧ (ceilDiv s.hw.time.axis (10 * auPerMs) * (10 * auPerMs) < s.hw.time.axis + auPerTick) ∧ (s.hw.effN .deckDkRole n = 1) ∧ ((s.hw.dk n).role = 1) ∧ ((s.hw.dk n).yielded = false) ∧ ((s.hw.dk n).notBefore ≤ ceilDiv s.hw.time.axis (10 * auPerMs) * (10 * auPerMs)) :=
  ⟨st { dkH { role := 1 } with sett := { mywi := [(⟨.deckDkRole, 0, 0⟩, .nat 1)] } }, 0, 77, by decide⟩
theorem wit_SuperframeCommandsComplete_1 : ∃ (s : State) (n : Fin 2) (e : Echo), (s.hw.sys.released = true) ∧ (s.hw.time.clockOn = true) ∧ (s.hw.domUp .deck = true) ∧ (ceilDiv s.hw.time.axis (10 * auPerMs) * (10 * auPerMs) < s.hw.time.axis + auPerTick) ∧ (s.hw.effN .deckDkRole n = 2) ∧ ((s.hw.dk n).role = 2) :=
  ⟨st { dkH { role := 2, idle := 4 } with sett := { mywi := [(⟨.deckDkRole, 0, 0⟩, .nat 2)] } }, 0, .late, by decide⟩
theorem wit_SuperframeCommandsComplete_2 : ∃ (s : State) (n : Fin 2) (echoes : List Echo) (a : Nat) (off : Nat) (len : Nat), (s.hw.domUp .deck = true) ∧ ((s.hw.dk n).beacon = true) ∧ (((s.hw.dk n).ownSlots.drop (s.hw.dk n).slotIdx).head? = some (a, off, len)) ∧ (a ≠ 0) :=
  ⟨st (dkH { role := 2, joined := true, addr := 3, beacon := true, plan := [(0, 50), (3, 40)] }), 1, [], 3, 620000000, 400000000, by decide⟩
theorem wit_SuperframeCommandsComplete_3 : ∃ (s : State) (n : Fin 2) (ns : Nat) (off : Nat) (len : Nat) (x : Nat × Nat × Nat) (l : List (Nat × Nat × Nat)), (s.hw.domUp .deck = true) ∧ ((s.hw.dk n).beacon = true) ∧ ((s.hw.dk n).role = 1) ∧ (((s.hw.dk n).ownSlots.drop (s.hw.dk n).slotIdx).head? = some (0, off, len)) ∧ ((s.hw.dk n).leavePend = none) ∧ ((s.hw.dk n).acks = x :: l) ∧ (airPs (s.hw.dk n).rate 12 + guardPs (s.hw.dk n).rate + (s.hw.dk n).slotUsed ≤ len) :=
  ⟨st (dkH { role := 1, beacon := true, plan := [(0, 50)], acks := [(33, 3, 0)] }), 1, 77, 120000000, 500000000, (33, 3, 0), [], by decide⟩
theorem wit_SuperframeCommandsComplete_4 : ∃ (s : State) (n : Fin 2) (ns : Nat), (s.hw.domUp .deck = true) ∧ ((s.hw.dk n).beacon = true) ∧ ((s.hw.dk n).role = 2) ∧ ((s.hw.dk n).joined = false) ∧ ((s.hw.dk n).synced = true) ∧ ((s.hw.dk n).rollcall = true) ∧ ((s.hw.dk n).joinWait = none) ∧ (openStart (s.hw.dk n).rate (s.hw.dk n).plan ≤ (s.hw.time.axis - (s.hw.dk n).start) / auPerPs) ∧ ((s.hw.time.axis - (s.hw.dk n).start) / auPerPs + airPs (s.hw.dk n).rate 10 + guardPs (s.hw.dk n).rate ≤ superPs) :=
  ⟨st (dkH { role := 2, beacon := true, synced := true, rollcall := true, start := 999 * auPerSec + 999 * auPerMs }), 1, 77, by decide⟩
theorem wit_SuperframeCommandsComplete_5 : ∃ (s : State) (n : Fin 2), ((s.hw.dk n).role = 1) ∧ ((s.hw.dk n).down = 0) ∧ (s.hw.dkMin n < (s.hw.dk n).rate) ∧ (7 ≤ (s.hw.dk n).qual) ∧ ((s.hw.dk n).upreq = false) ∧ ((s.hw.dk n).qualifies = true) :=
  ⟨st (dkH { role := 1, qual := 7, rate := 2 }), 1, by decide⟩
theorem wit_SuperframeCommandsComplete_6 : ∃ (s : State) (n : Fin 2) (v : Word), (s.hw.sys.d3hot = false) ∧ (s.hw.domUp .deck = true) ∧ ((v - (s.hw.dk n).txDone).toNat ≤ 2 ^ (s.hw.dk n).txLog) :=
  ⟨st (dkH { role := 1 }), 1, 1, by decide⟩
theorem wit_DecklineEventsComplete_2 : ∃ (s : State) (n : Fin 2), ((s.hw.dk n).role = 2) ∧ ((s.hw.dk n).cid.isSome = true) ∧ ((s.hw.dk n).missed < 2) :=
  ⟨st (dkH { role := 2, cid := some 5, missed := 1, joined := true }), 1, by decide⟩
theorem wit_DecklineEventsComplete_3 : ∃ (s : State) (n : Fin 2), ((s.hw.dk n).role = 2) ∧ ((s.hw.dk n).cid.isSome = true) ∧ (2 ≤ (s.hw.dk n).missed) ∧ ((s.hw.dk n).joined = true) :=
  ⟨st (dkH { role := 2, cid := some 5, missed := 2, joined := true }), 1, by decide⟩
theorem wit_DecklineEventsComplete_4 : ∃ (s : State) (n : Fin 2) (f : List Byte) (sub : Nat), (DkHeard s.hw n 4 f) ∧ ((s.hw.dk n).role = 1) ∧ (((s.hw.dk n).at_ (dkSrc f)).isSome = true) ∧ (dkUpreq f = false) :=
  ⟨st (dkH { role := 1, roster := [mem3] }), 1, dkf 0 3 4 [], 5, by decide⟩
theorem wit_DecklineEventsComplete_5 : ∃ (s : State) (n : Fin 2) (f : List Byte) (sub : Nat), (DkHeard s.hw n 16 f) ∧ ((s.hw.dk n).role = 2) ∧ ((s.hw.dk n).joined = true) ∧ ((s.hw.dk n).rxEn = true) ∧ (((s.hw.dk n).rxProd - (s.hw.dk n).rxCons).toNat < 2 ^ (s.hw.dk n).rxLog) :=
  ⟨st (dkH { role := 2, joined := true, addr := 3, rxEn := true, rxLog := 6 }), 1, dkf 3 0 16 [1, 2], 5, by decide⟩
theorem wit_DecklineEventsComplete_6 : ∃ (s : State) (n : Fin 2) (f : List Byte) (a : Nat), (DkHeard s.hw n 2 f) ∧ ((s.hw.dk n).role = 1) ∧ (dkSrc f = 63) ∧ ((s.hw.dk n).yielded = false) ∧ ((s.hw.dk n).giveAddr (beNat ((dkPayload f).take 8)) = some a) ∧ ((s.hw.dk n).of (beNat ((dkPayload f).take 8)) = none) :=
  ⟨st (dkH { role := 1 }), 1, dkf 0 63 2 (beBytes 8 33 ++ [2, 0]), 1, by decide⟩
theorem wit_DecklineEventsComplete_8 : ∃ (s : State) (n : Fin 2) (a : Nat) (m : DkMember), ((s.hw.dk n).role = 1) ∧ ((s.hw.dk n).at_ a = some m) ∧ (50 ≤ m.silent) :=
  ⟨st (dkH { role := 1, roster := [{ mem3 with silent := 50 }] }), 1, 3, { mem3 with silent := 50 }, by decide⟩
theorem wit_DecklineEventsComplete_10 : ∃ (s : State) (n : Fin 2) (f : List Byte) (m : DkMember), (DkHeard s.hw n 5 f) ∧ ((s.hw.dk n).role = 1) ∧ ((s.hw.dk n).at_ (dkSrc f) = some m) :=
  ⟨st (dkH { role := 1, roster := [mem3] }), 1, dkf 0 3 5 [0, 0, 0, 0], mem3, by decide⟩
theorem wit_DecklineEventsComplete_11 : ∃ (s : State) (n : Fin 2) (f : List Byte), (DkHeard s.hw n 5 f) ∧ ((s.hw.dk n).role = 2) ∧ (dkSrc f = 0) ∧ ((s.hw.dk n).joined = true) :=
  ⟨st (dkH { role := 2, joined := true, addr := 3 }), 1, dkf 63 0 5 [0, 0, 0, 0], by decide⟩
theorem wit_DecklineEventsComplete_12 : ∃ (s : State) (n : Fin 2), ((s.hw.dk n).role = 1) ∧ (3 ≤ (s.hw.dk n).foreignRun) :=
  ⟨st (dkH { role := 1, foreignRun := 3 }), 1, by decide⟩
theorem wit_DecklineEventsComplete_13 : ∃ (s : State) (n : Fin 2), (50 ≤ (s.hw.dk n).quietRun) ∧ ((s.hw.dk n).yielded = true) :=
  ⟨st (dkH { role := 1, quietRun := 50, yielded := true }), 1, by decide⟩
theorem wit_DecklineEventsComplete_14 : ∃ (s : State) (n : Fin 2), ((s.hw.dk n).role = 2) ∧ ((s.hw.dk n).joined = false) ∧ ((s.hw.dk n).searching = true) ∧ (s.hw.passed (s.hw.dk n).searchAt (s.hw.effN .deckDkSearch n) = true) :=
  ⟨st (dkH { role := 2, searching := true, searchAt := 0 }), 1, by decide⟩
theorem wit_DecklineSealCommandsComplete_1 : ∃ (s : State) (n : Fin 2) (ns : Nat) (a : Nat) (mid : Nat) (off : Nat) (len : Nat) (x : Nat) (y : Nat) (m : DkMember) (r : SealReply), (s.hw.sealU.deckOut.find? (fun r => r.forSeg n) = some r) ∧ (r.src = .deck x a mid) ∧ ((s.hw.dk n).at_ a = some m) ∧ (m.mid = mid) ∧ ((s.hw.dk n).ownSlots.head? = some (y, off, len)) ∧ (s.hw.domUp .deck = true) ∧ ((s.hw.dk n).beacon = true) ∧ ((s.hw.dk n).role = 1) ∧ ((s.hw.dk n).slotUsed + (airPs (s.hw.dk n).rate r.bytes.length + guardPs (s.hw.dk n).rate) ≤ len) :=
  ⟨st { dkH { role := 1, beacon := true, plan := [(0, 50)], roster := [mem3] } with sealU := { deckOut := [qresp] } }, 1, 77, 3, 33, 120000000, 500000000, 1, 0, mem3, qresp, by decide⟩

end Networks

/-! ## Witnesses: Ibex -/

namespace Ibex

def ib (w : Word) (c : HerdCh) : Hw := { up with wave := { isl := Vector.replicate 48 { anchored := true, measured := true } }, ibex := { store := [(7, w)], ch := Vector.replicate 32 { c with cfg0 := 0x0800_0000 ||| (7 <<< 18) ||| (5 <<< 9) ||| 5, pc := 7 } } }
def kd (c : KidLane) : Hw := { up with wave := { isl := Vector.replicate 48 { anchored := true, measured := true } }, ibex := { kid := Vector.replicate 8 { c with cfg0 := 0x8000_0000 } } }
theorem wit_HerdInstructionsComplete_0 : ∃ (s : State) (n : Fin 32) (pins : BitVec 48) (sub : Nat) (a : Fin 512), (AtTurn s.hw n (.br 0 a)) :=
  ⟨st (ib 0x0001FF {}), 31, 5, 9, 511, by decide⟩
theorem wit_HerdInstructionsComplete_1 : ∃ (s : State) (n : Fin 32) (pins : BitVec 48) (sub : Nat) (a : Fin 512), (AtTurn s.hw n (.br 4 a)) :=
  ⟨st (ib 0x002003 { x := 1 }), 31, 5, 9, 3, by decide⟩
theorem wit_HerdInstructionsComplete_2 : ∃ (s : State) (n : Fin 32) (pins : BitVec 48) (sub : Nat) (p : Bool) (x : Fin 64), (AtTurn s.hw n (.await 0 p x)) ∧ ((s.hw.ibex.ch[n]).reached = true) :=
  ⟨st (ib 0x100000 { reached := true }), 31, 5, 9, false, 0, by decide⟩
theorem wit_HerdInstructionsComplete_3 : ∃ (s : State) (n : Fin 32) (pins : BitVec 48) (sub : Nat) (p : Bool) (x : Fin 64), (AtTurn s.hw n (.await 2 p x)) :=
  ⟨st (ib 0x102802 {}), 31, 5, 9, true, 2, by decide⟩
theorem wit_HerdInstructionsComplete_4 : ∃ (s : State) (n : Fin 32) (pins : BitVec 48) (sub : Nat) (c : Fin 33), (AtTurn s.hw n (.shin 2 c)) ∧ ((s.hw.ibex.ch[n]).cfg2.getLsbD 19 = false) ∧ ((s.hw.ibex.ch[n]).cfg2.getLsbD 21 = false) :=
  ⟨st (ib 0x202020 { x := 0xDEADBEEF }), 31, 0, 0, 32, by decide⟩
theorem wit_HerdInstructionsComplete_5 : ∃ (s : State) (n : Fin 32) (pins : BitVec 48) (sub : Nat) (c : Fin 33), (AtTurn s.hw n (.shout 3 c)) ∧ ((s.hw.ibex.ch[n]).cfg2.getLsbD 20 = false) ∧ ((s.hw.ibex.ch[n]).cfg2.getLsbD 22 = true) :=
  ⟨st (ib 0x303008 { osr := 0xDEADBEEF, cfg2 := 0x400000 }), 31, 0, 0, 8, by decide⟩
theorem wit_HerdInstructionsComplete_6 : ∃ (s : State) (n : Fin 32) (pins : BitVec 48) (sub : Nat) (hold : Bool) (w : Word) (l : List Word), (AtTurn s.hw n (.fetch false hold)) ∧ ((s.hw.ibex.ch[n]).tx = w :: l) :=
  ⟨st (ib 0x402000 { tx := [3, 4] }), 31, 0, 0, true, 3, [4], by decide⟩
theorem wit_HerdInstructionsComplete_7 : ∃ (s : State) (n : Fin 32) (pins : BitVec 48) (sub : Nat) (hold : Bool), (AtTurn s.hw n (.post false hold)) ∧ ((s.hw.ibex.ch[n]).rx.length < 8) :=
  ⟨st (ib 0x502000 { isr := 9 }), 31, 0, 0, true, by decide⟩
theorem wit_HerdInstructionsComplete_8 : ∃ (s : State) (n : Fin 32) (pins : BitVec 48) (sub : Nat), (AtTurn s.hw n (.copy 0 1 3)) :=
  ⟨st (ib 0x600203 { x := 0xFFFFFFFF, y := 2 }), 31, 0, 0, by decide⟩
theorem wit_HerdInstructionsComplete_9 : ∃ (s : State) (n : Fin 32) (pins : BitVec 48) (sub : Nat) (v : Fin 256), (AtTurn s.hw n (.load 1 v)) :=
  ⟨st (ib 0x7010FF {}), 31, 0, 0, 255, by decide⟩
theorem wit_HerdInstructionsComplete_10 : ∃ (s : State) (n : Fin 32) (pins : BitVec 48) (sub : Nat) (w : Fin 4), (AtTurn s.hw n (.mark true w)) :=
  ⟨st (ib 0x807000 {}), 31, 0, 77, 3, by decide⟩
theorem wit_IbexHostCommandsComplete_0 : ∃ (s : State) (n : Fin 32) (v : Word), (HostMay s.hw n) ∧ ((s.hw.ibex.ch[n]).inj = none) :=
  ⟨st up, 31, 0x12345678, by decide⟩
theorem wit_IbexHostCommandsComplete_1 : ∃ (s : State) (n : Fin 32) (v : Word), (HostMay s.hw n) ∧ ((s.hw.ibex.ch[n]).tx.length < 8) :=
  ⟨st up, 31, 0x12345678, by decide⟩
theorem wit_IbexHostCommandsComplete_2 : ∃ (s : State) (n : Fin 32) (w : Word) (l : List Word), (s.hw.sys.d3hot = false) ∧ (s.hw.domUp .ibex = true) ∧ ((s.hw.ibex.ch[n]).rx = w :: l) :=
  ⟨st (ib 0 { rx := [5, 6] }), 31, 5, [6], by decide⟩
theorem wit_IbexHostCommandsComplete_3 : ∃ (s : State) (n : Fin 32), (HostMay s.hw n) :=
  ⟨st (ib 0 { rx := [5, 6], x := 4 }), 0, by decide⟩
theorem wit_IbexHostCommandsComplete_4 : ∃ (s : State) (n : Fin 32), (HostMay s.hw n) :=
  ⟨st (ib 0 { rx := [5, 6], x := 4 }), 31, by decide⟩
theorem wit_IbexHostCommandsComplete_5 : ∃ (s : State) (n : Fin 32) (j : Fin 3) (v : Word), (HostMay s.hw n) ∧ ((s.hw.ibex.ch[n]).en = false) ∧ ((let c := putCfg (s.hw.ibex.ch[n]).cfg0 (s.hw.ibex.ch[n]).cfg1 (s.hw.ibex.ch[n]).cfg2 j v; chCfgOk c.1 c.2.1 c.2.2 = true)) :=
  ⟨st up, 31, 2, 5, by decide⟩
theorem wit_IbexHostCommandsComplete_6 : ∃ (s : State) (n : Fin 8) (j : Fin 3) (v : Word), (s.hw.sys.d3hot = false) ∧ (s.hw.domUp .ibex = true) ∧ ((s.hw.ibex.kid[n]).en = false) ∧ ((let c := putCfg (s.hw.ibex.kid[n]).cfg0 (s.hw.ibex.kid[n]).cfg1 (s.hw.ibex.kid[n]).cfg2 j v; kidCfgOk c.1 c.2.1 c.2.2 = true)) :=
  ⟨st up, 7, 0, 5, by decide⟩
theorem wit_IbexHostCommandsComplete_7 : ∃ (s : State) (a : Fin 512) (v : Word), (MemOk s.hw) ∧ (s.hw.sys.d3hot = false) ∧ (s.hw.domUp .ibex = true) ∧ (s.hw.covered a = false) ∧ ((a.val < 472 ∨ s.hw.irigReserved = false)) :=
  ⟨st up, 511, 0x12345678, by decide⟩
theorem wit_IbexHostCommandsComplete_8 : ∃ (s : State) (k : Fin 8) (b : Bool), (s.hw.kidOn k = true) ∧ (((s.hw.ibex.kid[k]).sample b).2 = false) :=
  ⟨st (kd { pattern := 1, mask := 1, hold := 3 }), 7, true, by decide⟩
theorem wit_IbexHostCommandsComplete_9 : ∃ (s : State) (k : Fin 8) (b : Bool) (sub : Nat), (s.hw.kidOn k = true) ∧ (((s.hw.ibex.kid[k]).sample b).2 = true) ∧ ((s.hw.ibex.kid[k]).cfg1.getLsbD 9 = true) ∧ ((s.hw.ibex.kid[k]).cap.length < 16) :=
  ⟨st (kd { pattern := 1, mask := 1, cfg1 := 0x200 }), 7, true, 4, by decide⟩
theorem wit_IbexHostCommandsComplete_10 : ∃ (s : State) (k : Fin 8) (v : Word), (s.hw.sys.d3hot = false) ∧ (s.hw.domUp .ibex = true) :=
  ⟨st up, 7, 5, by decide⟩
theorem wit_IbexHostCommandsComplete_11 : ∃ (s : State) (k : Fin 8) (v : Word) (a : Word) (b : Word) (m : Word), (s.hw.sys.d3hot = false) ∧ (s.hw.domUp .ibex = true) ∧ ((s.hw.ibex.kid[k]).load.length < 4) ∧ ((s.hw.ibex.kid[k]).loadPart = [a, b, m]) :=
  ⟨st (kd { loadPart := [1, 2, 3], load := [(1, 2), (1, 2), (1, 2)] }), 7, 4, 1, 2, 3, by decide⟩
theorem wit_IbexHostCommandsComplete_12 : ∃ (s : State) (k : Fin 8) (r : List Word) (l : List (List Word)), (s.hw.sys.d3hot = false) ∧ (s.hw.domUp .ibex = true) ∧ ((s.hw.ibex.kid[k]).cap = r :: l) :=
  ⟨st (kd { cap := [[1, 2, 3, 4, 5, 6]] }), 7, [1, 2, 3, 4, 5, 6], [], by decide⟩

end Ibex

/-! ## Witnesses: Engines -/

namespace Engines

def dm (c : DmaCh) : Hw := { up with dma := { ch := up.dma.ch.set 3 c } }
def dgood : DmaCh := { src := 0x1000, dst := 0x2000, count := 32, cfg := 0x40 }
def rest (p : PwrSt → PwrSt) : Hw := { up with pwr := p up.pwr }
theorem wit_DmaCommandsComplete_0 : ∃ (s : State) (n : Fin 16), (DmaMay s.hw n) ∧ ((s.hw.dma.ch[n]).busy = false) ∧ ((s.hw.dma.ch[n]).check = true) ∧ (s.hw.evt.cnt[dmaStartTask n] = 0) :=
  ⟨st (dm dgood), 3, by decide⟩
theorem wit_DmaCommandsComplete_1 : ∃ (s : State) (n : Fin 16), (DmaMay s.hw n) ∧ ((s.hw.dma.ch[n]).busy = false) ∧ ((s.hw.dma.ch[n]).check = false) :=
  ⟨st (dm {}), 3, by decide⟩
theorem wit_DmaCommandsComplete_2 : ∃ (s : State) (n : Fin 16), (s.hw.domUp .keep = true) ∧ ((s.hw.dma.ch[n]).busy = false) ∧ ((s.hw.dma.ch[n]).check = true) ∧ (0 < s.hw.evt.cnt[dmaStartTask n]) :=
  ⟨st { dm dgood with evt := { cnt := Vector.replicate 96 2 } }, 3, by decide⟩
theorem wit_DmaCommandsComplete_3 : ∃ (s : State) (n : Fin 16), (DmaMay s.hw n) ∧ ((s.hw.dma.ch[n]).st = .pending) :=
  ⟨st (dm { dgood with st := .pending, wcount := 32 }), 3, by decide⟩
theorem wit_DmaCommandsComplete_4 : ∃ (s : State) (n : Fin 16), (DmaMay s.hw n) ∧ ((s.hw.dma.ch[n]).st = .pending) :=
  ⟨st (dm { dgood with st := .pending }), 3, by decide⟩
theorem wit_DmaCommandsComplete_5 : ∃ (s : State) (n : Fin 16), (DmaMay s.hw n) ∧ ((s.hw.dma.ch[n]).st = .paused) :=
  ⟨st (dm { dgood with st := .paused }), 3, by decide⟩
theorem wit_DmaCommandsComplete_6 : ∃ (s : State) (n : Fin 16), (MemOk s.hw) ∧ (s.hw.dmaGrant = some n) ∧ (OneUnit s.hw n) :=
  ⟨st { dm { dgood with st := .pending, wsrc := 0x1004, wdst := 0x2000, wcount := 8, cfg := 0xA0 } with store := [(0x1003, 7), (0x1004, 1), (0x100B, 9), (0x2003, 4)] }, 3, by decide⟩
theorem wit_DmaCommandsComplete_7 : ∃ (s : State) (n : Fin 16), ((s.hw.dma.ch[n]).issued = true) ∧ ((s.hw.dma.ch[n]).st = .moving) ∧ (s.hw.sys.uceWords = []) :=
  ⟨st (dm { dgood with st := .moving, issued := true, wcount := 32, done := 32 }), 3, by decide⟩
theorem wit_DmaCommandsComplete_8 : ∃ (s : State) (n : Fin 16) (v : Word), (DmaMay s.hw n) ∧ (((s.hw.dma.ch[n]).ring = 1 → (if (s.hw.dma.ch[n]).dstRing then ((s.hw.dma.ch[n]).eng - v).toNat else (v - (s.hw.dma.ch[n]).eng).toNat) ≤ (if (s.hw.dma.ch[n]).busy then (s.hw.dma.ch[n]).wcount else (s.hw.dma.ch[n]).count))) :=
  ⟨st (dm { dgood with cfg := 0x1040, eng := 5 }), 3, 5, by decide⟩
theorem wit_EventAndTallyCommandsComplete_0 : ∃ (s : State) (e : Nat) (l : List Nat) (t : Fin 96), (s.hw.evt.raised = e :: l) ∧ (s.hw.domUp .keep = true) ∧ (s.hw.pwr.st ≠ .graze) ∧ (56 ≤ t.val) ∧ (t.val < 64) ∧ (s.hw.evt.src[t] = [e]) ∧ (s.hw.evt.cnt[t] < 15) :=
  ⟨st { up with evt := { raised := [5, 9], src := (Vector.replicate 96 []).set 60 [5], cnt := Vector.replicate 96 14 } }, 5, [9], 60, by decide⟩
theorem wit_EventAndTallyCommandsComplete_1 : ∃ (s : State) (v : Word), (s.hw.sys.d3hot = false) ∧ (s.hw.domUp .keep = true) :=
  ⟨st { up with evt := { raised := [5] } }, 0x1FF, by decide⟩
theorem wit_EventAndTallyCommandsComplete_2 : ∃ (s : State) (t : Fin 96), (s.hw.sys.d3hot = false) ∧ (s.hw.domUp .keep = true) ∧ (countingTask t = false) :=
  ⟨st up, 95, by decide⟩
theorem wit_EventAndTallyCommandsComplete_3 : ∃ (s : State) (v : Word), (s.hw.sys.d3hot = false) ∧ (s.hw.domUp .keep = true) ∧ ((s.hw.tally.free = true ∨ (s.hw.tally.eng - v).toNat ≤ s.hw.tally.size)) :=
  ⟨st { up with tally := { log2 := 8, eng := 300 } }, 44, by decide⟩
theorem wit_EventAndTallyCommandsComplete_4 : ∃ (s : State) (outer : List (Fin 18 × Nat × Nat)) (i : Nat) (ms : Nat), (s.hw.time.clockOn = true) ∧ (s.hw.tallyInstant = some (i, ms)) ∧ (s.hw.tallySkips i = true) :=
  ⟨st { up with tally := { enable := true } }, [], 1000 * auPerSec, 100, by decide⟩
theorem wit_EventAndTallyCommandsComplete_5 : ∃ (s : State) (outer : List (Fin 18 × Nat × Nat)) (i : Nat) (ms : Nat), (s.hw.time.clockOn = true) ∧ (s.hw.tallyInstant = some (i, ms)) ∧ (s.hw.tallySkips i = false) ∧ ((s.hw.tally.free = true ∨ s.hw.tally.level < s.hw.tally.size)) :=
  ⟨st { up with tally := { enable := true, log2 := 8, eng := 255 } }, [], 1000 * auPerSec, 100, by decide⟩
theorem wit_EventAndTallyCommandsComplete_6 : ∃ (s : State) (u : Fin 18) (j : Fin 8) (w : Nat), ((s.hw.tally.u[u]).run = true) ∧ (outerCode u (s.hw.tally.u[u]).sel[j] = true) ∧ ((s.hw.tally.u[u]).counts j (s.hw.tally.u[u]).sel[j] = true) ∧ (w ≤ 65535) ∧ ((s.hw.tally.u[u]).wraps j w = true) :=
  ⟨st { up with tally := { u := Vector.replicate 18 { run := true, sel := Vector.replicate 8 11, c := Vector.replicate 8 4294967295 } } }, 1, 7, 1, by decide⟩
theorem wit_RegisterAccessesComplete_0 : ∃ (s : State) (off : Nat) (v : Word), (MemOk s.hw) ∧ (0x2000000 ≤ off) ∧ (off < 0x2200000) ∧ (off % 4 = 0) ∧ (s.hw.sys.d3hot = false) ∧ (s.hw.domUp .keep = true) :=
  ⟨st up, 0x21FFFFC, 0x12345678, by decide⟩
theorem wit_RegisterAccessesComplete_1 : ∃ (s : State) (off : Nat) (v : Word) (src : Fin 28), (s.hw.sys.d3hot = false) ∧ (evtSource off = some src) ∧ (src ≠ 16) ∧ (src ≠ 25) ∧ (s.hw.bar0Isolated off = false) ∧ ((∀ u, s.hw.tally.u[(u : Fin 18)].run = false)) :=
  ⟨st { up with note := { evt := Vector.replicate 28 0xFF }, tally := {} }, 0x1C, 0x3, 0, by decide⟩
theorem wit_RegisterAccessesComplete_2 : ∃ (s : State) (q : Fin 8) (v : Word), (s.hw.sys.d3hot = false) ∧ (s.hw.domUp .seal = true) :=
  ⟨st up, 7, 0x8, by decide⟩
theorem wit_RegisterAccessesComplete_3 : ∃ (s : State) (off : Nat) (w : Wide), (s.hw.sys.d3hot = false) ∧ (off < bar0Size) ∧ (off % 4 = 0) ∧ (s.hw.bar0Isolated off = false) ∧ (s.hw.actRead off = none) ∧ ((s.hw.tcount 17 1).wideAt off = some w) ∧ (off = w.base) :=
  ⟨st up, 0xA00100, { base := 0xA00100, words := 2, val := 0 }, by decide⟩
theorem wit_RegisterAccessesComplete_4 : ∃ (s : State), (s.hw.sys.d3hot = false) ∧ (s.hw.domUp .keep = true) :=
  ⟨st { up with mywi := { up.mywi with lines := 9 } }, by decide⟩
theorem wit_RegisterAccessesComplete_5 : ∃ (s : State) (j : Fin 10), (s.hw.sys.d3hot = false) ∧ (s.hw.domUp .seal = true) :=
  ⟨st { up with sealU := { cnt := Vector.replicate 10 7 } }, 9, by decide⟩
theorem wit_PowerStateCommandsComplete_0 : ∃ (s : State), (s.hw.pwr.entering = none) ∧ (s.hw.sleepCond = true) ∧ (s.hw.passedO s.hw.pwr.idleAt (s.hw.effN .pwrIdle) = true) ∧ (s.hw.effN .pwrSleep ≠ 1) ∧ (s.hw.sealPending = 0) ∧ (s.hw.pwr.point = 0) :=
  ⟨st { rest (fun p => { p with idleAt := some 0, calibrated := true }) with sys := { up.sys with runMode := 3, mapped := Vector.replicate 8 (some (1, 0)) }, sett := { mywi := [(⟨.pwrGrazeEnable, 0, 0⟩, .nat 1), (⟨.deckDkRole, 0, 0⟩, .nat 0), (⟨.deckDkRole, 1, 0⟩, .nat 0)] } }, by decide⟩
theorem wit_PowerStateCommandsComplete_1 : ∃ (s : State), (s.hw.pwr.entering = some .graze) ∧ (s.hw.pwr.point = 1) ∧ (s.hw.pwr.wakePend = none) :=
  ⟨st (rest (fun p => { p with entering := some .graze, point := 1 })), by decide⟩
theorem wit_PowerStateCommandsComplete_2 : ∃ (s : State) (d : Fin 10), (s.hw.awake = true) ∧ (s.hw.sys.done = true) ∧ (s.hw.sys.restart = none) ∧ (s.hw.domUp (domainOf d) = true) ∧ (s.hw.held (domainOf d) = false) :=
  ⟨st up, 8, by decide⟩
theorem wit_PowerStateCommandsComplete_3 : ∃ (s : State) (d : Fin 10), (s.hw.pwr.dom[(domainOf d).idx] = .starting false) ∧ (domainOf d ≠ .keep) ∧ (domainOf d ≠ .ref) :=
  ⟨st (rest (fun p => { p with dom := Vector.replicate 10 (.starting false) })), 6, by decide⟩
theorem wit_PowerStateCommandsComplete_4 : ∃ (s : State) (d : Fin 10), (s.hw.pwr.dom[(domainOf d).idx] = .starting false) :=
  ⟨st (rest (fun p => { p with dom := Vector.replicate 10 (.starting false) })), 6, by decide⟩
theorem wit_PowerStateCommandsComplete_5 : ∃ (s : State) (q : RailReq) (r : List RailReq), (s.hw.pwr.retry = false) ∧ (s.hw.pwr.reqs = q :: r) ∧ (s.hw.pwr.entering = none) :=
  ⟨st (rest (fun p => { p with reqs := [⟨3, false⟩, ⟨2, true⟩] })), ⟨3, false⟩, [⟨2, true⟩], by decide⟩
theorem wit_PowerStateCommandsComplete_6 : ∃ (s : State) (q : RailReq), (s.hw.pwr.retry = false) ∧ (s.hw.pwr.reqs = [q]) ∧ (s.hw.pwr.entering = some .graze) ∧ (s.hw.pwr.point = 4) ∧ (s.hw.pwr.wakePend = none) :=
  ⟨st (rest (fun p => { p with reqs := [⟨3, false⟩], entering := some .graze, point := 4 })), ⟨3, false⟩, by decide⟩
theorem wit_PowerStateCommandsComplete_7 : ∃ (s : State), (s.hw.pwr.entering = some .graze) ∧ (s.hw.pwr.point = 4) ∧ (s.hw.pwr.reqs ≠ []) :=
  ⟨st (rest (fun p => { p with reqs := [⟨3, false⟩], entering := some .graze, point := 4 })), by decide⟩
theorem wit_PowerStateCommandsComplete_8 : ∃ (s : State) (q : RailReq) (r : List RailReq), (s.hw.pwr.returning = true) ∧ (s.hw.pwr.retry = true) ∧ (s.hw.pwr.reqs = q :: r) ∧ (s.hw.pwr.entering = none) :=
  ⟨st (rest (fun p => { p with reqs := [⟨3, true⟩], returning := true, retry := true })), ⟨3, true⟩, [], by decide⟩
theorem wit_PowerStateCommandsComplete_9 : ∃ (s : State), (s.hw.pwr.returning = true) ∧ (s.hw.pwr.retry = true) :=
  ⟨st (rest (fun p => { p with returning := true, retry := true })), by decide⟩
theorem wit_WakeCommandsComplete_0 : ∃ (s : State) (fx : Int), (s.hw.sys.xo32Ok = true) ∧ (s.hw.time.clockOn = true) ∧ (s.hw.domUp .ref = true) ∧ (s.hw.passed 0 64000000000000 = true) :=
  ⟨st up, 77, by decide⟩
theorem wit_WakeCommandsComplete_1 : ∃ (s : State) (n : Fin 8) (p : Nat) (o : Nat) (d : Nat) (b : Nat) (temp : Int) (keepErr : Int) (fx : Int) (refSeen : Bool) (cmpHit : Bool), (s.hw.gstep n = some (p, o, d, b)) ∧ (s.hw.sys.done = true) ∧ (s.hw.awake = true) ∧ (s.hw.stepDue n = true) ∧ (s.hw.pwr.restAt = none) :=
  ⟨st { up with sett := { mywi := [(⟨.pwrGrazeStep, 2, 0⟩, .nats [10, 0, 100, 1])] } }, 2, 10, 0, 100, 1, 2500, 0, 0, false, false, by decide⟩
theorem wit_WakeCommandsComplete_2 : ∃ (s : State), (s.hw.sys.aonUp = true) ∧ (s.hw.sys.xo32Ok = true) ∧ (s.hw.pwr.restAt = none) :=
  ⟨st up, by decide⟩
theorem wit_WakeCommandsComplete_3 : ∃ (s : State) (t : Nat), (s.hw.pwr.timer = some t) ∧ (t ≤ s.hw.keeperNow) ∧ (s.hw.sys.done = true) ∧ (s.hw.awake = true) :=
  ⟨st (rest (fun p => { p with timer := some 7 })), 7, by decide⟩
theorem wit_WakeCommandsComplete_4 : ∃ (s : State) (low : Bool), (s.hw.sys.aonUp = true) ∧ (s.hw.sys.done = true) ∧ (s.hw.awake = true) :=
  ⟨st (rest (fun p => { p with idleAt := some 7 })), true, by decide⟩
theorem wit_WakeCommandsComplete_5 : ∃ (s : State) (c : Fin 9), ((c = 1 ∨ c = 2 ∨ c = 3 ∨ c = 4 ∨ c = 6 ∨ c = 7)) ∧ (s.hw.sys.done = true) ∧ (s.hw.pwr.entering = none) ∧ (s.hw.pwr.returning = false) ∧ (s.hw.pwr.st = .graze) :=
  ⟨st (rest (fun p => { p with st := .graze })), 1, by decide⟩
theorem wit_WakeCommandsComplete_6 : ∃ (s : State) (n : Fin 2), (s.hw.sys.done = true) ∧ (s.hw.pwr.entering = none) ∧ (s.hw.pwr.returning = false) ∧ (s.hw.pwr.st = .graze) ∧ ((s.hw.dk n).role = 2) :=
  ⟨st { rest (fun p => { p with st := .graze }) with deck := { dk := Vector.replicate 2 { role := 2 } } }, 1, by decide⟩
theorem wit_WakeCommandsComplete_7 : ∃ (s : State) (read : Bool), (s.hw.sys.aonUp = true) ∧ (s.hw.awake = true) :=
  ⟨st up, true, by decide⟩
theorem wit_WakeCommandsComplete_8 : ∃ (s : State) (b : Byte), (s.hw.pwr.wkRead = false) ∧ (s.hw.pwr.wkStretch = false) ∧ (s.hw.pwr.wk = 1) :=
  ⟨st (rest (fun p => { p with wk := 1 })), 0x5A, by decide⟩
theorem wit_WakeCommandsComplete_9 : ∃ (s : State), (s.hw.pwr.wkRead = true) ∧ (s.hw.pwr.wkStretch = false) ∧ (s.hw.pwr.wk = 1) :=
  ⟨st (rest (fun p => { p with wk := 1, wkRead := true })), by decide⟩

end Engines

/-! ## Witnesses: the machine as a whole -/

theorem wit_VerbsNeedTheirFormAndRole_0 : ∃ (c : Instr) (s : State) (ses : Fin 11) (v : String) (a : List String), c.verbOf = some (ses, v, a) ∧ s.hw.sesReady ses = true ∧ formCode v a ≠ 0 := ⟨.mywiShow 1 ["axis.time", "x"], st up, 1, _, _, rfl, by decide, by decide⟩
theorem wit_VerbsNeedTheirFormAndRole_1 : ∃ (c : Instr) (s : State) (ses : Fin 11) (v : String) (a : List String), c.verbOf = some (ses, v, a) ∧ s.hw.sesReady ses = true ∧ formCode v a = 0 ∧ v ≠ "auth" ∧ s.hw.role ses = 0 := ⟨.mywiShow 1 ["axis.time"], st up, 1, _, _, rfl, by decide, by decide, by decide, by decide⟩
theorem wit_VerbsNeedTheirFormAndRole_2 : ∃ (s : State) (ses : Fin 11) (p t : String) (x : Key), Ready s ses 1 ∧ formCode "set" [p, t] = 0 ∧
    (s.hw.lined ses).place ((s.hw.lined ses).inTxn ses) p = .leaf x ∧ x.p.row.canSet = true ∧ s.hw.role ses < x.p.row.role :=
  ⟨st (up.updSes 0 (fun x => { x with role := 2 })), 0, "axis.sign_limit", "5us", ⟨.axisSignLimit, 0, 0⟩, by decide⟩
theorem wit_EmptyLinesAreIgnored_0 : ∃ (s : State) (ses : Fin 11) (l r : List InItem), s.hw.sesReady ses = true ∧
    firstLine (s.hw.mywi.sess[ses]).inBuf = some (l, r) ∧ (∀ x ∈ l, x = .byte 0x20) :=
  ⟨st (up.updSes 0 (fun x => { x with inBuf := [.byte 0x20, .byte 0x20, .byte 0x0A, .byte 0x41] })), 0, [.byte 0x20, .byte 0x20], [.byte 0x41], by decide⟩
theorem wit_SmearWindowRefusesItsSettings_0 : ∃ (s : State) (ses : Fin 11) (x : PathId) (t : String) (v : SVal), (x = .utcSmear ∨ x = .utcSmearWindow) ∧
    Ready s ses x.row.role ∧ (s.hw.mywi.sess[ses]).txn = none ∧ s.hw.time.smear.isSome = true ∧
    parseValue x.row.vt t = .ok v ∧ s.hw.switchPending = false ∧ s.hw.inWindow ⟨x, 0, 0⟩ = false :=
  ⟨st { cust with time := { cust.time with smear := some 5 } }, 0, .utcSmearWindow, "7200s", .nat 7200000000000000, by decide⟩
theorem wit_RetainedBanksKeep6And7_0 : ∃ (s : State) (ses : Fin 11) (t : String) (l : List Nat), Ready s ses PathId.keepRetain.row.role ∧
    natList 0 15 t.toList = .ok l ∧ ¬ (6 ∈ l ∧ 7 ∈ l) := ⟨st cust, 0, "6,9", [6, 9], by decide⟩
theorem wit_EveryStepKeepsTheInvariant_0 : ∃ s t : State, Inv s ∧ step s = .next t := ⟨{ pending := [.coldReset] }, _, ⟨by intro c hc; simp at hc; subst hc; rfl, by decide⟩, rfl⟩
theorem wit_WaitingCommandsAllRun_0 : ∃ s : State, QueueOk s ∧ s.pending ≠ [] := ⟨{ pending := [.coldReset] }, by intro c hc; simp at hc; subst hc; rfl, by decide⟩
/-- What power-on leaves, tried out. -/
theorem test_reset : State.reset.pending = [] ∧ State.reset.hw.sys.aonUp = true ∧
  (∀ d : Fin 10, State.reset.hw.domUp (domainOf d) = decide (d = 0)) := by decide
theorem wit_StepTakesTheFront_1 : ∃ s : State, s.pending = [] := ⟨State.reset, rfl⟩
theorem wit_WellFormedCommandsComplete_0 : ∃ (c : Instr) (s : State), c.wf = true ∧ s.pending ≠ [] :=
  ⟨.registerWrite 0x3FFFFFC 5, { pending := [.coldReset] }, by decide, by decide⟩
theorem wit_OnlyAddressesOutsideTheBarsStop_0 : ∃ off : Nat, bar0Bytes ≤ off := ⟨bar0Bytes, Nat.le_refl _⟩
theorem wit_OnlyAddressesOutsideTheBarsStop_1 : ∃ (a n : Nat), storeBytes < a + n ∧ a < storeBytes :=
  ⟨storeBytes - 1, 2, by decide, by decide⟩
theorem wit_OnlyAddressesOutsideTheBarsStop_2 : ∃ (c : Instr) (s : State), exec c s = .fault .noSuchAddress :=
  ⟨.bar2Read storeBytes 1 [], State.reset, rfl⟩
theorem wit_TimekeepingCommandsFrame_0 : ∃ (c : Instr) (s t : State), c.family = .timekeeping ∧ exec c s = .next t :=
  ⟨.trustTick, st up, _, rfl, rfl⟩
theorem wit_ServingCommandsFrame_0 : ∃ (c : Instr) (s t : State), c.family = .serving ∧ exec c s = .next t :=
  ⟨.linkDown 1 2, st up, _, rfl, rfl⟩
theorem wit_NetworkCommandsFrame_0 : ∃ (c : Instr) (s t : State), c.family = .networks ∧ exec c s = .next t :=
  ⟨.latHelloSend 1, st up, _, rfl, rfl⟩
theorem wit_EngineCommandsFrame_0 : ∃ (c : Instr) (s t : State), c.family = .engines ∧ exec c s = .next t :=
  ⟨.dmaAbort 3, st up, _, rfl, rfl⟩
theorem wit_ConsoleCommandsFrame_0 : ∃ (c : Instr) (s t : State), c.family = .console ∧ exec c s = .next t :=
  ⟨.mywiShow 0 ["axis.time"], st up, _, rfl, rfl⟩
theorem wit_PowerCommandsFrame_0 : ∃ (c : Instr) (s t : State), c.family = .power ∧ s.hw.pwr.st ≠ .off ∧ exec c s = .next t :=
  ⟨.xo32Absent, st up, _, rfl, by decide, rfl⟩
theorem wit_UnitsKeepToThemselves_0 : ∃ (c : Instr) (s t : State) (n m : Fin 4), c.link = some n ∧ m ≠ n ∧ exec c s = .next t :=
  ⟨.latHelloSend 1, st up, _, 1, 3, rfl, by decide, rfl⟩
theorem wit_UnitsKeepToThemselves_1 : ∃ (c : Instr) (s t : State) (n m : Fin 2), c.segment = some n ∧ m ≠ n ∧ exec c s = .next t :=
  ⟨.beaconMissing 1, st up, _, 1, 0, rfl, by decide, rfl⟩
theorem wit_UnitsKeepToThemselves_2 : ∃ (c : Instr) (s t : State) (n m : Fin 4), c.portNo = some n ∧ m ≠ n ∧ exec c s = .next t :=
  ⟨.linkDown 1 2, st up, _, 1, 3, rfl, by decide, rfl⟩
theorem wit_UnitsKeepToThemselves_3 : ∃ (c : Instr) (s t : State) (n m : Fin 32), c.herdNo = some n ∧ m ≠ n ∧ exec c s = .next t :=
  ⟨.ibexFlush 4, st up, _, 4, 31, rfl, by decide, rfl⟩
theorem wit_UnitsKeepToThemselves_4 : ∃ (c : Instr) (s t : State) (n m : Fin 16), c.dmaNo = some n ∧ m ≠ n ∧ exec c s = .next t :=
  ⟨.dmaAbort 3, st up, _, 3, 15, rfl, by decide, rfl⟩

end Sys2Proof.Tests
end

section
/-!
PROOFS. How a line is answered (R140, R143, R144): what the answer leaves in the counter of lines and in the output of its
session; and R34, the smear settings refused while a smear window is in progress.
-/
set_option autoImplicit false

namespace Sys2Proof.Machine

/-! ## What an answer leaves in the counter of lines -/

@[simp] theorem Hw.putUnit_lines (h : Hw) (u : Fin 18) (y : TallyUnit) : (h.putUnit u y).mywi.lines = h.mywi.lines := by
  unfold Hw.putUnit
  dsimp only
  split
  · simp [Hw.notice, Hw.deliver]
  · rfl

@[simp] theorem Hw.tcount_lines (h : Hw) (u : Fin 18) (code w : Nat) : (h.tcount u code w).mywi.lines = h.mywi.lines := by
  unfold Hw.tcount
  dsimp only
  split
  · rfl
  · exact h.putUnit_lines u _

/-- A bit of GLOBAL_MBX_EVT changes no counter and no session. -/
@[simp] theorem Hw.setMbx_mywi (h : Hw) (b : Nat) :
    (h.setMbx b).mywi = { h.mywi with mbxEvt := h.mywi.mbxEvt ||| fld b 1 } := by
  unfold Hw.setMbx
  dsimp only
  split
  · simp
  · rfl

@[simp] theorem Hw.mbxPump_lines (h : Hw) (n : Nat) : (h.mbxPump n).mywi.lines = h.mywi.lines := by
  induction n generalizing h with
  | zero => rfl
  | succ n ih =>
    unfold Hw.mbxPump
    dsimp only
    split
    · rfl
    · rw [ih, Hw.tcount_lines, Hw.setMbx_mywi]
      rfl

@[simp] theorem Hw.pump_lines (h : Hw) (ses : Fin 11) : (h.pump ses).mywi.lines = h.mywi.lines := by
  unfold Hw.pump
  dsimp only
  split
  · rw [Hw.mbxPump_lines]
    rfl
  · rfl

/-- Counting a line counts one, and touches no session. -/
theorem Hw.countLine_counts (h : Hw) (code : Nat) :
    (h.countLine code).mywi.lines = incSat h.mywi.lines ∧ (h.countLine code).mywi.sess = h.mywi.sess := by
  unfold Hw.countLine
  dsimp only
  split <;> exact ⟨rfl, rfl⟩

theorem Hw.respond_lines (h : Hw) (ses : Fin 11) (tag : String) (body : List String) (code : Nat) :
    (h.respond ses tag body code).mywi.lines = incSat h.mywi.lines := by
  unfold Hw.respond
  rw [Hw.pump_lines]
  exact (h.countLine_counts code).1

/-! ## What an answer leaves in the output of its session -/

/-- Notices go behind what the output buffer holds. -/
theorem Session.sendNotices_out (s : Session) (ses : Nat) : ∃ rest, (s.sendNotices ses).out = s.out ++ rest := by
  unfold Session.sendNotices
  split
  · exact ⟨[], (List.append_nil _).symm⟩
  · exact ⟨_, by simp only [List.append_assoc]; rfl⟩

/-- The time of a session's last line has no part in what it sends. -/
theorem Session.answer_lastLine (s : Session) (up ses : Nat) (tag : String) (body : List String) (term : String) :
    ({ s with lastLine := up }.answer ses tag body term).out = (s.answer ses tag body term).out := by
  have hput : ∀ (f : String → String) (l : List String) (s : Session),
      l.foldl (fun (s : Session) x => s.put (s.sealLine ses (f x))) { s with lastLine := up } =
        { l.foldl (fun (s : Session) x => s.put (s.sealLine ses (f x))) s with lastLine := up } := by
    intro f l
    induction l with
    | nil => exact fun _ => rfl
    | cons x l ih => exact fun s => ih (s.put (s.sealLine ses (f x)))
  unfold Session.answer
  dsimp only
  rw [hput]
  rfl

/-- Outside the mailbox session, what waits leaves by way of the output buffer alone. -/
theorem Hw.pump_out (h : Hw) (ses : Fin 11) (hses : ses ≠ 2) :
    ∃ rest, ((h.pump ses).mywi.sess[ses]).out = (h.mywi.sess[ses]).out ++ rest := by
  unfold Hw.pump
  dsimp only
  rw [if_neg hses, Hw.updSes_at]
  split
  · exact Session.sendNotices_out _ _
  · exact ⟨[], (List.append_nil _).symm⟩

theorem Hw.respond_out (h : Hw) (ses : Fin 11) (tag : String) (body : List String) (code : Nat) (hses : ses ≠ 2) :
    ∃ rest, ((h.respond ses tag body code).mywi.sess[ses]).out =
      ((h.mywi.sess[ses]).answer ses.val tag body (terminal code)).out ++ rest := by
  obtain ⟨rest, hrest⟩ :=
    ((h.countLine code).updSes ses (fun s => s.answer ses.val tag body (terminal code))).pump_out ses hses
  rw [Hw.updSes_at, (h.countLine_counts code).2] at hrest
  exact ⟨rest, hrest⟩

/-- A response without a tag answers the line. -/
theorem Hw.respond_answered (h : Hw) (ses : Fin 11) (body : List String) (code : Nat) :
    Answered h (h.respond ses "" body code) ses body code :=
  ⟨h.respond_lines ses "" body code, h.respond_out ses "" body code⟩

/-! ## A whole line of one verb -/

/-- Noting the baud rate that follows leaves the counter of lines and the sessions. -/
theorem Hw.baudMark_keeps (old h : Hw) (ses : Fin 11) (tag : String) :
    (Hw.baudMark old h ses tag).mywi.lines = h.mywi.lines ∧ (Hw.baudMark old h ses tag).mywi.sess = h.mywi.sess := by
  unfold Hw.baudMark
  split
  · split <;> exact ⟨rfl, rfl⟩
  · exact ⟨rfl, rfl⟩

/-- `Answered` looks at the counter of lines and at the sessions only. -/
theorem Answered.congr {h k k' : Hw} {ses : Fin 11} {body : List String} {code : Nat} (hk : Answered h k ses body code)
    (hlines : k'.mywi.lines = k.mywi.lines) (hsess : k'.mywi.sess = k.mywi.sess) : Answered h k' ses body code := by
  unfold Answered
  rw [hlines, hsess]
  exact hk

/-- A line answered at once, with nothing to begin after it, is answered as its verb says. -/
theorem Hw.finish_answered (g : Hw) (ses : Fin 11) (a : Ans) (hwait : a.wait = false) (hafter : a.after = id) :
    Answered a.hw (g.finish ses "" a) ses a.body a.code := by
  obtain ⟨hlines, hsess⟩ := Hw.baudMark_keeps a.hw (a.hw.respond ses "" a.body a.code) ses ""
  have hans := (a.hw.respond_answered ses a.body a.code).congr hlines hsess
  unfold Hw.finish
  rw [hwait, hafter, if_neg (by decide)]
  dsimp only [id]
  split
  · exact hans.congr (by rw [Hw.setMbx_mywi]) (by rw [Hw.setMbx_mywi])
  · exact hans

/-- Such a line changes nothing beyond what its verb did but notices, Mywi and the Tally counters. -/
theorem Hw.finish_frame_of_now (g : Hw) (ses : Fin 11) (tag : String) (a : Ans) (hwait : a.wait = false)
    (hafter : a.after = id) : OnlyNoteMywiTally a.hw (g.finish ses tag a) := by
  unfold Hw.finish
  rw [hwait, hafter, if_neg (by decide)]
  dsimp only [id]
  split <;> simp [OnlyNoteMywiTally]

/-- Noting the time of the line has no part in its answer. -/
theorem Answered.of_lined {h k : Hw} {ses : Fin 11} {body : List String} {code : Nat}
    (hk : Answered (h.lined ses) k ses body code) : Answered h k ses body code := by
  obtain ⟨hlines, hout⟩ := hk
  refine ⟨hlines, fun hses => ?_⟩
  obtain ⟨rest, hrest⟩ := hout hses
  rw [Hw.lined, Hw.updSes_at, Session.answer_lastLine] at hrest
  exact ⟨rest, hrest⟩

/-- A line that a verb refuses: its code is answered, and the settings and the time stay. -/
theorem Hw.runVerb_refused (h : Hw) (ses : Fin 11) (verb : String) (args : List String) (code : Nat)
    (hready : h.sesReady ses = true) (hverb : (h.lined ses).verb ses verb args = (h.lined ses).no code) :
    (h.runVerb ses verb args).sett = h.sett ∧ (h.runVerb ses verb args).time = h.time ∧
      Answered h (h.runVerb ses verb args) ses [] code := by
  have hrun : h.runVerb ses verb args = (h.lined ses).finish ses "" ((h.lined ses).no code) := by
    rw [← hverb, Hw.runVerb, hready]
    rfl
  obtain ⟨htime, -, -, -, hsett, -⟩ := (h.lined ses).finish_frame_of_now ses "" ((h.lined ses).no code) rfl rfl
  have hans := (h.lined ses).finish_answered ses ((h.lined ses).no code) rfl rfl
  rw [hrun]
  exact ⟨hsett, htime, hans.of_lined⟩

/-! ## `set` outside a transaction -/

@[simp] theorem Hw.lined_role (h : Hw) (ses : Fin 11) : (h.lined ses).role ses = h.role ses := by
  unfold Hw.role Hw.lined
  rw [Hw.updSes_at]

@[simp] theorem Hw.lined_inTxn (h : Hw) (ses : Fin 11) : (h.lined ses).inTxn ses = h.inTxn ses := by
  unfold Hw.inTxn Hw.lined
  rw [Hw.updSes_at]

/-- A `set` in its form, by a session with a role, is executed. -/
theorem Hw.verb_set (h : Hw) (ses : Fin 11) (p t : String) (hform : pathForm p = true) (hrole : h.role ses ≠ 0) :
    h.verb ses "set" [p, t] = h.verbSet ses p t := by
  have hcode : formCode "set" [p, t] = 0 := by simp [formCode, hform]
  unfold Hw.verb
  simp only [hcode, hrole]
  rfl

/-- A well-formed `set` of a setting in a session without a transaction goes to the tests of its effect. -/
theorem Hw.verbSet_effect (h : Hw) (ses : Fin 11) (p t : String) (k : Key) (v : SVal)
    (hplace : h.place false p = .leaf k) (hset : k.p.row.canSet = true) (hrole : k.p.row.role ≤ h.role ses)
    (hparse : parseValue k.p.row.vt t = .ok v) (hmode : k.p ≠ .systemMode) (hses : isSession k.p = false)
    (htxn : h.inTxn ses = false) :
    h.verbSet ses p t = h.effectOf ses k v (!isAct k.p && decide (h.shown k = v)) := by
  simp [Hw.verbSet, htxn, hplace, hset, Hw.needs, Nat.not_lt.mpr hrole, hparse, hmode, hses]

/-- A value that breaks no constraint is refused with the code of the test of the state. -/
theorem Hw.effectOf_refused (h : Hw) (ses : Fin 11) (k : Key) (v : SVal) (same : Bool) (code : Nat)
    (hok : (h.overlay k v).violates k = false) (htest : h.stateTest k v = code) (hcode : code ≠ 0) :
    h.effectOf ses k v same = h.no code := by
  simp [Hw.effectOf, hok, htest, hcode]

/-! ## R34 -/

/-- The path of a smear setting. -/
def smearText (x : PathId) : String := if x = .utcSmear then "utc.smear" else "utc.smear.window"

section
variable {x : PathId} (hx : x = .utcSmear ∨ x = .utcSmearWindow)
include hx

theorem smearText_pathForm : pathForm (smearText x) = true := by
  rcases hx with rfl | rfl <;> decide

theorem findPath_smearText : findPath (smearText x) = some (some ⟨x, 0, 0⟩) := by
  rcases hx with rfl | rfl <;> decide

theorem smear_stem : stemOf x = "utc" := by
  rcases hx with rfl | rfl <;> rfl

theorem Hw.place_smear (h : Hw) : h.place false (smearText x) = .leaf ⟨x, 0, 0⟩ := by
  have hprov : h.provided ⟨x, 0, 0⟩ = true := by simp [Hw.provided, smear_stem hx]
  simp [Hw.place, findPath_smearText hx, hprov]

/-- No mode of Table 2.7 withholds a smear setting or a value of it. -/
theorem smear_not_withheld (mode : Nat) (v : SVal) :
    (withheldPath mode ⟨x, 0, 0⟩ || withheldVal mode ⟨x, 0, 0⟩ v) = false := by
  rcases hx with rfl | rfl <;> simp [withheldPath, withheldVal, stemOf, PathId.row, mkRow]

/-- A smear setting belongs to no block that can be reset (R98). -/
theorem Hw.smear_not_inReset (h : Hw) : h.keyInReset ⟨x, 0, 0⟩ = false := by
  have hibex : isIbex x = false := by rcases hx with rfl | rfl <;> decide
  unfold Hw.keyInReset
  rw [List.any_eq_false]
  intro b _
  cases b <;> simp [smear_stem hx, hibex]

/-- The test that refuses a smear setting: a smear window is in progress (R34). -/
theorem Hw.stateTest_smear (h : Hw) (v : SVal) (hsmear : h.time.smear.isSome = true) (hwin : h.inWindow ⟨x, 0, 0⟩ = false) :
    h.stateTest ⟨x, 0, 0⟩ v = 403 := by
  have hclass : x.row.cls ≠ .a := by rcases hx with rfl | rfl <;> decide
  unfold Hw.stateTest
  rw [smear_not_withheld hx, h.smear_not_inReset hx, hwin]
  rcases hx with rfl | rfl <;> simp [hclass, hsmear]

/-- No constraint of Table 23.5 involves a smear setting. -/
theorem Hw.smear_not_violates (h : Hw) : h.violates ⟨x, 0, 0⟩ = false := by
  rcases hx with rfl | rfl <;> rfl

/-- While a smear window is in progress, a `set` of a smear setting is refused with E403 (R34). -/
theorem Hw.verbSet_smear (h : Hw) (ses : Fin 11) (t : String) (v : SVal) (hrole : x.row.role ≤ h.role ses)
    (htxn : h.inTxn ses = false) (hparse : parseValue x.row.vt t = .ok v) (hsmear : h.time.smear.isSome = true)
    (hwin : h.inWindow ⟨x, 0, 0⟩ = false) : h.verbSet ses (smearText x) t = h.no 403 := by
  have hset : x.row.canSet = true := by rcases hx with rfl | rfl <;> rfl
  have hmode : x ≠ .systemMode := by rcases hx with rfl | rfl <;> decide
  have hses : isSession x = false := by rcases hx with rfl | rfl <;> rfl
  rw [h.verbSet_effect ses _ t ⟨x, 0, 0⟩ v (h.place_smear hx) hset hrole hparse hmode hses htxn]
  exact h.effectOf_refused ses _ v _ 403 (Hw.smear_not_violates hx _) (h.stateTest_smear hx v hsmear hwin) (by decide)

end

/-- Settles O59: the line passes every test of Table 7.4 before the state's, and the window in progress refuses it there. -/
theorem smearWindowRefusesItsSettings : Obligations.SmearWindowRefusesItsSettings := by
  unfold Obligations.SmearWindowRefusesItsSettings
  intro s ses x t v hx ⟨hready, hrole⟩ htxn hsmear hparse _ hwin
  have hholds : (s.hw.lined ses).role ses ≠ 0 := by
    have htwo : x.row.role = 2 := by rcases hx with rfl | rfl <;> rfl
    rw [Hw.lined_role]
    omega
  have hverb : (s.hw.lined ses).verb ses "set" [smearText x, t] = (s.hw.lined ses).no 403 := by
    rw [Hw.verb_set _ ses _ t (smearText_pathForm hx) hholds]
    refine Hw.verbSet_smear hx _ ses t v ?_ ?_ hparse hsmear hwin
    · rwa [Hw.lined_role]
    · rw [Hw.lined_inTxn, Hw.inTxn, htxn]
      rfl
  exact ⟨_, rfl, rfl, s.hw.runVerb_refused ses "set" [smearText x, t] 403 hready hverb⟩

end Sys2Proof.Machine
end

section
/-!
PROOFS. What an answer leaves of the transactions (R461, R465): the staged items of every session stay; and R67, a value of
`keep.retain` without bank 6 or bank 7 refused.
-/
set_option autoImplicit false

namespace Sys2Proof.Machine

/-! ## What an answer leaves in the transactions -/

@[simp] theorem Session.enqueue_txn (s : Session) (l : String) : (s.enqueue l).txn = s.txn := by
  unfold Session.enqueue
  split <;> rfl

@[simp] theorem Session.sendNotices_txn (s : Session) (ses : Nat) : (s.sendNotices ses).txn = s.txn := by
  unfold Session.sendNotices
  split <;> rfl

@[simp] theorem Session.answer_txn (s : Session) (ses : Nat) (tag : String) (body : List String) (term : String) :
    (s.answer ses tag body term).txn = s.txn := by
  unfold Session.answer
  exact List.foldlRecOn (motive := fun x : Session => x.txn = s.txn) (body ++ [term]) _ rfl fun _ hx _ _ => hx

/-- A change of one session that leaves its transaction leaves every session's. -/
theorem Hw.updSes_staged (h : Hw) (i m : Fin 11) (f : Session → Session) (hf : ∀ s, (f s).txn = s.txn) :
    ((h.updSes i f).mywi.sess[m]).txn = (h.mywi.sess[m]).txn := by
  by_cases hm : m = i
  · rw [hm, Hw.updSes_at, hf]
  · rw [Hw.updSes_ne h i m f hm]

/-- A notice waits in the queues of the sessions. -/
theorem Hw.deliver_staged (h : Hw) (n : Notice) (m : Fin 11) :
    ((h.deliver n).mywi.sess[m]).txn = (h.mywi.sess[m]).txn := by
  simp only [Hw.deliver, Fin.getElem_fin, Vector.getElem_map]
  split
  · exact Session.enqueue_txn _ _
  · rfl

theorem Hw.notice_staged (h : Hw) (s : Fin 28) (b : Nat) (stem : String) (args : List (String × String)) (m : Fin 11) :
    ((h.notice s b stem args).mywi.sess[m]).txn = (h.mywi.sess[m]).txn := by
  obtain ⟨-, -, -, hmywi, -⟩ := h.setEvt_frame s b
  rw [Hw.notice, Hw.deliver_staged, hmywi]

theorem Hw.putUnit_staged (h : Hw) (u : Fin 18) (y : TallyUnit) (m : Fin 11) :
    ((h.putUnit u y).mywi.sess[m]).txn = (h.mywi.sess[m]).txn := by
  unfold Hw.putUnit
  dsimp only
  split
  · rw [Hw.notice_staged]
  · rfl

theorem Hw.tcount_staged (h : Hw) (u : Fin 18) (code w : Nat) (m : Fin 11) :
    ((h.tcount u code w).mywi.sess[m]).txn = (h.mywi.sess[m]).txn := by
  unfold Hw.tcount
  dsimp only
  split
  · rfl
  · exact h.putUnit_staged u _ m

theorem Hw.setMbx_staged (h : Hw) (b : Nat) (m : Fin 11) :
    ((h.setMbx b).mywi.sess[m]).txn = (h.mywi.sess[m]).txn := by
  have hsess : (h.setMbx b).mywi.sess = h.mywi.sess := by rw [Hw.setMbx_mywi]
  rw [hsess]

theorem Hw.mbxPump_staged (h : Hw) (n : Nat) (m : Fin 11) :
    ((h.mbxPump n).mywi.sess[m]).txn = (h.mywi.sess[m]).txn := by
  induction n generalizing h with
  | zero => rfl
  | succ n ih =>
    unfold Hw.mbxPump
    dsimp only
    split
    · rfl
    · rw [ih, Hw.tcount_staged, Hw.setMbx_staged]
      exact h.updSes_staged 2 m (fun s => { s with out := s.out.drop _ }) fun _ => rfl

theorem Hw.pump_staged (h : Hw) (ses m : Fin 11) : ((h.pump ses).mywi.sess[m]).txn = (h.mywi.sess[m]).txn := by
  have hsend : ∀ s : Session, (if s.openS then s.sendNotices ses.val else s).txn = s.txn := by
    intro s
    split
    · exact s.sendNotices_txn ses.val
    · rfl
  unfold Hw.pump
  dsimp only
  split
  · rw [Hw.mbxPump_staged, Hw.updSes_staged h ses m _ hsend]
  · exact h.updSes_staged ses m _ hsend

theorem Hw.respond_staged (h : Hw) (ses m : Fin 11) (tag : String) (body : List String) (code : Nat) :
    ((h.respond ses tag body code).mywi.sess[m]).txn = (h.mywi.sess[m]).txn := by
  unfold Hw.respond
  rw [Hw.pump_staged, Hw.updSes_staged _ ses m _ fun s => s.answer_txn ses.val tag body (terminal code),
    (h.countLine_counts code).2]

/-- A line answered at once, with nothing to begin after it, leaves the transactions as its verb left them. -/
theorem Hw.finish_staged (g : Hw) (ses m : Fin 11) (tag : String) (a : Ans) (hwait : a.wait = false) (hafter : a.after = id) :
    ((g.finish ses tag a).mywi.sess[m]).txn = (a.hw.mywi.sess[m]).txn := by
  have hresp : ((Hw.baudMark a.hw (a.hw.respond ses tag a.body a.code) ses tag).mywi.sess[m]).txn =
      (a.hw.mywi.sess[m]).txn := by
    rw [(Hw.baudMark_keeps _ _ ses tag).2, Hw.respond_staged]
  unfold Hw.finish
  rw [hwait, hafter, if_neg (by decide)]
  dsimp only [id]
  split
  · exact (Hw.setMbx_staged _ 3 m).trans hresp
  · exact hresp

/-- A line that a verb refuses leaves what every session has staged. -/
theorem Hw.runVerb_refused_staged (h : Hw) (ses m : Fin 11) (verb : String) (args : List String) (code : Nat)
    (hready : h.sesReady ses = true) (hverb : (h.lined ses).verb ses verb args = (h.lined ses).no code) :
    ((h.runVerb ses verb args).mywi.sess[m]).txn = (h.mywi.sess[m]).txn := by
  have hrun : h.runVerb ses verb args = (h.lined ses).finish ses "" ((h.lined ses).no code) := by
    rw [← hverb, Hw.runVerb, hready]
    rfl
  rw [hrun, Hw.finish_staged _ ses m "" _ rfl rfl]
  exact h.updSes_staged ses m _ fun _ => rfl

/-! ## `set` of a value that its path refuses -/

/-- A well-formed `set` is refused with the code of its value, at once and in a transaction alike: the value is tested
before anything is staged. -/
theorem Hw.verbSet_badValue (h : Hw) (ses : Fin 11) (p t : String) (k : Key) (code : Nat)
    (hplace : h.place (h.inTxn ses) p = .leaf k) (hset : k.p.row.canSet = true) (hrole : k.p.row.role ≤ h.role ses)
    (hparse : parseValue k.p.row.vt t = .error code) : h.verbSet ses p t = h.no code := by
  simp [Hw.verbSet, hplace, hset, Hw.needs, Nat.not_lt.mpr hrole, hparse]

/-! ## R67 -/

/-- A bank list must name banks 6 and 7 to be a value of `keep.retain` (R67). -/
theorem parseValue_banks_refused (t : String) (l : List Nat) (hlist : natList 0 15 t.toList = .ok l)
    (hbanks : ¬ (6 ∈ l ∧ 7 ∈ l)) : parseValue (.text .banks) t = .error 302 := by
  have htest : (l.contains 6 && l.contains 7) = false := by
    rw [Bool.eq_false_iff]
    simpa using hbanks
  simp only [parseValue, parseText, hlist, htest]
  rfl

/-- Every running configuration provides `keep.retain`. -/
theorem Hw.place_keepRetain (h : Hw) (any : Bool) : h.place any "keep.retain" = .leaf ⟨.keepRetain, 0, 0⟩ := by
  have hfind : findPath "keep.retain" = some (some ⟨.keepRetain, 0, 0⟩) := by decide
  have hprov : h.provided ⟨.keepRetain, 0, 0⟩ = true := by simp [Hw.provided, stemOf, PathId.row, mkRow]
  simp [Hw.place, hfind, hprov]

/-- Settles O60: the value fails its own test, which comes before the tests of the state and before the transaction. -/
theorem retainedBanksKeep6And7 : Obligations.RetainedBanksKeep6And7 := by
  unfold Obligations.RetainedBanksKeep6And7
  intro s ses t l ⟨hready, hrole⟩ hlist hbanks
  have hrole' : PathId.keepRetain.row.role ≤ (s.hw.lined ses).role ses := by rwa [Hw.lined_role]
  have hholds : (s.hw.lined ses).role ses ≠ 0 := Nat.ne_of_gt (Nat.lt_of_lt_of_le (by decide) hrole')
  have hverb : (s.hw.lined ses).verb ses "set" ["keep.retain", t] = (s.hw.lined ses).no 302 := by
    rw [Hw.verb_set _ ses _ t (by decide) hholds]
    exact Hw.verbSet_badValue _ ses _ t ⟨.keepRetain, 0, 0⟩ 302 (Hw.place_keepRetain _ _) rfl hrole'
      (parseValue_banks_refused t l hlist hbanks)
  obtain ⟨hsett, -, hanswered⟩ := s.hw.runVerb_refused ses "set" ["keep.retain", t] 302 hready hverb
  exact ⟨_, rfl, rfl, hsett, s.hw.runVerb_refused_staged ses ses "set" _ 302 hready hverb, hanswered⟩

end Sys2Proof.Machine
end

section
/-!
PROOFS. What is not a response is not counted: sending what waits, and taking in what waits in the mailbox ring, leave the
counters of lines and of errors; and R135, an empty line ignored.
-/
set_option autoImplicit false

namespace Sys2Proof.Machine

/-! ## What an output leaves in the counters of errors -/

@[simp] theorem Hw.putUnit_errs (h : Hw) (u : Fin 18) (y : TallyUnit) : (h.putUnit u y).mywi.errs = h.mywi.errs := by
  unfold Hw.putUnit
  dsimp only
  split
  · simp [Hw.notice, Hw.deliver]
  · rfl

@[simp] theorem Hw.tcount_errs (h : Hw) (u : Fin 18) (code w : Nat) : (h.tcount u code w).mywi.errs = h.mywi.errs := by
  unfold Hw.tcount
  dsimp only
  split
  · rfl
  · exact h.putUnit_errs u _

@[simp] theorem Hw.mbxPump_errs (h : Hw) (n : Nat) : (h.mbxPump n).mywi.errs = h.mywi.errs := by
  induction n generalizing h with
  | zero => rfl
  | succ n ih =>
    unfold Hw.mbxPump
    dsimp only
    split
    · rfl
    · rw [ih, Hw.tcount_errs, Hw.setMbx_mywi]
      rfl

@[simp] theorem Hw.pump_errs (h : Hw) (ses : Fin 11) : (h.pump ses).mywi.errs = h.mywi.errs := by
  unfold Hw.pump
  dsimp only
  split
  · rw [Hw.mbxPump_errs]
    rfl
  · rfl

/-! ## What an input leaves in the counters of lines and of errors -/

/-- Neither a line nor an error is counted between `h` and `k`. -/
def SameCounts (h k : Hw) : Prop := k.mywi.lines = h.mywi.lines ∧ k.mywi.errs = h.mywi.errs

theorem SameCounts.trans {h k m : Hw} (hk : SameCounts h k) (km : SameCounts k m) : SameCounts h m :=
  ⟨km.1.trans hk.1, km.2.trans hk.2⟩

theorem Hw.updSes_counts (h : Hw) (i : Fin 11) (f : Session → Session) : SameCounts h (h.updSes i f) := ⟨rfl, rfl⟩

theorem Hw.setMbx_if_counts (h : Hw) (b : Nat) (c : Prop) [Decidable c] :
    SameCounts h (if c then h.setMbx b else h) := by
  unfold SameCounts
  split
  · rw [Hw.setMbx_mywi]
    exact ⟨rfl, rfl⟩
  · exact ⟨rfl, rfl⟩

theorem Hw.mbxPump_counts (h : Hw) (n : Nat) : SameCounts h (h.mbxPump n) := ⟨h.mbxPump_lines n, h.mbxPump_errs n⟩

theorem Hw.pump_counts (h : Hw) (ses : Fin 11) : SameCounts h (h.pump ses) := ⟨h.pump_lines ses, h.pump_errs ses⟩

/-- The bytes of a mailbox word go to the session one by one, 0x00 left out (R159). -/
theorem Hw.takeBytes_counts (l : List Nat) (h : Hw) :
    SameCounts h (l.foldl (fun (h : Hw) b => if b = 0 then h else h.takeByte 2 (BitVec.ofNat 8 b)) h) := by
  refine List.foldlRecOn (motive := SameCounts h) l _ ⟨rfl, rfl⟩ fun k hk b _ => ?_
  split
  · exact hk
  · exact hk.trans (k.updSes_counts 2 _)

theorem Hw.mbxTake_counts (h : Hw) (n : Nat) : SameCounts h (h.mbxTake n) := by
  induction n generalizing h with
  | zero => exact ⟨rfl, rfl⟩
  | succ n ih =>
    unfold Hw.mbxTake
    dsimp only
    split
    · exact ⟨rfl, rfl⟩
    · refine SameCounts.trans ?_ (ih _)
      refine SameCounts.trans ?_ (Hw.setMbx_if_counts _ 1 _)
      refine SameCounts.trans ?_ (Hw.takeBytes_counts _ _)
      exact ⟨Hw.tcount_lines _ 17 6 4, Hw.tcount_errs _ 17 6 4⟩

theorem Hw.inMoved_counts (h : Hw) (ses : Fin 11) : SameCounts h (h.inMoved ses) := by
  unfold Hw.inMoved
  split
  · exact ⟨rfl, rfl⟩
  · split
    · exact (h.mbxTake_counts 1024).trans (Hw.mbxPump_counts _ 512)
    · exact ⟨rfl, rfl⟩

/-! ## R135 -/

/-- Two changes of one session are one change. -/
theorem Hw.updSes_updSes (h : Hw) (i : Fin 11) (f g : Session → Session) :
    (h.updSes i f).updSes i g = h.updSes i (fun s => g (f s)) := by
  simp [Hw.updSes]

/-- A ready session's first complete line is taken out of its input and done. -/
theorem execMywiLine_takes (ses : Fin 11) (s : State) (l r : List InItem) (hready : s.hw.sesReady ses = true)
    (hline : firstLine (s.hw.mywi.sess[ses]).inBuf = some (l, r)) :
    execMywiLine ses s =
      .next { s with hw := ((s.hw.updSes ses (fun x => { x with inBuf := r })).lineDo ses l).inMoved ses } := by
  unfold execMywiLine
  rw [State.on_next, hready, Hw.when_true, hline]

/-- The bytes of a line are among its items. -/
theorem mem_of_mem_lineBytes {l : List InItem} {b : Byte} (hb : b ∈ lineBytes l) : .byte b ∈ l := by
  have hb' : b ∈ l.filterMap (fun (x : InItem) => match x with | .byte b => some b | .bad _ => none) := by
    unfold lineBytes at hb
    dsimp only at hb
    split at hb
    · exact List.mem_of_mem_dropLast hb
    · exact hb
  obtain ⟨x, hx, hxb⟩ := List.mem_filterMap.mp hb'
  cases x with
  | byte c => cases hxb; exact hx
  | bad n => cases hxb

section
variable {l : List InItem} (hsp : ∀ x ∈ l, x = .byte 0x20)
include hsp

theorem lineBytes_of_spaces {b : Byte} (hb : b ∈ lineBytes l) : b = 0x20 :=
  InItem.byte.inj (hsp _ (mem_of_mem_lineBytes hb))

/-- Spaces pass test 1 of Table 7.4. -/
theorem byteCode_of_spaces : byteCode l = 0 := by
  have hmark : ∀ n, l.any (fun (x : InItem) => decide (x = .bad n)) = false := by
    intro n
    rw [List.any_eq_false]
    intro x hx
    simp [hsp x hx]
  have hvalid : (lineBytes l).any (fun b => !decide (b = 0x09 ∨ (0x20 ≤ b.toNat ∧ b.toNat ≤ 0x7E))) = false := by
    rw [List.any_eq_false]
    intro b hb
    rw [lineBytes_of_spaces hsp hb]
    decide
  simp only [byteCode, hmark, hvalid, Bool.false_eq_true, if_false]

/-- A line of spaces, or of nothing, is answered by the prompt alone. -/
theorem Hw.lineDo_of_spaces (h : Hw) (ses : Fin 11) :
    h.lineDo ses l = (h.updSes ses (fun s => s.put s.promptText)).pump ses := by
  have hblank : ((lineBytes l).map (fun b => Char.ofNat b.toNat)).all (fun c => decide (c = ' ' ∨ c = '\t')) = true := by
    rw [List.all_map, List.all_eq_true]
    intro b hb
    rw [lineBytes_of_spaces hsp hb]
    decide
  unfold Hw.lineDo
  dsimp only
  rw [byteCode_of_spaces hsp, if_neg (by decide), if_pos hblank]

end

/-- Settles O58: spaces pass test 1, the line is then taken for blank, and nothing that follows counts a line or an error. -/
theorem emptyLinesAreIgnored : Obligations.EmptyLinesAreIgnored := by
  unfold Obligations.EmptyLinesAreIgnored
  intro s ses l r hready hline hsp
  have hdone : (s.hw.updSes ses (fun x => { x with inBuf := r })).lineDo ses l =
      (s.hw.updSes ses (fun x => { x with inBuf := r, out := x.out ++ x.promptText })).pump ses := by
    rw [Hw.lineDo_of_spaces hsp, Hw.updSes_updSes]
    rfl
  have hexec := execMywiLine_takes ses s l r hready hline
  rw [hdone] at hexec
  exact ⟨_, hexec, rfl, rfl, ((s.hw.updSes_counts ses _).trans (Hw.pump_counts _ ses)).trans (Hw.inMoved_counts _ ses)⟩

end Sys2Proof.Machine
end
